-- ==== Sys2Proof/Word.lean ====
section
/-! DEFINITION. The word types of the HN8 and the plain arithmetic of spec/00_scope.md ("Units and number conventions"). -/

namespace Sys2Proof

/-- One byte of a telegram (12, "every telegram is a row of bytes"). -/
abbrev Byte := BitVec 8

/-- A link address as the five header bits carry it; stations use 1 to 30 (12, header). -/
abbrev Addr := Fin 32

/-- A timer: stopped, or running with the instant of its end on the model's clock in ms (00 "Timers"). -/
abbrev Timer := Option Nat

/-- clamp(a, b, x) on naturals (00 "Clamping"). -/
def clampNat (a b x : Nat) : Nat := max a (min b x)

/-- clamp(a, b, x) on integers (00 "Clamping"). -/
def clampInt (a b x : Int) : Int := max a (min b x)

end Sys2Proof
end

