-- ==== Sys2Proof/Syntax.lean ====
section
/-! DEFINITION. The commands of the block: one constructor per row of spec/opcode_table.json. The table gives the rows no
fields; each constructor's operands are what the event carries by the row's rule (INVENTORY.md, Instructions; log entries
4, 6, 31). -/

namespace Sys2Proof

/-- The two drive channels. -/
inductive DriveId where
  | ma | mb
deriving DecidableEq, Repr

/-- A reset cause that lasts: the supply below the brown-out level, or RST held low (R169). -/
inductive ResetCause where
  | supply | rstPin
deriving DecidableEq, Repr

/-- How a stall was detected (R87): the motor current (0.1 A) that the last 200 ms never fell below, or no Hall pulse for
500 ms. -/
inductive StallCause where
  | current (i : Nat)
  | noPulse
deriving DecidableEq, Repr

/-- One sample of the analogue inputs T1 to T4 and L1, L2: measured resistances in mΩ (R184; log entry 31). -/
structure Analog where
  t1 : Nat
  t2 : Nat
  t3 : Nat
  t4 : Nat
  l1 : Nat
  l2 : Nat
deriving DecidableEq, Repr

/-- What a telegram's bytes hold beside its source, target and kind: the priority of header byte 1, the payload, and the
check as read (R153, 12 header). -/
structure Arrival where
  priority : Fin 8
  payload : List Byte
  check : Byte
deriving DecidableEq, Repr

/-- A telegram of any kind to any station (R153, 12 header). -/
structure Telegram where
  src : Addr
  tgt : Addr
  kind : Fin 8
  arrival : Arrival
deriving DecidableEq, Repr

/-- Load current in 0.1 A that the last 10 ms never fell below: under the threshold in force, and, where the inrush blanking
has ended within them, in the part before its end (R69). -/
structure TripRun where
  current : Nat
  blanked : Nat
deriving DecidableEq, Repr

/-- The commands. A switched channel SW1 to SW8 is named 0 to 7, an input D1 to D4 is named 0 to 3. -/
inductive Instr where
  /-- COLD_RESET (R169). -/
  | coldReset
  /-- WARM_RESET (R169). -/
  | warmReset
  /-- RESET_CAUSE_ENDS (R169): the supply has risen above 7.5 V, or RST has been released. -/
  | resetCauseEnds (c : ResetCause)
  /-- STRAP_READ_END (R171): strap voltages in µV; the first analogue sample, shunt voltage in
  nV and battery voltage in mV (R1, R183). -/
  | strapReadEnd (strapA strapB : Nat) (a : Analog) (shunt vbat : Int)
  /-- CLOSING_TIMER_EXPIRY (R176). -/
  | closingTimerExpiry
  /-- LIMIT_TIMER_EXPIRY (R176). -/
  | limitTimerExpiry
  /-- CC_SAMPLE (R4): differential voltage at the shunt input in nV, battery voltage in mV before its clamp (R2, R3; log entry 31). -/
  | ccSample (shunt vbat : Int)
  /-- BATTERY_PERIOD_TIMER_EXPIRY (R16). -/
  | batteryPeriodTimerExpiry
  /-- LINK_IDLE (R152). -/
  | linkIdle
  /-- CAUSE_ENTERS_SERVICE (R154). -/
  | causeEntersService
  /-- IDLE_LOST (R154). -/
  | idleLost
  /-- ARBITRATION_LOST (R155). -/
  | arbitrationLost
  /-- BIT_ERROR (R156). -/
  | bitError
  /-- OWN_TELEGRAM_OUTCOME (R158): the slots as read; true is dominant. -/
  | ownTelegramOutcome (heard taken : Bool)
  /-- FRAMING_ERROR (R151). -/
  | framingError
  /-- BREAK_DETECTED (R152). -/
  | breakDetected
  /-- MALFORMED_LENGTH (R153). -/
  | malformedLength
  /-- TELEGRAM_BAD_CHECK (R153): a complete telegram whose check the receiver found bad. -/
  | telegramBadCheck
  /-- STATE_RECEIVED (R22): a telegram's source and target, and what else arrived with it. -/
  | stateReceived (src tgt : Addr) (arrival : Arrival)
  /-- BATTERY_RECEIVED (R32). -/
  | batteryReceived (src tgt : Addr) (arrival : Arrival)
  /-- MEASURE_RECEIVED (R29). -/
  | measureReceived (src tgt : Addr) (arrival : Arrival)
  /-- SCENE_RECEIVED (R82). -/
  | sceneReceived (src tgt : Addr) (arrival : Arrival)
  /-- WAKE_RECEIVED (R180). -/
  | wakeReceived (src tgt : Addr) (arrival : Arrival)
  /-- OPERATE_RECEIVED (R161). -/
  | operateReceived (src tgt : Addr) (arrival : Arrival)
  /-- SETTINGS_RECEIVED (R161). -/
  | settingsReceived (src tgt : Addr) (arrival : Arrival)
  /-- ANSWER_RECEIVED (R160). -/
  | answerReceived (src tgt : Addr) (arrival : Arrival)
  /-- TELEGRAM_FOR_OTHER_STATION (R160): of a good one only the source matters. -/
  | telegramForOtherStation (telegram : Telegram)
  /-- PEER_STALE (R27). -/
  | peerStale (a : Addr)
  /-- PEER_LOST (R27). -/
  | peerLost (a : Addr)
  /-- PEER_CABIN_T_EXPIRY (R29). -/
  | peerCabinTExpiry (a : Addr)
  /-- STRANGER_SEEN_TIMER_EXPIRY (R24). -/
  | strangerSeenTimerExpiry
  /-- BATTERY_CANDIDATE_EXPIRY (R32). -/
  | batteryCandidateExpiry (a : Addr)
  /-- RESTORE_HOLDOFF_EXPIRY (R45). -/
  | restoreHoldoffExpiry
  /-- CHANNEL_END_TIMER_EXPIRY (R60). -/
  | channelEndTimerExpiry (ch : Fin 8)
  /-- CYCLE_PHASE_CHANGE (R65). -/
  | cyclePhaseChange (ch : Fin 8)
  /-- INRUSH_BLANKING_END (R69). -/
  | inrushBlankingEnd (ch : Fin 8)
  /-- CHANNEL_TRIP (R69): the load current of the last 10 ms. -/
  | channelTrip (ch : Fin 8) (run : TripRun)
  /-- TRIP_COOLDOWN_END (R70). -/
  | tripCooldownEnd (ch : Fin 8)
  /-- TRIP_HISTORY_EXPIRY (R71). -/
  | tripHistoryExpiry (ch : Fin 8)
  /-- OPEN_LOAD_DETECTED (R74): the load current, in 0.1 A, that the last 2 s never rose above. -/
  | openLoadDetected (ch : Fin 8) (current : Nat)
  /-- FADE_STEP (R79). -/
  | fadeStep (ch : Fin 8)
  /-- HALL_PULSE (R86). -/
  | hallPulse (d : DriveId)
  /-- DRIVE_STALL (R88). -/
  | driveStall (d : DriveId) (cause : StallCause)
  /-- DRIVE_OVERCURRENT (R87): motor current in 0.1 A. -/
  | driveOvercurrent (d : DriveId) (current : Nat)
  /-- TRAVEL_TIMER_EXPIRY (R89). -/
  | travelTimerExpiry (d : DriveId)
  /-- BRAKE_TIMER_EXPIRY (R96). -/
  | brakeTimerExpiry (d : DriveId)
  /-- GRANT_WAIT_TIMER_EXPIRY (R92). -/
  | grantWaitTimerExpiry (d : DriveId)
  /-- GUST_WINDOW_END (R103). -/
  | gustWindowEnd
  /-- GUST_LOCKOUT_EXPIRY (R103). -/
  | gustLockoutExpiry
  /-- TRV_READING_CHANGE (R106): the level read for 50 ms; true is asserted. -/
  | trvReadingChange (asserted : Bool)
  /-- SPEED_TIMEOUT (R98). -/
  | speedTimeout
  /-- SFE_SAMPLE (R184). -/
  | sfeSample (a : Analog)
  /-- DEBOUNCED_INPUT_CHANGE (R185): the level held for 50 ms; true is active. -/
  | debouncedInputChange (i : Fin 4) (active : Bool)
  /-- FLOW_PULSE (R113). -/
  | flowPulse
  /-- SPEED_PULSE (R98). -/
  | speedPulse
  /-- ANEMOMETER_PULSE (R103). -/
  | anemometerPulse
  /-- WF_EVALUATION (R110). -/
  | wfEvaluation
  /-- DRY_TIMER_EXPIRY (R117). -/
  | dryTimerExpiry (ch : Fin 8)
  /-- DUMP_TIMER_EXPIRY (R122). -/
  | dumpTimerExpiry
  /-- HT_EVALUATION (R129). -/
  | htEvaluation
  /-- MINIMUM_ON_TIMER_EXPIRY (R135). -/
  | minimumOnTimerExpiry
  /-- REST_TIMER_EXPIRY (R137). -/
  | restTimerExpiry
  /-- STATE_PERIOD_TIMER_EXPIRY (R164). -/
  | statePeriodTimerExpiry
  /-- URGENT_SPACING_TIMER_EXPIRY (R163). -/
  | urgentSpacingTimerExpiry
  /-- MEASURE_PERIOD_TIMER_EXPIRY (R166). -/
  | measurePeriodTimerExpiry
  /-- LIGHT_ON (R78): the oldest Inbound Queue entry, OPERATE LIGHT ON, is taken and applied. So for each OPERATE row below. -/
  | lightOn
  /-- LIGHT_OFF (R78). -/
  | lightOff
  /-- LIGHT_LEVEL (R78). -/
  | lightLevel
  /-- LIGHT_TIMED (R78). -/
  | lightTimed
  /-- AUX_ON (R60). -/
  | auxOn
  /-- AUX_OFF (R60). -/
  | auxOff
  /-- AUX_TIMED (R64). -/
  | auxTimed
  /-- PUMP_ON (R115). -/
  | pumpOn
  /-- PUMP_OFF (R115). -/
  | pumpOff
  /-- HEATER_ON (R138). -/
  | heaterOn
  /-- HEATER_OFF (R138). -/
  | heaterOff
  /-- HEATER_SET (R138). -/
  | heaterSet
  /-- HEATER_FROST_HOLD (R138). -/
  | heaterFrostHold
  /-- DUMP_RESET (R124). -/
  | dumpReset
  /-- WATER_RESET_VOLUME (R114). -/
  | waterResetVolume
  /-- STEP_EXTEND (R91). -/
  | stepExtend
  /-- STEP_RETRACT (R91). -/
  | stepRetract
  /-- STEP_STOP (R95). -/
  | stepStop
  /-- AWNING_EXTEND (R91). -/
  | awningExtend
  /-- AWNING_RETRACT (R91). -/
  | awningRetract
  /-- AWNING_STOP (R95). -/
  | awningStop
  /-- NODE_STORE (R147). -/
  | nodeStore
  /-- NODE_RESTART (R148). -/
  | nodeRestart
  /-- CHANNEL_RECORD (R59): the next record of the SETTINGS payload in hand is applied. So for each record row below. -/
  | channelRecord
  /-- CHANNEL_RECORD_DRIVE (R84). -/
  | channelRecordDrive
  /-- ROUTE_RECORD (R174). -/
  | routeRecord
  /-- FROST_RECORD (R109). -/
  | frostRecord
  /-- WATER_RECORD (R109). -/
  | waterRecord
  /-- HEAT_RECORD (R128). -/
  | heatRecord
  /-- BATTERY_A_RECORD (R18). -/
  | batteryARecord
  /-- BATTERY_V_RECORD (R18). -/
  | batteryVRecord
  /-- DRIVE_RECORD (R84). -/
  | driveRecord
  /-- CURVE_RECORD (R77). -/
  | curveRecord
  /-- SCENE_RECORD (R81). -/
  | sceneRecord
  /-- WIND_RECORD (R103). -/
  | windRecord
  /-- LINK_RECORD (R20). -/
  | linkRecord
  /-- TRV_RECORD (R105). -/
  | trvRecord
  /-- CLOSE_RECORD (R176). -/
  | closeRecord
  /-- UNKNOWN_OPERATE_CODE (R142). -/
  | unknownOperateCode
  /-- UNKNOWN_RECORD_TYPE (R177). -/
  | unknownRecordType
deriving DecidableEq, Repr

end Sys2Proof
end

