-- ==== Sys2Proof/Decode.lean ====
section
/-! DEFINITION. The words of the table. spec/opcode_table.json gives no row a fixed bit or a field, so no word spells a
command. (Telegram and record bytes are no words of the table: they are operands, read in Machine/Operands.lean.) -/

namespace Sys2Proof

/-- The command a table word spells: none, since no row has bits (log entry 3). -/
def decodeTableWord (_nbits _w : Nat) : Option Instr := none

end Sys2Proof
end

