-- ==== Sys2Proof/Config.lean ====
section
/-! DEFINITION. The fixed quantities of the part, each in the unit named; times are milliseconds of the model's clock. The
spec leaves no value of a result open, so there is no free value here. -/

namespace Sys2Proof.Config

/-- STRAP_READ lasts 20 ms (R170, R171). -/
def strapReadMs : Nat := 20
/-- Closing timer at entry to COMMISSIONING, 20 s (R175). -/
def closingMs : Nat := 20000
/-- The closing timer's end moves to 5 s after an applied record (R176). -/
def closingExtendMs : Nat := 5000
/-- Limit timer, 60 s (R175). -/
def limitMs : Nat := 60000
/-- Sample interval of the Charge Counter and of the Sensor Front End, 100 ms (R1, R183). -/
def sampleMs : Nat := 100
/-- Evaluation interval of the Water and Frost unit and of the Heating unit, 1 s (R110, R129). -/
def evaluationMs : Nat := 1000
/-- Ends of the shunt range: 50 mV in nV, and its reading in 10 mA (R2). -/
def shuntEndNv : Int := 50000000
def shuntEndReading : Int := 20000
/-- BATTERY period timer, 1 s (R16). -/
def batteryPeriodMs : Nat := 1000
/-- Samples below V_cut that set CUT (R13). -/
def cutRunLength : Nat := 100
/-- Samples at or above V_cut + 400 that clear CUT (R13). -/
def clearRunLength : Nat := 600
/-- Samples of the full synchronisation run (R14). -/
def syncRunLength : Nat := 1200
/-- PRESENT to STALE and STALE to LOST, normal aging (R27). -/
def staleMs : Nat := 6000
def lostMs : Nat := 20000
/-- PRESENT to STALE and STALE to LOST, dormant aging (R27). -/
def staleDormantMs : Nat := 90000
def lostDormantMs : Nat := 300000
/-- Age limit of a peer's cabin temperature, 30 s (R29). -/
def cabinAgeMs : Nat := 30000
/-- Stranger-seen timer, 60 s (R24). -/
def strangerMs : Nat := 60000
/-- Freshness of a battery candidate, 5 s (R32). -/
def candidateMs : Nat := 5000
/-- Places of the Peer Table (R21). -/
def peerPlaces : Nat := 16
/-- Restore holdoff, 10 s (R44). -/
def holdoffMs : Nat := 10000
/-- A throttle below 32 counts as zero (R48). -/
def throttleFloor : Nat := 32
/-- Inrush blanking, 200 ms (R69). -/
def blankingMs : Nat := 200
/-- A current above the threshold for 10 ms is a trip (R69). -/
def tripRunMs : Nat := 10
/-- A current below the bound for 2 s at full duty is an open load (R74). -/
def openLoadMs : Nat := 2000
/-- Overcurrent cooldown, 5 s (R70). -/
def cooldownMs : Nat := 5000
/-- Length of the trip history, 60 s (R71). -/
def tripHistoryMs : Nat := 60000
/-- Duty of an undimmed output (R67). -/
def fullDuty : Nat := 1023
/-- Grant wait, 5 s (R92). -/
def grantWaitMs : Nat := 5000
/-- Braking before a reversal, 300 ms (R96). -/
def brakeMs : Nat := 300
/-- Stall by a missing Hall pulse, 500 ms (R87). -/
def noPulseMs : Nat := 500
/-- SPEED stays active 2 s from each pulse (R98). -/
def speedMs : Nat := 2000
/-- Gust window, 3 s (R103). -/
def gustWindowMs : Nat := 3000
/-- Dry run with and without a flow sensor (R117). -/
def dryFlowMs : Nat := 15000
def dryNoFlowMs : Nat := 120000
/-- Dump valve run, 20 s (R122). -/
def valveRunS : Nat := 20
/-- Volume limit in cl (R113). -/
def volumeLimit : Nat := 9999999
/-- Minimum on time, fan run-on and rest of the burner (R133, R136). -/
def minimumOnMs : Nat := 300000
def runOnS : Nat := 120
def restMs : Nat := 180000
/-- Places of the Inbound Queue and of the Answer FIFO (R162, R165). -/
def queuePlaces : Nat := 6
/-- Urgent STATE spacing, 100 ms (R164). -/
def urgentSpacingMs : Nat := 100
/-- STATE period, 2 s, and 30 s in DORMANT (R164). -/
def statePeriodMs : Nat := 2000
def statePeriodDormantMs : Nat := 30000
/-- MEASURE period, 5 s (R166). -/
def measurePeriodMs : Nat := 5000
/-- Consecutive bit errors that set LINK_FAULT (R156). -/
def linkFaultCount : Nat := 3
/-- Consecutive unheard broadcasts that set ALONE (R158). -/
def aloneCount : Nat := 5
/-- Recomputations a chain of one instant may hold; the chain ends before this (R40; log entry 22). -/
def chainLength : Nat := 8

end Sys2Proof.Config
end

