-- ==== Sys2Proof/Machine/State.lean ====
section
/-! DEFINITION. The state of the node as plain data, block by block (00, Block overview), and its value right after a cold
reset. Every field's rule and reset value stand in INVENTORY.md under State. -/

namespace Sys2Proof.Machine

/-- The command stops the block. The spec names no event that does, so there is no constructor: no meaning raises a fault
(log entry 37). -/
inductive Fault where
deriving DecidableEq, Repr

/-- The command has no meaning in the model. -/
inductive Refusal where
  /-- Raised by an arm of exec whose meaning is not written yet; no meaning answers with it. Safe: the model stops. -/
  | notModelled (mnemonic : String)
deriving DecidableEq, Repr

/-! ### Names of the spec -/

/-- Node life states (00). -/
inductive LifeState where
  | reset | strapRead | strapFault | commissioning | run | dormant | listenOnly
deriving DecidableEq, Repr

/-- The states in which the blocks run (R21, R110, R183). -/
def LifeState.active : LifeState → Bool
  | .commissioning | .run | .dormant | .listenOnly => true
  | .reset | .strapRead | .strapFault => false

inductive ResetKind where
  | cold | warm
deriving DecidableEq, Repr

/-- Roles of a node (00). -/
inductive Role where
  | battery | water | heating | entry | awning | cab
deriving DecidableEq, Repr

/-- Role of a peer as stored: a node's role, or PANEL (R22). -/
inductive PeerRole where
  | node (r : Role)
  | panel
deriving DecidableEq, Repr

/-- Shed level: ALL_SHED, or the highest class allowed to run at full (03). -/
inductive Shed where
  | allShed
  | upTo (k : Fin 4)
deriving DecidableEq, Repr

/-- Position in the order ALL_SHED, 0, 1, 2, 3 (03). -/
def Shed.rank : Shed → Nat
  | .allShed => 0
  | .upTo k => k.val + 1

/-- Amounts per class 0 to 3, in 0.1 A. -/
structure Wants where
  w0 : Nat
  w1 : Nat
  w2 : Nat
  w3 : Nat
deriving DecidableEq, Repr

/-- The 16 flags of the flags word, in the order STATE carries them (12). -/
structure Flags where
  drive : Bool
  driveSrc : Bool
  wind : Bool
  frost : Bool
  dumped : Bool
  freshEmpty : Bool
  greyFull : Bool
  overdraw : Bool
  cut : Bool
  island : Bool
  noBattery : Bool
  dormant : Bool
  hello : Bool
  overflow : Bool
  sensorFault : Bool
  channelFault : Bool
deriving DecidableEq, Repr

/-- The six battery flags, in the order BATTERY carries them (12). -/
structure BattFlags where
  estimated : Bool
  cut : Bool
  cold : Bool
  shuntRange : Bool
  conflict : Bool
  emptyCount : Bool
deriving DecidableEq, Repr

/-- Battery values as CC hands them on and as a candidate holds them (R15, R32). -/
structure BattVals where
  soc : Nat
  l : Nat
  flags : BattFlags
deriving DecidableEq, Repr

/-- Functions an input route may name (R174). -/
inductive RouteFn where
  | none | pressureSw | door | ignition | flow | speed | anemometer
  | cabinT | outsideT | freshT | greyT | batteryT | freshLevel | greyLevel
deriving DecidableEq, Repr

/-- Functions of a switched channel (04). -/
inductive ChFn where
  | none | light | aux | pump | tankHeat | dumpValve | burner | burnerFan
deriving DecidableEq, Repr

inductive Mode where
  | level | timed | cycle | gated
deriving DecidableEq, Repr

inductive ChState where
  | off | on | held | tripped | fault
deriving DecidableEq, Repr

inductive DriveFn where
  | none | step | awning
deriving DecidableEq, Repr

/-- The nine drive states (05). -/
inductive DriveState where
  | unknown | retracted | extended | parked | waitGrant | extending | retracting | braking | jammed
deriving DecidableEq, Repr

inductive Dir where
  | extend | retract
deriving DecidableEq, Repr

inductive ForcedCause where
  | drive | wind
deriving DecidableEq, Repr

/-- Answer codes, numbered in 12. -/
inductive AnswerCode where
  | done | started | already | cancelled | refusedInterlock | refusedLowPower | refusedLocked | refusedFault
  | refusedHomeFirst | refusedForced | refusedBusy | noFunction | badAction
deriving DecidableEq, Repr

/-! ### Node Control (10) -/

/-- The strap results (R171, R172, R182). -/
inductive Strap where
  /-- From a reset until the end of STRAP_READ: no address and no role (log entry 40). -/
  | unread
  | fault
  | valid (addr : Addr) (role : Role)
deriving DecidableEq, Repr

structure NodeControl where
  life : LifeState
  /-- Instant of the entry to the life state: the STATUS pattern starts there (R187). -/
  lifeSince : Nat
  kind : ResetKind
  supplyLow : Bool
  rstLow : Bool
  strap : Strap
  strapTimer : Timer
  closing : Timer
  limit : Timer
  /-- RUN, or LISTEN_ONLY at the end of the window, has been entered since the reset: the frost guards and HT run
  (R118, R129). -/
  started : Bool
  /-- Instant of a wake that has raised no WAKE_OUT: a further cause at that instant may (R180). -/
  quietWake : Option Nat
  flags : Flags
deriving DecidableEq, Repr

/-! ### Charge Counter (01) -/

structure CcParams where
  cNom : Nat
  eta : Nat
  iMax : Nat
  iEss : Nat
  rLo : Nat
  rHi : Nat
  iTail : Nat
  vCut : Nat
  vEmpty : Nat
  vFull : Nat
deriving DecidableEq, Repr

/-- A charge count: Q in mA·s, the remainder F, and the counted capacity in Ah. -/
structure Count where
  q : Nat
  f : Nat
  capacity : Nat
deriving DecidableEq, Repr

structure ChargeCounter where
  params : CcParams
  count : Option Count
  estimated : Bool
  estimatedSinceReset : Bool
  ring : List Int
  cutRun : Nat
  clearRun : Nat
  syncRun : Nat
  cut : Bool
  shuntRange : Bool
  cold : Bool
  emptyCount : Bool
  conflict : Bool
  soc : Nat
  socUsed : Nat
  l : Nat
  /-- Clamped shunt reading, battery voltage and battery temperature of the latest sample (R2, R3). -/
  iS : Int
  v : Nat
  tb : Option Int
  /-- Values handed on at the latest sample since the reset (R15). -/
  handed : Option BattVals
  /-- L_sent and flags_sent (R16). -/
  sent : Option (Nat × BattFlags)
  period : Timer
  sensorPart : Bool
  next : Timer
deriving DecidableEq, Repr

/-! ### Peer Table (02) -/

inductive PeerStatus where
  | present | stale | lost
deriving DecidableEq, Repr

/-- A peer's cabin temperature and the instant its age counts from (R29). -/
structure CabinReading where
  value : Int
  since : Nat
deriving DecidableEq, Repr

structure Peer where
  addr : Addr
  role : PeerRole
  wants : Wants
  shed : Shed
  flags : Flags
  motionA : Nat
  motionB : Nat
  scene : Nat
  dormantAging : Bool
  status : PeerStatus
  /-- End of the last STATE: silence counts from here (R27). -/
  heardAt : Nat
  cabin : Option CabinReading
deriving DecidableEq, Repr

structure Candidate where
  addr : Addr
  vals : BattVals
  expires : Nat
deriving DecidableEq, Repr

/-- The battery source's address and values (R33). -/
structure BattView where
  source : Addr
  vals : BattVals
deriving DecidableEq, Repr

structure PeerTable where
  /-- In the order of their last STATE, oldest first (log entry 18). -/
  entries : List Peer
  candidates : List Candidate
  view : Option BattView
  stranger : Timer
  clash : Bool
  lIsland : Nat
  strangerReserve : Nat
deriving DecidableEq, Repr

/-! ### Load Budget (03) -/

structure Grantee where
  drive : DriveId
  m : Nat
deriving DecidableEq, Repr

structure LoadBudget where
  wOwn : Wants
  w : Wants
  t0 : Nat
  t1 : Nat
  t2 : Nat
  t3 : Nat
  lU : Nat
  cutUsed : Bool
  sRaw : Option Shed
  s : Shed
  firstPending : Bool
  holdoff : Timer
  f : Nat
  applied : Nat
  sEff : Shed
  overdraw : Bool
  grants : List Grantee
  /-- A recomputation is called for in this step (R39; log entry 22). -/
  trigger : Bool
deriving DecidableEq, Repr

/-! ### Switched channels and Light unit (04) -/

structure Channel where
  fn : ChFn
  inst : Nat
  cls : Nat
  nominal : Nat
  mode : Mode
  dimmable : Bool
  a : Nat
  b : Nat
  gate : RouteFn
  fade : Nat
  request : Bool
  endTimer : Timer
  /-- The request in force came with an end timer: a LEVEL channel then behaves as a TIMED one (R64). -/
  timedRequest : Bool
  target : Nat
  current : Nat
  exempt : Bool
  inhibit : Bool
  state : ChState
  throttled : Bool
  cycleOn : Bool
  cycleStart : Nat
  cycleB : Nat
  cycleTimer : Timer
  fadeTimer : Timer
  fadeInterval : Nat
  trips : List Nat
  cooldown : Timer
  blanking : Timer
  openLoad : Bool
  /-- Instant of the last turn-on: a trip run cannot have begun before it (R69). -/
  onSince : Nat
  /-- Instant since which the output has run at duty 1023 without a break; of meaning while it does (R74). -/
  fullSince : Nat
  /-- Class given by the Heating unit, in place of the record's (R68, R132, R136). -/
  givenClass : Option Nat
  duty : Nat
  dry : Timer
deriving DecidableEq, Repr

structure Scene where
  levels : Vector Nat 8
  fade : Nat
deriving DecidableEq, Repr

structure LightUnit where
  curve : Vector Nat 64
  scenes : Vector Scene 8
  lastScene : Nat
deriving DecidableEq, Repr

/-! ### Drives (05) -/

/-- Who asked, and for what: what an ANSWER copies from its OPERATE (12). -/
structure Requester where
  addr : Addr
  fn : Byte
  inst : Byte
  action : Byte
deriving DecidableEq, Repr

/-- The answer slot of a drive (R94). -/
inductive Slot where
  | empty
  | waiting (r : Requester)
  /-- Resolved at instant `since`, and kept for want of room. -/
  | kept (r : Requester) (code : AnswerCode) (since : Nat)
deriving DecidableEq, Repr

structure Drive where
  fn : DriveFn
  travelPulses : Nat
  travelTime : Nat
  stall : Nat
  nominal : Nat
  position : Nat
  state : DriveState
  origin : Option DriveState
  direction : Option Dir
  /-- Direction being braked (R86). -/
  braked : Option Dir
  homing : Bool
  forced : Option ForcedCause
  jam : Bool
  slot : Slot
  grantTimer : Timer
  travelTimer : Timer
  brakeTimer : Timer
  /-- The 500 ms without a pulse that make a stall (R87). -/
  pulseWatch : Timer
deriving DecidableEq, Repr

/-- The interlock view (R98). -/
structure Interlock where
  driveActive : Bool
  sourceKnown : Bool
  wind : Bool
deriving DecidableEq, Repr

structure GustDetector where
  kWind : Nat
  threshold : Nat
  lockoutTime : Nat
  pulses : Nat
  speed : Nat
  lockout : Timer
  windowEnd : Timer
deriving DecidableEq, Repr

structure TravelLine where
  maskIgnition : Bool
  maskSpeed : Bool
  reading : Bool
deriving DecidableEq, Repr

/-! ### Water and Frost unit (06) -/

structure WfParams where
  freshREmpty : Nat
  freshRFull : Nat
  greyREmpty : Nat
  greyRFull : Nat
  ppl : Nat
  frostOn : Int
  frostOff : Int
  dumpEnable : Bool
  dumpTemp : Int
  dumpDelay : Nat
deriving DecidableEq, Repr

/-- Frost guard states; the grey guard uses the first two (R118). -/
inductive Guard where
  | idle | heating | dumpPending | dumped
deriving DecidableEq, Repr

structure PumpLocks where
  freshEmpty : Bool
  dumped : Bool
  greyFull : Bool
  fault : Bool
  dormant : Bool
deriving DecidableEq, Repr

structure WaterFrost where
  params : WfParams
  freshPercent : Option Nat
  greyPercent : Option Nat
  freshEmpty : Bool
  greyFull : Bool
  volume : Nat
  remainder : Nat
  locks : PumpLocks
  fresh : Guard
  grey : Guard
  dumpTimer : Timer
  valveRun : Bool
  sensorPart : Bool
  next : Timer
deriving DecidableEq, Repr

/-! ### Heating unit (07) -/

structure HtParams where
  setpoint : Int
  hyst : Int
  heaterEnable : Bool
  frostHoldEnable : Bool
  frostFloor : Int
deriving DecidableEq, Repr

inductive Burner where
  | off | firing | runOn | rest
deriving DecidableEq, Repr

inductive CabinSource where
  | localInput | peer | none
deriving DecidableEq, Repr

structure Heating where
  params : HtParams
  burner : Burner
  lit : Bool
  heaterEnabled : Bool
  frostHoldEnabled : Bool
  setpoint : Int
  source : CabinSource
  tCab : Option Int
  normalDemand : Bool
  frostHold : Bool
  minimumOn : Timer
  rest : Timer
  sensorPart : Bool
  next : Timer
deriving DecidableEq, Repr

/-! ### Receive Filter, Inbound Queue and Operate Dispatcher (08, 09) -/

/-- An Inbound Queue entry (R162). -/
structure Entry where
  /-- OPERATE, or else SETTINGS. -/
  operate : Bool
  src : Addr
  addressed : Bool
  payload : List Byte
deriving DecidableEq, Repr

structure Dispatcher where
  iq : List Entry
  overflow : Bool
  /-- What is left of the SETTINGS payload being applied (R177). -/
  inHand : Option (List Byte)
  storePending : Bool
  restartPending : Bool
deriving DecidableEq, Repr

/-! ### Link Controller and Transmit Scheduler (09) -/

/-- Which pending request of the node ends when an answer leaves the FIFO (R147, R148). -/
inductive Ends where
  | nothing | store | restart
deriving DecidableEq, Repr

structure Answer where
  target : Addr
  fn : Byte
  inst : Byte
  action : Byte
  code : AnswerCode
  ends : Ends
deriving DecidableEq, Repr

/-- The cause in service. One STATE serves both STATE causes and remembers which it took (R164). -/
inductive ServiceCause where
  | wakeOut
  | batteryDue
  | state (urgent periodic : Bool)
  | answerDue
  | measureDue
deriving DecidableEq, Repr

structure Service where
  cause : ServiceCause
  /-- The start bit has been driven (R154). -/
  sending : Bool
  /-- The life state has changed since the telegram was assembled: should its start bit prove not to have been driven, the cause
  has returned (R163; log entry 51). -/
  overtaken : Bool
  priority : Nat
  /-- The telegram's bytes on the wire: header, length, payload, check (12). -/
  wire : List Byte
  /-- L and battery flags a BATTERY payload carries (R17). -/
  battery : Nat × BattFlags
  /-- The STATE carries HELLO (R164). -/
  hello : Bool
deriving DecidableEq, Repr

inductive RxPhase where
  /-- Between telegrams. -/
  | ready
  /-- A telegram of another station is being read. -/
  | inHand
  /-- Nothing is taken until the link is idle (R152, R153). -/
  | discarding
deriving DecidableEq, Repr

structure LinkController where
  synchronised : Bool
  idle : Bool
  rx : RxPhase
  service : Option Service
  bitErrors : Nat
  unheard : Nat
  badChecks : Nat
  linkFault : Bool
  alone : Bool
  /-- What the node drove into the receipt of the last complete telegram (R157). -/
  heardSlot : Bool
  takenSlot : Bool
  /-- The break after a bit error: the node drives the link dominant for 14 bit times (R156; log entry 39 for its end). -/
  breaking : Bool
deriving DecidableEq, Repr

/-- The pending-cause set but for ANSWER_DUE, which follows the Answer FIFO (R163). -/
structure Causes where
  wakeOut : Bool
  batteryDue : Bool
  stateUrgent : Bool
  statePeriodic : Bool
  measureDue : Bool
deriving DecidableEq, Repr

structure Scheduler where
  pending : Causes
  fifo : List Answer
  hello : Bool
  spacing : Timer
  statePeriod : Timer
  measurePeriod : Timer
deriving DecidableEq, Repr

/-! ### Sensor Front End (11) -/

structure SensorFrontEnd where
  /-- Valid samples of T1 to T4 within the last 1 s, oldest first, in 0.1 °C. -/
  temps : Vector (List Int) 4
  /-- Valid samples of L1, L2, in Ω. -/
  levels : Vector (List Int) 2
  inputs : Vector Bool 4
  routes : Vector RouteFn 12
  /-- The 2 s from the last pulse of the input that serves SPEED (R98; log entry 38). -/
  speedTimer : Timer
  /-- Quantity codes of the MEASURE list (R186). -/
  measureList : List Nat
  pointer : Nat
  next : Timer
deriving DecidableEq, Repr

/-! ### The node -/

structure State where
  /-- The model's clock, in ms (log entry 1). -/
  now : Nat
  nc : NodeControl
  cc : ChargeCounter
  pt : PeerTable
  lb : LoadBudget
  sw : Vector Channel 8
  light : LightUnit
  ma : Drive
  mb : Drive
  interlock : Interlock
  gust : GustDetector
  trv : TravelLine
  wf : WaterFrost
  ht : Heating
  od : Dispatcher
  lc : LinkController
  ts : Scheduler
  sfe : SensorFrontEnd
  /-- Commands that wait, first in, first out. -/
  pending : List Instr
deriving DecidableEq, Repr

/-! ### Reset values (R19, R36, R58, R83, R108, R127, R139, R150, R168, R182, R183) -/

def Wants.zero : Wants := ⟨0, 0, 0, 0⟩

def Flags.clear : Flags :=
  ⟨false, false, false, false, false, false, false, false, false, false, false, false, false, false, false, false⟩

def BattFlags.clear : BattFlags := ⟨false, false, false, false, false, false⟩

/-- After any reset every flag is clear but HELLO (R182). -/
def Flags.atReset : Flags := { Flags.clear with hello := true }

/-- Table of the parameters (01). -/
def CcParams.defaults : CcParams :=
  { cNom := 100, eta := 95, iMax := 800, iEss := 100, rLo := 20, rHi := 50, iTail := 200,
    vCut := 11600, vEmpty := 11800, vFull := 14200 }

def ChargeCounter.atReset : ChargeCounter :=
  { params := CcParams.defaults, count := none, estimated := false, estimatedSinceReset := false, ring := [],
    cutRun := 0, clearRun := 0, syncRun := 0, cut := false, shuntRange := false, cold := false, emptyCount := false,
    conflict := false, soc := 0, socUsed := 0, l := 0, iS := 0, v := 0, tb := none, handed := none, sent := none,
    period := none, sensorPart := false, next := none }

def PeerTable.atReset : PeerTable :=
  { entries := [], candidates := [], view := none, stranger := none, clash := false, lIsland := 100,
    strangerReserve := 50 }

def LoadBudget.atReset : LoadBudget :=
  { wOwn := Wants.zero, w := Wants.zero, t0 := 0, t1 := 0, t2 := 0, t3 := 0, lU := 0, cutUsed := false, sRaw := none,
    s := .allShed, firstPending := true, holdoff := none, f := 0, applied := 0, sEff := .allShed, overdraw := false,
    grants := [], trigger := false }

/-- A channel without function (R173: "a channel not listed is NONE"). -/
def Channel.blank : Channel :=
  { fn := .none, inst := 0, cls := 0, nominal := 0, mode := .level, dimmable := false, a := 60, b := 120, gate := .none,
    fade := 20, request := false, endTimer := none, timedRequest := false, target := 0, current := 0, exempt := false, inhibit := false,
    state := .off, throttled := false, cycleOn := false, cycleStart := 0, cycleB := 0, cycleTimer := none,
    fadeTimer := none, fadeInterval := 0, trips := [], cooldown := none, blanking := none, openLoad := false,
    onSince := 0, fullSince := 0, givenClass := none, duty := 0, dry := none }

/-- Entry i of the default curve is floor(1023 i² / 3969) (R77). -/
def LightUnit.defaultCurve : Vector Nat 64 :=
  ⟨((List.range 64).map fun i => 1023 * i ^ 2 / 3969).toArray, by simp⟩

def Scene.blank : Scene := ⟨⟨#[255, 255, 255, 255, 255, 255, 255, 255], rfl⟩, 20⟩

def LightUnit.atReset : LightUnit :=
  { curve := LightUnit.defaultCurve,
    scenes := ⟨#[Scene.blank, Scene.blank, Scene.blank, Scene.blank, Scene.blank, Scene.blank, Scene.blank, Scene.blank],
      rfl⟩,
    lastScene := 0 }

/-- A drive of function `fn` with its default parameters, UNKNOWN at position 0 (05 defaults table, R84, R108). A drive
without function has parameters 0 (log entry 8). -/
def Drive.blank (fn : DriveFn) : Drive :=
  { fn := fn
    travelPulses := match fn with | .none => 0 | .step => 400 | .awning => 3000
    travelTime := match fn with | .none => 0 | .step => 40 | .awning => 300
    stall := match fn with | .none => 0 | .step => 120 | .awning => 90
    nominal := match fn with | .none => 0 | .step => 80 | .awning => 60
    position := 0, state := .unknown, origin := none, direction := none, braked := none, homing := false, forced := none,
    jam := false, slot := .empty, grantTimer := none, travelTimer := none, brakeTimer := none, pulseWatch := none }

def Interlock.atReset : Interlock := ⟨false, false, false⟩

def GustDetector.atReset : GustDetector :=
  { kWind := 2, threshold := 100, lockoutTime := 600, pulses := 0, speed := 0, lockout := none, windowEnd := none }

def TravelLine.atReset : TravelLine := ⟨false, false, false⟩

/-- Table of the parameters (06). -/
def WfParams.defaults : WfParams :=
  { freshREmpty := 10, freshRFull := 180, greyREmpty := 10, greyRFull := 180, ppl := 450, frostOn := 30, frostOff := 60,
    dumpEnable := true, dumpTemp := 5, dumpDelay := 600 }

def PumpLocks.none : PumpLocks := ⟨false, false, false, false, false⟩

def WaterFrost.atReset : WaterFrost :=
  { params := WfParams.defaults, freshPercent := .none, greyPercent := .none, freshEmpty := false, greyFull := false,
    volume := 0, remainder := 0, locks := PumpLocks.none, fresh := .idle, grey := .idle, dumpTimer := .none,
    valveRun := false, sensorPart := false, next := .none }

/-- Table of the parameters (07). -/
def HtParams.defaults : HtParams :=
  { setpoint := 180, hyst := 5, heaterEnable := false, frostHoldEnable := true, frostFloor := 50 }

def Heating.atReset : Heating :=
  { params := HtParams.defaults, burner := .off, lit := false, heaterEnabled := false, frostHoldEnabled := false,
    setpoint := 180, source := .none, tCab := .none, normalDemand := false, frostHold := false, minimumOn := .none,
    rest := .none, sensorPart := false, next := .none }

def Dispatcher.atReset : Dispatcher :=
  { iq := [], overflow := false, inHand := none, storePending := false, restartPending := false }

def LinkController.atReset : LinkController :=
  { synchronised := false, idle := false, rx := .ready, service := none, bitErrors := 0, unheard := 0, badChecks := 0,
    linkFault := false, alone := false, heardSlot := false, takenSlot := false, breaking := false }

def Causes.none : Causes := ⟨false, false, false, false, false⟩

def Scheduler.atReset : Scheduler :=
  { pending := Causes.none, fifo := [], hello := true, spacing := .none, statePeriod := .none, measurePeriod := .none }

/-- The MEASURE list is empty until it is formed at the entry to COMMISSIONING (R186; log entry 7). -/
def SensorFrontEnd.atReset : SensorFrontEnd :=
  { temps := ⟨#[[], [], [], []], rfl⟩, levels := ⟨#[[], []], rfl⟩, inputs := ⟨#[false, false, false, false], rfl⟩,
    routes := ⟨#[.none, .none, .none, .none, .none, .none, .none, .none, .none, .none, .none, .none], rfl⟩,
    speedTimer := none, measureList := [], pointer := 0, next := none }

def NodeControl.atReset : NodeControl :=
  { life := .reset, lifeSince := 0, kind := .cold, supplyLow := true, rstLow := false, strap := .unread,
    strapTimer := none, closing := none, limit := none, started := false, quietWake := none,
    flags := Flags.atReset }

def Channels.atReset : Vector Channel 8 :=
  ⟨#[Channel.blank, Channel.blank, Channel.blank, Channel.blank, Channel.blank, Channel.blank, Channel.blank,
     Channel.blank], rfl⟩

/-- The node right after a cold reset, the supply still low (R169, R182). -/
def State.reset : State :=
  { now := 0, nc := NodeControl.atReset, cc := ChargeCounter.atReset, pt := PeerTable.atReset, lb := LoadBudget.atReset,
    sw := Channels.atReset, light := LightUnit.atReset, ma := Drive.blank .none, mb := Drive.blank .none,
    interlock := Interlock.atReset, gust := GustDetector.atReset, trv := TravelLine.atReset, wf := WaterFrost.atReset,
    ht := Heating.atReset, od := Dispatcher.atReset, lc := LinkController.atReset, ts := Scheduler.atReset,
    sfe := SensorFrontEnd.atReset, pending := [] }

end Sys2Proof.Machine
end

