-- ==== Sys2Proof/Machine/Codec.lean ====
section
/-! DEFINITION. Field coding of telegrams and records: byte order, packing, signed fields, the code tables and the CRC-8
(R153, R188, and 12 Code tables). -/

namespace Sys2Proof.Machine

/-- Byte `i` of a payload as a number. -/
def byteAt (p : List Byte) (i : Nat) : Nat := (p.getD i 0).toNat

/-- A two-byte field, most significant byte first (R188). -/
def wordAt (p : List Byte) (i : Nat) : Nat := byteAt p i * 256 + byteAt p (i + 1)

/-- A 16-bit number as two's complement (R188). -/
def signed16 (n : Nat) : Int := if n < 32768 then n else (n : Int) - 65536

/-- Several bytes read as one number, the first byte most significant. -/
def bytesNat (p : List Byte) : Nat := p.foldl (fun n b => n * 256 + b.toNat) 0

/-- The `w` bits of `n` above its lowest `k`. -/
def bitsAt (n k w : Nat) : Nat := n / 2 ^ k % 2 ^ w

def byteOf (n : Nat) : Byte := BitVec.ofNat 8 n

/-- Two bytes of a number, most significant first (R188). -/
def putWord (n : Nat) : List Byte := [byteOf (n / 256), byteOf n]

/-- Two's complement in two bytes (R188). -/
def putSigned16 (x : Int) : List Byte := putWord (x % 65536).toNat

/-- Two's complement in one byte (R188). -/
def putSigned8 (x : Int) : Byte := byteOf (x % 256).toNat

/-- The invalid marker of MEASURE values (R188). -/
def invalidMarker : Int := -32768

/-- Bits to a number, the first most significant. -/
def bitsNat (bs : List Bool) : Nat := bs.foldl (fun n b => n * 2 + b.toNat) 0

/-- One CRC bit step for x⁸ + x² + x + 1 (R153). -/
def crcBit (c : Byte) : Byte := if c.msb then (c <<< 1) ^^^ 7 else c <<< 1

/-- One byte into the CRC, most significant bit first (R153). -/
def crcByte (c b : Byte) : Byte := (List.range 8).foldl (fun c _ => crcBit c) (c ^^^ b)

/-- CRC-8 with initial value 0 (R153). -/
def crc8 (p : List Byte) : Byte := p.foldl crcByte 0

/-! ### Flags (12, STATE and BATTERY) -/

def Flags.bits (f : Flags) : List Bool :=
  [f.drive, f.driveSrc, f.wind, f.frost, f.dumped, f.freshEmpty, f.greyFull, f.overdraw,
   f.cut, f.island, f.noBattery, f.dormant, f.hello, f.overflow, f.sensorFault, f.channelFault]

/-- The two flag bytes of STATE as one number, byte 8 above byte 9. -/
def Flags.toNat (f : Flags) : Nat := bitsNat f.bits

def Flags.ofNat (n : Nat) : Flags :=
  { drive := n.testBit 15, driveSrc := n.testBit 14, wind := n.testBit 13, frost := n.testBit 12, dumped := n.testBit 11,
    freshEmpty := n.testBit 10, greyFull := n.testBit 9, overdraw := n.testBit 8, cut := n.testBit 7,
    island := n.testBit 6, noBattery := n.testBit 5, dormant := n.testBit 4, hello := n.testBit 3,
    overflow := n.testBit 2, sensorFault := n.testBit 1, channelFault := n.testBit 0 }

/-- The flag byte of BATTERY: bits 7 to 2. -/
def BattFlags.toNat (f : BattFlags) : Nat :=
  bitsNat [f.estimated, f.cut, f.cold, f.shuntRange, f.conflict, f.emptyCount, false, false]

def BattFlags.ofNat (n : Nat) : BattFlags :=
  { estimated := n.testBit 7, cut := n.testBit 6, cold := n.testBit 5, shuntRange := n.testBit 4,
    conflict := n.testBit 3, emptyCount := n.testBit 2 }

/-! ### Codes (12, Code tables) -/

def Role.code : Role → Nat
  | .battery => 0 | .water => 1 | .heating => 2 | .entry => 3 | .awning => 4 | .cab => 5

/-- A role of 0 to 5 is that role, any other is PANEL (R22, R189). -/
def peerRoleOf : Nat → PeerRole
  | 0 => .node .battery | 1 => .node .water | 2 => .node .heating | 3 => .node .entry | 4 => .node .awning
  | 5 => .node .cab | _ => .panel

/-- ALL_SHED is carried as 7 (03). -/
def Shed.code : Shed → Nat
  | .allShed => 7
  | .upTo k => k.val

/-- S other than 0 to 3 is ALL_SHED (R189). -/
def shedOf (n : Nat) : Shed := if h : n < 4 then .upTo ⟨n, h⟩ else .allShed

/-- Motion codes (12). -/
def DriveState.code : DriveState → Nat
  | .unknown => 0 | .retracted => 1 | .extended => 2 | .parked => 3 | .waitGrant => 4 | .extending => 5
  | .retracting => 6 | .braking => 7 | .jammed => 8

/-- Answer codes (12). -/
def AnswerCode.code : AnswerCode → Nat
  | .done => 0 | .started => 1 | .already => 2 | .cancelled => 3 | .refusedInterlock => 4 | .refusedLowPower => 5
  | .refusedLocked => 6 | .refusedFault => 7 | .refusedHomeFirst => 8 | .refusedForced => 9 | .refusedBusy => 10
  | .noFunction => 11 | .badAction => 12

/-- Function codes a switched channel may have; any other is NONE (R59). -/
def chFnOf : Nat → ChFn
  | 2 => .light | 3 => .aux | 4 => .pump | 10 => .tankHeat | 11 => .dumpValve | 12 => .burner | 13 => .burnerFan
  | _ => .none

/-- Function codes a drive may have; any other is NONE (R84). -/
def driveFnOf : Nat → DriveFn
  | 8 => .step | 9 => .awning | _ => .none

/-- Gate codes; any other is none (R59). -/
def gateOf : Nat → RouteFn
  | 16 => .pressureSw | 17 => .door | 18 => .ignition | _ => .none

/-- Functions the routing entry `n` (numbered from 0 in the order D1 to D4, P1, P2, T1 to T4, L1, L2) may serve; any other
code makes it NONE (R174). -/
def routeFnOf (n code : Nat) : RouteFn :=
  if n < 4 then gateOf code
  else if n < 6 then match code with | 19 => .flow | 20 => .speed | 21 => .anemometer | _ => .none
  else if n < 10 then
    match code with | 24 => .cabinT | 25 => .outsideT | 26 => .freshT | 27 => .greyT | 28 => .batteryT | _ => .none
  else match code with | 29 => .freshLevel | 30 => .greyLevel | _ => .none

def modeOf : Nat → Mode
  | 0 => .level | 1 => .timed | 2 => .cycle | _ => .gated

/-! ### Whole telegrams (12, Header) -/

/-- What the check is taken over: two header bytes, length, payload (R153). -/
def telegramBody (priority kind : Nat) (src tgt : Addr) (payload : List Byte) : List Byte :=
  byteOf (priority * 32 + src.val) :: byteOf (tgt.val * 8 + kind) :: byteOf payload.length :: payload

/-- The bytes of a telegram: header, length, payload, check (R153). -/
def telegramBytes (priority kind : Nat) (src tgt : Addr) (payload : List Byte) : List Byte :=
  telegramBody priority kind src tgt payload ++ [crc8 (telegramBody priority kind src tgt payload)]

/-- The check a receiver computes over the telegram equals the one that came with it (R153). -/
def goodCheck (kind : Nat) (src tgt : Addr) (a : Arrival) : Bool :=
  crc8 (telegramBody a.priority kind src tgt a.payload) = a.check

/-- What arrives of a telegram that a sender of this priority has sent, unspoilt (R153). -/
def sent (priority : Fin 8) (kind : Nat) (src tgt : Addr) (payload : List Byte) : Arrival :=
  ⟨priority, payload, crc8 (telegramBody priority kind src tgt payload)⟩

/-- Kind codes of the telegrams that a node reads (12). -/
def kindWake : Nat := 0
def kindBattery : Nat := 1
def kindState : Nat := 2
def kindAnswer : Nat := 3
def kindOperate : Nat := 4
def kindScene : Nat := 5
def kindSettings : Nat := 6
def kindMeasure : Nat := 7

def ServiceCause.kind : ServiceCause → Nat
  | .wakeOut => kindWake
  | .batteryDue => kindBattery
  | .state _ _ => kindState
  | .answerDue => kindAnswer
  | .measureDue => kindMeasure

end Sys2Proof.Machine
end

