-- ==== Sys2Proof/Machine/Ops.lean ====
section
/-! DEFINITION. The named operations over the state that the meanings share: the clock, the channels and drives, the inputs
by function, the pending causes, the Answer FIFO and the kept answers. -/

namespace Sys2Proof.Machine

/-! ### Clock and identity -/

/-- An event that falls at instant `e` brings the clock there; the clock never runs back (log entry 2). -/
def State.reach (e : Nat) (s : State) : State := { s with now := max s.now e }

/-- An event that falls at the end of a timer: with the timer stopped it does not come about (log entry 2). -/
def State.onExpiry (t : Timer) (f : State → State) (s : State) : State :=
  match t with
  | none => s
  | some e => f (s.reach e)

def State.life (s : State) : LifeState := s.nc.life

/-- Own link address, once the straps are read (R171). -/
def State.ownAddr (s : State) : Option Addr :=
  match s.nc.strap with
  | .valid a _ => some a
  | .unread | .fault => none

def State.role (s : State) : Option Role :=
  match s.nc.strap with
  | .valid _ r => some r
  | .unread | .fault => none

def State.isBattery (s : State) : Bool := s.role = some .battery

/-! ### Switched channels -/

/-- The eight channel numbers, SW1 to SW8. -/
def channelNumbers : List (Fin 8) := [0, 1, 2, 3, 4, 5, 6, 7]

/-- One change made on every channel. -/
def mapChannels (f : Channel → Channel) (v : Vector Channel 8) : Vector Channel 8 :=
  ⟨#[f v[0], f v[1], f v[2], f v[3], f v[4], f v[5], f v[6], f v[7]], rfl⟩

def State.onChannels (f : Channel → Channel) (s : State) : State := { s with sw := mapChannels f s.sw }

/-- One change made on every channel of a function. -/
def State.onFunction (fn : ChFn) (f : Channel → Channel) (s : State) : State :=
  s.onChannels fun c => if c.fn = fn then f c else c

/-- One change made on one channel. -/
def State.onChannel (i : Fin 8) (f : Channel → Channel) (s : State) : State :=
  { s with sw := s.sw.set i.val (f s.sw[i]) i.isLt }

def State.anyChannel (s : State) (p : Channel → Bool) : Bool :=
  p s.sw[0] || p s.sw[1] || p s.sw[2] || p s.sw[3] || p s.sw[4] || p s.sw[5] || p s.sw[6] || p s.sw[7]

def State.hasChannel (s : State) (fn : ChFn) : Bool := s.anyChannel fun c => c.fn = fn

def State.channelFaulted (s : State) (fn : ChFn) : Bool := s.anyChannel fun c => c.fn = fn && c.state = .fault

/-! ### Drives -/

def State.drive (s : State) : DriveId → Drive
  | .ma => s.ma
  | .mb => s.mb

def State.setDrive (s : State) : DriveId → Drive → State
  | .ma, d => { s with ma := d }
  | .mb, d => { s with mb := d }

def State.onDrive (i : DriveId) (f : Drive → Drive) (s : State) : State := s.setDrive i (f (s.drive i))

/-- EXTENDING, RETRACTING, BRAKING or WAIT_GRANT (R147). -/
def DriveState.busy : DriveState → Bool
  | .extending | .retracting | .braking | .waitGrant => true
  | .unknown | .retracted | .extended | .parked | .jammed => false

def State.driveBusy (s : State) : Bool := s.ma.state.busy || s.mb.state.busy

/-! ### Inputs by function (R174, R183, R185) -/

/-- Number, from 0, of the lowest routing entry that names `f`: the entry that serves it (R174). -/
def State.entryOf (s : State) (f : RouteFn) : Option Nat := s.sfe.routes.toList.findIdx? (· = f)

def State.routed (s : State) (f : RouteFn) : Bool := (s.entryOf f).isSome

/-- Debounced state of the input that serves a switch function; a function without input is never active (R66, R174). -/
def State.switchActive (s : State) (f : RouteFn) : Bool :=
  match f, s.entryOf f with
  | .none, _ => false
  | _, some n => s.sfe.inputs.toList.getD n false
  | _, none => false

/-- Mean of the samples in a filter, floored; invalid when it holds none (R184). -/
def filterReading : List Int → Option Int
  | [] => none
  | x :: xs => some ((x :: xs).sum / ((x :: xs).length : Int))

/-- Reading of the input that serves a temperature function (R184). -/
def State.temperature (s : State) (f : RouteFn) : Option Int :=
  match s.entryOf f with
  | some n => if 6 ≤ n then filterReading (s.sfe.temps.toList.getD (n - 6) []) else none
  | none => none

/-- Reading in Ω of the input that serves a level function (R184). -/
def State.level (s : State) (f : RouteFn) : Option Int :=
  match s.entryOf f with
  | some n => if 10 ≤ n then filterReading (s.sfe.levels.toList.getD (n - 10) []) else none
  | none => none

/-- Own IGNITION input active (R98). -/
def State.ignitionActive (s : State) : Bool := s.switchActive .ignition

/-- Own SPEED input active: routed, and a pulse within the last 2 s (R98). -/
def State.speedActive (s : State) : Bool := s.routed .speed && s.sfe.speedTimer.isSome

/-! ### Pending causes (R163) -/

def State.onCauses (f : Causes → Causes) (s : State) : State := { s with ts := { s.ts with pending := f s.ts.pending } }

def State.raiseUrgent (s : State) : State := s.onCauses fun c => { c with stateUrgent := true }
def State.raisePeriodic (s : State) : State := s.onCauses fun c => { c with statePeriodic := true }
def State.raiseBattery (s : State) : State := s.onCauses fun c => { c with batteryDue := true }
def State.raiseWake (s : State) : State := s.onCauses fun c => { c with wakeOut := true }
def State.raiseMeasure (s : State) : State := s.onCauses fun c => { c with measureDue := true }

/-- A recomputation of the Load Budget is called for (R39). -/
def State.trigger (s : State) : State := { s with lb := { s.lb with trigger := true } }

/-! ### Answers (R94, R145, R165) -/

def Requester.answer (r : Requester) (code : AnswerCode) (ends : Ends := .nothing) : Answer :=
  { target := r.addr, fn := r.fn, inst := r.inst, action := r.action, code := code, ends := ends }

def State.fifoHasRoom (s : State) : Bool := s.ts.fifo.length < Config.queuePlaces

/-- Places an answer at the end of the FIFO where it has room: every producer waits for room (R165). -/
def State.place (a : Answer) (s : State) : State :=
  if s.fifoHasRoom then { s with ts := { s.ts with fifo := s.ts.fifo ++ [a] } } else s

/-- An answer of the Operate Dispatcher: an addressed request has a requester, a broadcast has none (R145). -/
def State.reply (r : Option Requester) (code : AnswerCode) (s : State) : State :=
  match r with
  | some r => s.place (r.answer code)
  | none => s

/-- The unresolved answer of a drive resolves: placed at once where the FIFO has room, else kept (R94). -/
def State.resolve (i : DriveId) (code : AnswerCode) (s : State) : State :=
  match (s.drive i).slot with
  | .waiting r =>
    if s.fifoHasRoom then (s.onDrive i fun d => { d with slot := .empty }).place (r.answer code)
    else s.onDrive i fun d => { d with slot := .kept r code s.now }
  | .empty | .kept _ _ _ => s

/-- The instant at which a kept answer was resolved. -/
def Slot.since : Slot → Option Nat
  | .kept _ _ n => some n
  | .empty | .waiting _ => none

/-- Places the kept answer of one drive. -/
def State.placeKept (i : DriveId) (s : State) : State :=
  match (s.drive i).slot with
  | .kept r code _ =>
    if s.fifoHasRoom then (s.onDrive i fun d => { d with slot := .empty }).place (r.answer code) else s
  | .empty | .waiting _ => s

/-- Kept answers take free places, the one resolved earlier first, MA's before MB's at one instant (R94). -/
def State.placeAllKept (s : State) : State :=
  match s.ma.slot.since, s.mb.slot.since with
  | some a, some b => if b < a then (s.placeKept .mb).placeKept .ma else (s.placeKept .ma).placeKept .mb
  | _, _ => (s.placeKept .ma).placeKept .mb

/-- Some drive keeps a resolved answer (R140). -/
def State.keepsAnswer (s : State) : Bool := s.ma.slot.since.isSome || s.mb.slot.since.isSome

/-- Store pending clears; its DONE in the FIFO ends nothing any more (R147). -/
def State.clearStore (s : State) : State :=
  { s with
    od := { s.od with storePending := false }
    ts := { s.ts with
      fifo := s.ts.fifo.map fun a => if a.ends = .store then { a with ends := .nothing } else a } }

end Sys2Proof.Machine
end

