-- ==== Sys2Proof/Machine/Flags.lean ====
section
/-! DEFINITION. The flags word: each flag as its owner sets and clears it (10, flags table), and the STATE_URGENT that a
change of the word raises (R164). -/

namespace Sys2Proof.Machine

/-- PRESENT or STALE: counted for interlocks and locks (R28, R30). -/
def Peer.counted (p : Peer) : Bool := p.status ≠ .lost

/-- Some PRESENT or STALE peer has the flag (R30). -/
def State.peerFlag (s : State) (f : Flags → Bool) : Bool := s.pt.entries.any fun p => p.counted && f p.flags

def Guard.heats : Guard → Bool
  | .heating | .dumpPending => true
  | .idle | .dumped => false

/-- ISLAND is set while LINK_FAULT or ALONE is (R159). -/
def State.island (s : State) : Bool := s.lc.linkFault || s.lc.alone

/-- NO_BATTERY: not in the BATTERY role and no candidate held (R33). -/
def State.noBattery (s : State) : Bool := !s.isBattery && s.pt.candidates.isEmpty

/-- DRIVE: own IGNITION or SPEED active (R104). -/
def State.ownDrive (s : State) : Bool := s.ignitionActive || s.speedActive

/-- DRIVE_SRC: IGNITION or SPEED routed (R104). -/
def State.ownDriveSource (s : State) : Bool := s.routed .ignition || s.routed .speed

/-- SENSOR_FAULT is shared by CC, WF and HT (R125, R130). -/
def State.sensorFault (s : State) : Bool := s.cc.sensorPart || s.wf.sensorPart || s.ht.sensorPart

/-- CHANNEL_FAULT: a switched channel in FAULT or a drive with jam latched (R73). -/
def State.channelFault (s : State) : Bool := s.anyChannel (fun c => c.state = .fault) || s.ma.jam || s.mb.jam

/-- The flags word as the units' state makes it; in RESET, STRAP_READ and STRAP_FAULT only HELLO can be set (R182, R172). -/
def State.flagsOf (s : State) : Flags :=
  if s.life.active then
    { drive := s.ownDrive
      driveSrc := s.ownDriveSource
      wind := s.gust.lockout.isSome
      frost := s.wf.fresh.heats || s.wf.grey.heats
      dumped := s.wf.fresh = .dumped
      freshEmpty := s.wf.freshEmpty
      greyFull := s.wf.greyFull
      overdraw := s.lb.overdraw
      cut := s.lb.cutUsed
      island := s.island
      noBattery := s.noBattery
      dormant := s.life = .dormant
      hello := s.ts.hello
      overflow := s.od.overflow
      sensorFault := s.sensorFault
      channelFault := s.channelFault }
  else { Flags.clear with hello := s.ts.hello }

/-- Brings the flags word up to date; a change of any flag raises STATE_URGENT (R57, R164; log entry 26). -/
def State.syncFlags (s : State) : State :=
  if s.flagsOf = s.nc.flags then s
  else { s with nc := { s.nc with flags := s.flagsOf } }.raiseUrgent

end Sys2Proof.Machine
end

