-- ==== Sys2Proof/Machine/Drives.lean ====
section
/-! DEFINITION. The drives (05): motion, ends of travel, requests and their answers, the interlock view and forced causes. -/

namespace Sys2Proof.Machine

/-! ### Motion -/

/-- End window (R84). -/
def Drive.window (d : Drive) : Nat := max 4 (d.travelPulses / 20)

/-- What the bridge drives: a direction, the short of BRAKING, or nothing (R85). -/
inductive Bridge where
  | off | extend | retract | short
deriving DecidableEq, Repr

def Drive.bridge (d : Drive) : Bridge :=
  match d.state with
  | .extending => .extend
  | .retracting => .retract
  | .braking => .short
  | .unknown | .retracted | .extended | .parked | .waitGrant | .jammed => .off

/-- A drive comes to rest in `st`: bridge off, no direction, every timer stopped (R88, R92, R95). -/
def Drive.rest (st : DriveState) (d : Drive) : Drive :=
  { d with
    state := st, origin := none, direction := none, braked := none, homing := false, grantTimer := none,
    travelTimer := none, brakeTimer := none, pulseWatch := none }

/-- A travel starts in a direction: the travel timer runs for 1.5 × travel_time, 0.1 s each, and the 500 ms watch starts
(R87, R89). -/
def Drive.travel (now : Nat) (dir : Dir) (d : Drive) : Drive :=
  { d with
    state := match dir with | .extend => .extending | .retract => .retracting
    origin := none, direction := some dir, braked := none, grantTimer := none, brakeTimer := none,
    travelTimer := some (now + d.travelTime * 150), pulseWatch := some (now + Config.noPulseMs) }

/-- A reversal enters BRAKING; in BRAKING it only changes the direction (R96). -/
def Drive.reverse (now : Nat) (dir : Dir) (d : Drive) : Drive :=
  if d.state = .braking then { d with direction := some dir }
  else
    { d with
      state := .braking, braked := d.direction, direction := some dir, brakeTimer := some (now + Config.brakeMs),
      travelTimer := none, pulseWatch := none }

/-- Entering JAMMED (R90). -/
def Drive.enterJam (d : Drive) : Drive := { d.rest .jammed with jam := true, forced := none }

/-- Reaching RETRACTED by a stall (R88, R90, R102). -/
def Drive.endRetracted (d : Drive) : Drive := { d.rest .retracted with position := 0, jam := false, forced := none }

/-- Reaching EXTENDED by a stall (R88). -/
def Drive.endExtended (d : Drive) : Drive := { d.rest .extended with position := d.travelPulses, forced := none }

/-- A stall ends the travel by the position (R88). -/
def Drive.stalled (d : Drive) : Drive :=
  match d.state with
  | .extending => if d.travelPulses ≤ d.position + d.window then d.endExtended else d.enterJam
  | .retracting => if d.homing ∨ d.position ≤ d.window then d.endRetracted else d.enterJam
  | _ => d

/-- A Hall pulse moves the position and restarts the watch while the bridge drives (R86, R87). -/
def Drive.pulse (now : Nat) (d : Drive) : Drive :=
  let up := min d.travelPulses (d.position + 1)
  match d.state, d.braked with
  | .extending, _ => { d with position := up, pulseWatch := some (now + Config.noPulseMs) }
  | .retracting, _ => { d with position := d.position - 1, pulseWatch := some (now + Config.noPulseMs) }
  | .braking, some .extend => { d with position := up }
  | .braking, some .retract => { d with position := d.position - 1 }
  | _, _ => d

/-- Class and amount of a drive's want (R85). -/
def Drive.wants (d : Drive) : Wants :=
  match d.fn, d.state with
  | .none, _ => Wants.zero
  | _, .extending | _, .retracting | _, .braking => { Wants.zero with w0 := d.nominal }
  | _, .waitGrant => { Wants.zero with w1 := d.nominal }
  | _, _ => Wants.zero

/-! ### Interlock (R98, R99) -/

/-- The interlock view from its inputs (R98). -/
def State.interlockNow (s : State) : Interlock :=
  { driveActive := s.trv.reading || s.ignitionActive || s.speedActive || s.peerFlag (·.drive)
    sourceKnown := s.routed .ignition || s.routed .speed || s.peerFlag (·.driveSrc) || s.trv.reading
    wind := s.gust.lockout.isSome || s.peerFlag (·.wind) }

/-- The extend interlock test: the refusal, or none where it passes (R99). -/
def extendRefusal (fn : DriveFn) (v : Interlock) : Option AnswerCode :=
  match fn with
  | .none => none
  | .step => if v.driveActive ∨ ¬ v.sourceKnown then some .refusedInterlock else none
  | .awning => if v.driveActive then some .refusedInterlock else if v.wind then some .refusedLocked else none

/-- The forced cause that applies, DRIVE where both do (R100, R101). -/
def forcedCauseOf (fn : DriveFn) (v : Interlock) : Option ForcedCause :=
  match fn with
  | .none => none
  | .step => if v.driveActive then some .drive else none
  | .awning => if v.driveActive then some .drive else if v.wind then some .wind else none

/-- A drive leaves the grant list; the removal calls for a recomputation (R39, R54). -/
def State.leaveGrantList (i : DriveId) (s : State) : State :=
  { s with lb := { s.lb with grants := s.lb.grants.filter (fun g => g.drive ≠ i) } }.trigger

/-- A retraction forced by `c` starts at once, without a grant (R101). -/
def Drive.forcedRetract (now : Nat) (c : ForcedCause) (homing : Bool) (d : Drive) : Drive :=
  { d.travel now .retract with homing := homing, forced := some c }

/-- One drive evaluates the forced causes that apply to it (R100, R101). -/
def State.evaluateForced (i : DriveId) (s : State) : State :=
  let d := s.drive i
  match s.life, d.forced, forcedCauseOf d.fn s.interlock with
  | .run, none, some c | .dormant, none, some c | .listenOnly, none, some c =>
    match d.state with
    | .extended | .parked => s.setDrive i (d.forcedRetract s.now c false)
    | .unknown => s.setDrive i (d.forcedRetract s.now c true)
    | .extending => s.setDrive i { d.reverse s.now .retract with forced := some c }
    | .braking => s.setDrive i { d with direction := some .retract, forced := some c }
    | .retracting => s.setDrive i { d with forced := some c }
    | .waitGrant =>
      let s1 := (s.resolve i .cancelled).leaveGrantList i
      match d.origin with
      | some .retracted => s1.onDrive i (Drive.rest .retracted)
      | some .extended | some .parked => s1.onDrive i (Drive.forcedRetract s.now c false)
      | _ => s1.onDrive i (Drive.forcedRetract s.now c true)
    | .retracted | .jammed => s
  | _, _, _ => s

def State.evaluateBothForced (s : State) : State := (s.evaluateForced .ma).evaluateForced .mb

/-- Some drive that stood or waited in `s` has started a forced retraction in `t` (R180). -/
def startedForced (s t : State) : Bool :=
  let started (a b : Drive) := a.forced = none && b.forced.isSome && b.state = .retracting && a.state ≠ .retracting
  started s.ma t.ma || started s.mb t.mb

/-- A drive comes to rest and evaluates its forced causes where R100 lists the state. -/
def State.comeToRest (i : DriveId) (st : DriveState) (s : State) : State :=
  (s.onDrive i (Drive.rest st)).evaluateForced i

/-- Back to the state WAIT_GRANT was entered from (R92). -/
def State.returnToOrigin (i : DriveId) (s : State) : State :=
  (s.leaveGrantList i).comeToRest i ((s.drive i).origin.getD .unknown)

/-! ### Requests (R91, R93, R95, R102) -/

/-- A motion from rest, or redirected, enters WAIT_GRANT (R92, R93): the slot takes an addressed requester; the drive enters
the grant list, which calls for a recomputation (R51). -/
def State.enterWait (i : DriveId) (origin : DriveState) (dir : Dir) (r : Option Requester) (s : State) : State :=
  let s1 := s.onDrive i fun d =>
    { d with
      state := .waitGrant, origin := some origin, direction := some dir,
      homing := dir = .retract && (origin = .unknown || origin = .jammed),
      grantTimer := some (s.now + Config.grantWaitMs),
      slot := match r with | some r => .waiting r | none => d.slot }
  let g : Grantee := ⟨i, (s.drive i).nominal⟩
  let s2 : State := { s1 with lb := { s1.lb with grants := s1.lb.grants.filter (fun g => g.drive ≠ i) ++ [g] } }
  s2.trigger.evaluateForced i

/-- An opposite request redirects the wait: the old answer resolves CANCELLED, then the new request waits from the same
origin (R93). -/
def State.redirectWait (i : DriveId) (dir : Dir) (r : Option Requester) (s : State) : State :=
  (s.resolve i .cancelled).enterWait i ((s.drive i).origin.getD .unknown) dir r

/-- EXTEND (R91, R93, R95). -/
def State.requestExtend (i : DriveId) (r : Option Requester) (s : State) : State :=
  let d := s.drive i
  let refusal := extendRefusal d.fn s.interlock
  match d.state with
  | .retracted | .parked =>
    match refusal with
    | some code => s.reply r code
    | none => s.enterWait i d.state .extend r
  | .extended => s.reply r .already
  | .unknown => s.reply r .refusedHomeFirst
  | .jammed => s.reply r .refusedFault
  | .waitGrant =>
    if d.direction = some .extend then s.reply r .already
    else
      match d.origin, refusal with
      | some .unknown, _ => s.reply r .refusedHomeFirst
      | some .jammed, _ => s.reply r .refusedFault
      | _, some code => s.reply r code
      | _, none => s.redirectWait i .extend r
  | .extending | .retracting | .braking =>
    if d.forced.isSome then s.reply r .refusedForced
    else if d.direction = some .extend then s.reply r .already
    else if d.homing then s.reply r (if d.jam then .refusedFault else .refusedHomeFirst)
    else
      match refusal with
      | some code => s.reply r code
      | none => (s.onDrive i (Drive.reverse s.now .extend)).reply r .started

/-- RETRACT (R91, R93, R95). -/
def State.requestRetract (i : DriveId) (r : Option Requester) (s : State) : State :=
  let d := s.drive i
  match d.state with
  | .retracted => s.reply r .already
  | .extended | .parked | .unknown | .jammed => s.enterWait i d.state .retract r
  | .waitGrant => if d.direction = some .retract then s.reply r .already else s.redirectWait i .retract r
  | .extending | .retracting | .braking =>
    if d.forced.isSome ∨ d.direction = some .retract then s.reply r .already
    else (s.onDrive i (Drive.reverse s.now .retract)).reply r .started

/-- STOP (R91, R93, R95). -/
def State.requestStop (i : DriveId) (r : Option Requester) (s : State) : State :=
  let d := s.drive i
  match d.state with
  | .retracted | .extended | .parked | .unknown | .jammed => s.reply r .already
  | .waitGrant => ((s.reply r .done).resolve i .cancelled).returnToOrigin i
  | .extending | .retracting =>
    if d.forced.isSome then s.reply r .refusedForced
    else
      (s.reply r .done).comeToRest i
        (if d.homing then (if d.jam then .jammed else .unknown) else .parked)
  | .braking =>
    if d.forced.isSome then s.reply r .refusedForced
    else (s.onDrive i fun d => { d with direction := none }).reply r .done

inductive MotionAction where
  | extend | retract | stop
deriving DecidableEq, Repr

def State.requestMotion (act : MotionAction) (i : DriveId) (r : Option Requester) (s : State) : State :=
  match act with
  | .extend => s.requestExtend i r
  | .retract => s.requestRetract i r
  | .stop => s.requestStop i r

/-- A motion request reaches every drive of the function; the lower of two answers (R91, R144). -/
def State.requestMotions (fn : DriveFn) (act : MotionAction) (r : Option Requester) (s : State) : State :=
  if s.ma.fn = fn then
    let s1 := s.requestMotion act .ma r
    if s.mb.fn = fn then s1.requestMotion act .mb none else s1
  else if s.mb.fn = fn then s.requestMotion act .mb r
  else s

/-! ### Grant (R92, R52) -/

/-- A grant reaches a waiting drive: it starts, or an extension the interlock refuses goes back to its origin. -/
def State.grant (i : DriveId) (s : State) : State :=
  let d := s.drive i
  if d.state = .waitGrant then
    if d.direction = some .extend ∧ extendRefusal d.fn s.interlock ≠ none then
      (s.resolve i .refusedInterlock).returnToOrigin i
    else
      ((s.resolve i .started).leaveGrantList i).onDrive i (Drive.travel s.now (d.direction.getD .retract))
  else s.leaveGrantList i

end Sys2Proof.Machine
end

