-- ==== Sys2Proof/Machine/Channels.lean ====
section
/-! DEFINITION. One switched channel: requests, grant decision, output, want, fade, trip and FAULT (04). Each function works
on one record; the units apply it to the channels they own. -/

namespace Sys2Proof.Machine

/-- What a channel reads from the rest of the node at an evaluation. -/
structure ChEnv where
  now : Nat
  life : LifeState
  sEff : Shed
  applied : Nat
  curve : Vector Nat 64
  pressure : Bool
  door : Bool
  ignition : Bool
  flowRouted : Bool
deriving DecidableEq, Repr

def State.chEnv (s : State) : ChEnv :=
  { now := s.now, life := s.life, sEff := s.lb.sEff, applied := s.lb.applied, curve := s.light.curve,
    pressure := s.switchActive .pressureSw, door := s.switchActive .door, ignition := s.switchActive .ignition,
    flowRouted := s.routed .flow }

/-- A gate is open while its function's input reads active; none never is (R66). -/
def ChEnv.gateOpen (e : ChEnv) : RouteFn → Bool
  | .pressureSw => e.pressure
  | .door => e.door
  | .ignition => e.ignition
  | _ => false

/-- Duty of a light level; level 0 gives 0 whatever entry 0 holds (R77). -/
def levelDuty (curve : Vector Nat 64) (level : Nat) : Nat := if level = 0 then 0 else curve.toList.getD level 0

/-- The class of the want and of the grant decision (R68). -/
def Channel.classUsed (c : Channel) : Nat := c.givenClass.getD c.cls

/-! ### Grant decision (R61) -/

inductive Decision where
  | held | full | throttled
deriving DecidableEq, Repr

/-- The rows of R61, tried from the top. A class c is within S_eff when c + 1 is at most the rank of S_eff. -/
def Channel.grantDecision (e : ChEnv) (c : Channel) : Decision :=
  match e.life with
  | .run | .dormant | .listenOnly =>
    if c.exempt then .full
    else if c.classUsed < e.sEff.rank then .full
    else if c.classUsed = e.sEff.rank ∧ c.dimmable ∧ e.applied ≠ 0 then .throttled
    else .held
  | .reset | .strapRead | .strapFault | .commissioning => .held

/-! ### Output (R64 to R67) -/

/-- The mode condition (R64 to R66). A TIMED channel, and a LEVEL one under a request with an end timer, has it only while the
timer runs, so the fade that follows such a request of a light is dark (log entry 11). -/
def Channel.modeHolds (e : ChEnv) (c : Channel) : Bool :=
  match c.mode with
  | .level => c.request && (!c.timedRequest || c.endTimer.isSome)
  | .timed => c.request && c.endTimer.isSome
  | .cycle => c.request && c.cycleOn
  | .gated => c.request && e.gateOpen c.gate

/-- The output duty (R67). -/
def Channel.dutyOf (e : ChEnv) (c : Channel) : Nat :=
  if c.state = .on ∧ c.modeHolds e ∧ ¬ c.inhibit then
    if c.dimmable then
      if c.throttled then levelDuty e.curve c.current * e.applied / 256 else levelDuty e.curve c.current
    else Config.fullDuty
  else 0

/-- Duration of the dry timer (R117). -/
def ChEnv.dryMs (e : ChEnv) : Nat := if e.flowRouted then Config.dryFlowMs else Config.dryNoFlowMs

/-- The instant since which the output runs at duty 1023, when its duty becomes `d` (R74). -/
def Channel.fullSinceAt (now d : Nat) (c : Channel) : Nat :=
  if d = Config.fullDuty ∧ c.duty ≠ Config.fullDuty then now else c.fullSince

/-- Sets the output to its duty. A turn-on starts the inrush blanking, clears OPEN and starts a pump's dry timer; a
turn-off stops the timers (R67, R69, R74, R117). The duty decides: a fade step from level 0 to 1 that the curve leaves at duty 0
is no turn-on yet (log entry 47). -/
def Channel.refresh (e : ChEnv) (c : Channel) : Channel :=
  let d := c.dutyOf e
  if d = 0 then { c with duty := 0, blanking := none, dry := none }
  else if c.duty = 0 then
    { c with
      duty := d
      blanking := some (e.now + Config.blankingMs)
      onSince := e.now
      fullSince := c.fullSinceAt e.now d
      openLoad := false
      dry := if c.fn = .pump then some (e.now + e.dryMs) else none }
  else { c with duty := d, fullSince := c.fullSinceAt e.now d }

/-- One evaluation (R61 to R63): the state by request and decision, then the output. -/
def Channel.evaluate (e : ChEnv) (c : Channel) : Channel :=
  match c.state with
  | .tripped | .fault => c.refresh e
  | .off | .on | .held =>
    if c.fn = .none ∨ ¬ c.request then { c with state := .off, throttled := false }.refresh e
    else
      match c.grantDecision e with
      | .held => { c with state := .held, throttled := false }.refresh e
      | .full => { c with state := .on, throttled := false }.refresh e
      | .throttled => { c with state := .on, throttled := true }.refresh e

def State.evaluateChannels (s : State) : State := s.onChannels (Channel.evaluate s.chEnv)

/-! ### Want (R68) -/

/-- The declared want. The curve scales it for every dimmable channel (log entry 12). -/
def Channel.want (curve : Vector Nat 64) (c : Channel) : Nat :=
  if ¬ c.request ∨ c.state = .fault ∨ c.fn = .none ∨ c.inhibit then 0
  else if c.dimmable then (c.nominal * levelDuty curve c.target + (Config.fullDuty - 1)) / Config.fullDuty
  else c.nominal

/-! ### CYCLE (R65) -/

/-- A period starts with the on phase and takes the A and B in force. -/
def Channel.startPeriod (now : Nat) (c : Channel) : Channel :=
  { c with cycleOn := true, cycleStart := now, cycleB := c.b, cycleTimer := some (now + c.a * 1000) }

def Channel.stopCycle (c : Channel) : Channel := { c with cycleOn := false, cycleTimer := none }

/-- The CYCLE timer moves to the off phase at A seconds and to the next period at B seconds. -/
def Channel.nextPhase (now : Nat) (c : Channel) : Channel :=
  if c.cycleOn then { c with cycleOn := false, cycleTimer := some (c.cycleStart + c.cycleB * 1000) }
  else c.startPeriod now

/-! ### Fade (R79, R80) -/

/-- Once the level has reached 0 under a target of 0 the request ends, and the channel goes OFF unless it is cooling down
or in FAULT (R78, R80; log entry 11). -/
def Channel.endFade (c : Channel) : Channel :=
  if c.target = 0 ∧ c.current = 0 then
    { c.stopCycle with
      request := false
      endTimer := none
      timedRequest := false
      state := if c.state = .on ∨ c.state = .held then .off else c.state }
  else c

/-- A target change starts, redirects or ends the fade (R79, R80). The target a running fade already goes toward is no
change (log entry 34). -/
def Channel.setTarget (now interval target : Nat) (c : Channel) : Channel :=
  if target = c.target ∧ c.fadeTimer.isSome then c
  else if target = c.current then { c with target := target, fadeTimer := none, fadeInterval := interval }.endFade
  else if interval = 0 then
    { c with target := target, current := target, fadeTimer := none, fadeInterval := interval }.endFade
  else { c with target := target, fadeTimer := some (now + interval), fadeInterval := interval }

/-- One step of the fade toward the target (R79). -/
def Channel.stepFade (now : Nat) (c : Channel) : Channel :=
  let level := if c.current < c.target then c.current + 1 else c.current - 1
  if level = c.target then { c with current := level, fadeTimer := none }.endFade
  else { c with current := level, fadeTimer := some (now + c.fadeInterval) }

/-! ### Requests (R60, R64, R65, R78) -/

/-- A CYCLE channel whose request turns on starts a period; a request that is already on does not restart it (R65). -/
def Channel.cycleRequest (now : Nat) (c : Channel) : Channel :=
  if c.mode = .cycle ∧ ¬ c.request then c.startPeriod now else c

/-- A request on with an end timer, or on until off. In FAULT only the request is recorded (R72). -/
def Channel.requestWith (now : Nat) (endTimer : Timer) (c : Channel) : Channel :=
  if c.state = .fault then { c with request := true }
  else { c.cycleRequest now with request := true, endTimer := endTimer, timedRequest := endTimer.isSome }

/-- A request on until off, whatever the mode (R119, R133). -/
def Channel.requestUntilOff (now : Nat) (c : Channel) : Channel := c.requestWith now none

/-- An ON request: on until off, or with A seconds in TIMED mode (R60, R64). -/
def Channel.requestOn (now : Nat) (c : Channel) : Channel :=
  c.requestWith now (if c.mode = .timed then some (now + c.a * 1000) else none)

/-- A request on with an end timer of `d` seconds, whatever the mode (R60). -/
def Channel.requestTimed (now d : Nat) (c : Channel) : Channel := c.requestWith now (some (now + d * 1000))

/-- Request off of a channel that is not dimmable: OFF at once, unless cooling down or in FAULT (R63). -/
def Channel.requestOff (c : Channel) : Channel :=
  { c.stopCycle with
    request := false
    endTimer := none
    timedRequest := false
    state := if c.state = .on ∨ c.state = .held then .off else c.state }

/-- A dimmable channel takes the target 0, at a fade interval. Its request ends at level 0; in TRIPPED it ends at once, and the
fade runs on (R63, R70, R78, R82; log entry 11). -/
def Channel.fadeOut (now interval : Nat) (c : Channel) : Channel :=
  (if c.state = .tripped then c.requestOff else { c with endTimer := none }).setTarget now interval 0

/-- The end of a request, as by an OFF (R60, R63). -/
def Channel.endRequest (now : Nat) (c : Channel) : Channel :=
  if c.dimmable then c.fadeOut now c.fade else c.requestOff

/-! ### Trip, FAULT and open load (R69 to R74) -/

/-- The trip threshold within the inrush blanking, in 0.1 A (R69). -/
def Channel.blankedThreshold (c : Channel) : Nat := 4 * max c.nominal 5

/-- The trip threshold in force, in 0.1 A (R69). -/
def Channel.threshold (c : Channel) : Nat := if c.blanking.isSome then c.blankedThreshold else 2 * max c.nominal 5

/-- The last 10 ms cross the end of the blanking (R69). -/
def Channel.crossesBlanking (now : Nat) (c : Channel) : Bool :=
  c.blanking.isNone && now < c.onSince + Config.blankingMs + Config.tripRunMs

/-- The last 10 ms make a trip: above the threshold in force, and, for their part within a blanking that has ended since,
above the blanking's (R69). -/
def Channel.overCurrent (now : Nat) (r : TripRun) (c : Channel) : Bool :=
  0 < c.duty && c.threshold < r.current && (!c.crossesBlanking now || c.blankedThreshold < r.blanked)

/-- Entering FAULT (R71, R74). -/
def Channel.enterFault (c : Channel) : Channel :=
  { c.stopCycle with
    state := .fault, throttled := false, endTimer := none, fadeTimer := none, current := 0, openLoad := false,
    cooldown := none, duty := 0, blanking := none, dry := none }

/-- Trips of the last 60 s (R71). -/
def Channel.recentTrips (now : Nat) (c : Channel) : List Nat :=
  c.trips.filter fun t => now < t + Config.tripHistoryMs

/-- A trip turns the output off: TRIPPED for 5 s, or FAULT at the third within 60 s (R69, R71). -/
def Channel.trip (now : Nat) (c : Channel) : Channel :=
  let trips := c.recentTrips now ++ [now]
  if trips.length < 3 then
    { c with
      state := .tripped, throttled := false, trips := trips, cooldown := some (now + Config.cooldownMs), duty := 0,
      blanking := none, dry := none }
  else { c with trips := trips }.enterFault

/-- The OFF that clears FAULT (R72). -/
def Channel.clearFault (c : Channel) : Channel :=
  if c.state = .fault then
    { c with state := .off, request := false, endTimer := none, timedRequest := false, trips := [], target := 0 }
  else c

end Sys2Proof.Machine
end

