-- ==== Sys2Proof/Machine/Heating.lean ====
section
/-! DEFINITION. The Heating unit (07): cabin source, demand, burner states and what they ask of the BURNER and BURNER_FAN
channels. -/

namespace Sys2Proof.Machine

def State.onHeating (f : Heating → Heating) (s : State) : State := { s with ht := f s.ht }

/-- Demand of HT (R132). -/
def State.demand (s : State) : Bool := s.ht.normalDemand || s.ht.frostHold

/-- Class of the BURNER channel record, of the lowest-numbered one where there are several (R132; log entry 13). -/
def State.burnerRecordClass (s : State) : Nat :=
  match channelNumbers.find? (fun i => s.sw[i].fn = .burner) with
  | some i => s.sw[i].cls
  | none => 0

/-- The burner class by R132's words: 0 under frost hold, else the record's. In the worked sequence of 07 (storage) the burner
keeps class 0 after frost hold has cleared (log entry 41). -/
def State.burnerClass (s : State) : Nat := if s.ht.frostHold then 0 else s.burnerRecordClass

/-- One change made on every BURNER and BURNER_FAN channel. -/
def State.onBurnerAndFan (f : Channel → Channel) (s : State) : State :=
  s.onChannels fun c => if c.fn = .burner ∨ c.fn = .burnerFan then f c else c

/-- A BURNER or BURNER_FAN channel is in FAULT. -/
def State.heaterFaulted (s : State) : Bool := s.channelFaulted .burner || s.channelFaulted .burnerFan

/-- In FIRING the burner class is given to the channels (R132). -/
def State.giveBurnerClass (s : State) : State :=
  if s.ht.burner = .firing then s.onBurnerAndFan fun c => { c with givenClass := some s.burnerClass } else s

/-- Entry to FIRING: one set of requests, in the burner class, not lit (R133). -/
def State.enterFiring (s : State) : State :=
  (s.onBurnerAndFan fun c => { c.requestUntilOff s.now with givenClass := some s.burnerClass }).onHeating fun h =>
    { h with burner := .firing, lit := false }

/-- In OFF, FIRING is entered where the demand is set, a fan channel exists and no burner or fan is in FAULT (R133). -/
def State.tryFire (s : State) : State :=
  if s.ht.burner = .off ∧ s.demand ∧ s.hasChannel .burnerFan ∧ ¬ s.heaterFaulted then s.enterFiring else s

/-- A waiting burner gives up: OFF, requests off, no run-on and no rest (R134). -/
def State.abandonFiring (s : State) : State :=
  (s.onBurnerAndFan fun c => { c.requestOff with givenClass := none }).onHeating fun h =>
    { h with burner := .off, lit := false }

/-- The run-on request HT holds for a fan: on for 120 s, class 0, exempt (R136; a fan in FAULT records it, log entry 14). -/
def Channel.runOn (now : Nat) (c : Channel) : Channel :=
  { c with
    request := true, endTimer := some (now + Config.runOnS * 1000), timedRequest := true, givenClass := some 0, exempt := true }

/-- A burner-off (R136). -/
def State.burnerOff (s : State) : State :=
  let s1 := s.onFunction .burner fun c => { c.requestOff with givenClass := none }
  let s2 := s1.onFunction .burnerFan (Channel.runOn s.now)
  s2.onHeating fun h =>
    { h with burner := .runOn, lit := false, minimumOn := none, rest := some (s.now + Config.restMs) }

/-- The end of run-on: exempt clears, a fan request still on becomes off, the state becomes REST (R136). -/
def State.endRunOn (s : State) : State :=
  (s.onFunction .burnerFan fun c => { c.requestOff with exempt := false, givenClass := none }).onHeating fun h =>
    { h with burner := .rest }

/-- Run-on ends where it is in progress (R136). -/
def State.stopRunOn (s : State) : State := if s.ht.burner = .runOn then s.endRunOn else s

/-- What HT does when its channels or CUT used have changed (R133 to R135): a waiting burner lights when a BURNER channel is
ON and gives up on a FAULT; a lit burner goes out when a BURNER or fan channel is not ON, or CUT used is set. -/
def State.heatingReacts (s : State) : State :=
  match s.ht.burner, s.ht.lit with
  | .firing, false =>
    if s.heaterFaulted then s.abandonFiring
    else if s.anyChannel fun c => c.fn = .burner && c.state = .on then
      s.onHeating fun h => { h with lit := true, minimumOn := some (s.now + Config.minimumOnMs) }
    else s
  | .firing, true =>
    if s.lb.cutUsed || s.anyChannel (fun c => (c.fn = .burner || c.fn = .burnerFan) && c.state ≠ .on) then s.burnerOff
    else s
  | _, _ => s

/-- A disable: where it leaves the demand clear a lit burner goes out and a waiting one goes to OFF; otherwise the burner
class is given anew (R135, R138; log entry 16 for the entry to DORMANT). -/
def State.heatingDisabled (s : State) : State :=
  if s.ht.burner = .firing then
    if s.demand then s.giveBurnerClass
    else if s.ht.lit then s.burnerOff
    else s.abandonFiring
  else s

/-! ### Evaluation (R129 to R135) -/

/-- Cabin temperature of the lowest-addressed peer entry that holds one (R130). -/
def lowestCabin (ps : List Peer) : Option (Addr × Int) :=
  ps.foldl (fun best p =>
    match p.cabin, best with
    | none, _ => best
    | some r, none => some (p.addr, r.value)
    | some r, some (a, v) => if p.addr < a then some (p.addr, r.value) else some (a, v)) none

/-- Step 1: cabin source, T_cab and HT's part of SENSOR_FAULT (R130). -/
def State.chooseCabin (s : State) : State :=
  match s.temperature .cabinT, lowestCabin s.pt.entries with
  | some t, _ => s.onHeating fun h => { h with source := .localInput, tCab := some t, sensorPart := false }
  | none, some (_, t) => s.onHeating fun h => { h with source := .peer, tCab := some t, sensorPart := false }
  | none, none => s.onHeating fun h => { h with source := .none, tCab := none, sensorPart := true }

/-- Normal demand (R131). -/
def normalDemandOf (dormant : Bool) (h : Heating) : Bool :=
  match h.tCab with
  | none => false
  | some t =>
    if ¬ h.heaterEnabled ∨ dormant then false
    else if t < h.setpoint - h.params.hyst then true
    else if t ≥ h.setpoint + h.params.hyst then false
    else h.normalDemand

/-- Frost hold (R132). -/
def frostHoldOf (h : Heating) : Bool :=
  match h.tCab with
  | none => false
  | some t =>
    if ¬ h.frostHoldEnabled then false
    else if t < h.params.frostFloor then true
    else if t ≥ h.params.frostFloor + 20 then false
    else h.frostHold

/-- Step 2 (R131, R132). -/
def State.updateDemand (s : State) : State :=
  s.onHeating fun h =>
    { h with normalDemand := normalDemandOf (s.life = .dormant) h, frostHold := frostHoldOf h }

/-- Step 3 (R133 to R137). -/
def State.actOnBurner (s : State) : State :=
  match s.ht.burner, s.ht.lit with
  | .off, _ => s.tryFire
  | .firing, false => if s.demand then s.giveBurnerClass else s.abandonFiring
  | .firing, true =>
    if s.ht.source = .none ∨ (¬ s.demand ∧ s.ht.minimumOn = none) then s.burnerOff else s.giveBurnerClass
  | .runOn, _ => s
  | .rest, _ => s

/-- One thermostat evaluation; a node without a BURNER channel runs no part of it (R128, R129). -/
def State.heatingEvaluates (s : State) : State :=
  if s.hasChannel .burner then s.chooseCabin.updateDemand.actOnBurner else s

end Sys2Proof.Machine
end

