-- ==== Sys2Proof/Machine/Budget.lean ====
section
/-! DEFINITION. The Load Budget (03): wants, limit, shed level, throttle, recomputation with what follows from it at the same
instant (channels, Heating unit, grants), the pump lock set (R116) that follows changes at once, and the choice of the
battery source (R33). -/

namespace Sys2Proof.Machine

/-! ### Battery source and limit (R33, R35, R41) -/

/-- Lowest-addressed candidate (R33). -/
def lowestCandidate (cs : List Candidate) : Option Candidate :=
  cs.foldl (fun best c => match best with | none => some c | some b => if c.addr < b.addr then some c else some b) none

/-- The battery view by the choice of R33: the lowest address among the candidates and, in the BATTERY role after its first
sample, the node itself. -/
def State.chooseView (s : State) : Option BattView :=
  let own : Option BattView :=
    match s.isBattery, s.ownAddr, s.cc.handed with
    | true, some a, some v => some ⟨a, v⟩
    | _, _, _ => none
  match lowestCandidate s.pt.candidates, own with
  | none, o => o
  | some c, none => some ⟨c.addr, c.vals⟩
  | some c, some o => if c.addr < o.source then some ⟨c.addr, c.vals⟩ else some o

/-- Takes the view anew; a change of it is a battery view change and calls for a recomputation (R33, R39). -/
def State.updateView (s : State) : State :=
  if s.chooseView = s.pt.view then s
  else { s with pt := { s.pt with view := s.chooseView } }.trigger

/-- The node is its own battery source (R35). -/
def State.ownSource (s : State) : Bool :=
  match s.pt.view with
  | some v => s.ownAddr = some v.source
  | none => false

/-- Limit used and CUT used by the case of R35 (R41). -/
def State.limitUsed (s : State) : Nat × Bool :=
  match s.pt.view with
  | none => (s.pt.lIsland, false)
  | some v => if s.island ∧ ¬ s.ownSource then (s.pt.lIsland, v.vals.flags.cut) else (v.vals.l, v.vals.flags.cut)

/-! ### Wants (R37, R38) -/

def Wants.add (a b : Wants) : Wants := ⟨a.w0 + b.w0, a.w1 + b.w1, a.w2 + b.w2, a.w3 + b.w3⟩

/-- An amount in a class; classes end at 3. -/
def Wants.inClass (cls amount : Nat) : Wants :=
  match cls with
  | 0 => { Wants.zero with w0 := amount }
  | 1 => { Wants.zero with w1 := amount }
  | 2 => { Wants.zero with w2 := amount }
  | _ => { Wants.zero with w3 := amount }

def Channel.wants (curve : Vector Nat 64) (c : Channel) : Wants := Wants.inClass c.classUsed (c.want curve)

/-- W_own: what the channels and drives post (R37). -/
def State.ownWants (s : State) : Wants :=
  (channelNumbers.foldl (fun w i => w.add (s.sw[i].wants s.light.curve)) Wants.zero).add (s.ma.wants.add s.mb.wants)

/-- W[0..3]: own wants, every peer entry's in every status, and the stranger reserve (R38). -/
def State.totals (s : State) : Wants :=
  let peers := s.pt.entries.foldl (fun w p => w.add p.wants) s.ownWants
  if s.pt.stranger.isSome then { peers with w1 := peers.w1 + s.pt.strangerReserve } else peers

/-! ### Shed level and throttle (R42 to R48) -/

/-- S_raw: the highest k with T_k within the limit; 0 under an overdraw; ALL_SHED under CUT (R42). -/
def rawShed (cut : Bool) (lU t1 t2 t3 : Nat) : Shed :=
  if cut then .allShed
  else if t3 ≤ lU then .upTo 3
  else if t2 ≤ lU then .upTo 2
  else if t1 ≤ lU then .upTo 1
  else .upTo 0

/-- OVERDRAW (R42). -/
def overdrawn (cut : Bool) (lU t0 : Nat) : Bool := !cut && decide (lU < t0)

/-- T_{S+1}, the cumulative sum of the class one above S (R44). -/
def sumAbove (s : Shed) (t0 t1 t2 t3 : Nat) : Nat :=
  match s.rank with
  | 0 => t0
  | 1 => t1
  | 2 => t2
  | _ => t3

/-- The restore condition for the class one above S (R44). -/
def restoreHolds (s : Shed) (lU t0 t1 t2 t3 : Nat) : Bool := sumAbove s t0 t1 t2 t3 ≤ lU - lU / 16

/-- One class up (R45). -/
def Shed.up : Shed → Shed
  | .allShed => .upTo 0
  | .upTo 0 => .upTo 1
  | .upTo 1 => .upTo 2
  | .upTo _ => .upTo 3

/-- The throttle f (R47). -/
def throttleOf (s : Shed) (lU : Nat) (w : Wants) (t0 t1 t2 : Nat) : Nat :=
  let share (h amount : Nat) := if amount = 0 then 256 else min 256 (256 * h / amount)
  match s with
  | .allShed => 0
  | .upTo 0 => share (lU - t0) w.w1
  | .upTo 1 => share (lU - t1) w.w2
  | .upTo 2 => share (lU - t2) w.w3
  | .upTo _ => 256

/-- The applied throttle (R48). -/
def appliedOf (life : LifeState) (f : Nat) : Nat :=
  match life with
  | .run | .listenOnly => if Config.throttleFloor ≤ f then f else 0
  | _ => 0

/-- The effective shed level (R49). -/
def effectiveShed (life : LifeState) (s : Shed) : Shed :=
  match life with
  | .run | .listenOnly => s
  | .dormant => if s.rank ≤ 1 then s else .upTo 1
  | _ => .allShed

/-- Step 4: S and the restore holdoff (R43 to R46). -/
def shedStep (life : LifeState) (now : Nat) (lb : LoadBudget) (raw : Shed) (restore : Bool) : Shed × Timer × Bool :=
  if life = .commissioning then (.allShed, none, lb.firstPending)
  else if lb.firstPending then (raw, none, false)
  else if raw.rank ≤ lb.s.rank then (raw, none, false)
  else if restore then (lb.s, some (lb.holdoff.getD (now + Config.holdoffMs)), false)
  else (lb.s, none, false)

/-- Steps 1 to 5 of a recomputation, and the pair of step 6 (R40). -/
def State.budget (s : State) : LoadBudget :=
  let lu := s.limitUsed.1
  let cut := s.limitUsed.2
  let w := s.totals
  let t0 := w.w0
  let t1 := t0 + w.w1
  let t2 := t1 + w.w2
  let t3 := t2 + w.w3
  let raw := rawShed cut lu t1 t2 t3
  let step4 := shedStep s.life s.now s.lb raw (restoreHolds s.lb.s lu t0 t1 t2 t3)
  let f := if s.life = .commissioning then 0 else throttleOf step4.1 lu w t0 t1 t2
  { s.lb with
    wOwn := s.ownWants, w := w, t0 := t0, t1 := t1, t2 := t2, t3 := t3, lU := lu, cutUsed := cut, sRaw := some raw,
    s := step4.1, holdoff := step4.2.1, firstPending := step4.2.2, f := f, applied := appliedOf s.life f,
    sEff := effectiveShed s.life step4.1, overdraw := overdrawn cut lu t0, trigger := false }

/-- The channels apply the pair; HT takes what became of its channels; a fan that a burner-off made exempt turns on at the
same instant (R62, R133 to R136). -/
def State.channelsFollow (s : State) : State := s.evaluateChannels.heatingReacts.evaluateChannels

/-- A grant to one drive where it is in the grant list (R52). -/
def State.grantListed (i : DriveId) (s : State) : State := if s.lb.grants.any (·.drive = i) then s.grant i else s

/-- Step 7: in RUN every waiting drive is granted where S is not ALL_SHED and T_1 is within the limit (R52); MA before MB
(log entry 43). -/
def State.giveGrants (s : State) : State :=
  if s.life = .run ∧ s.lb.s ≠ .allShed ∧ s.lb.t1 ≤ s.lb.lU then (s.grantListed .ma).grantListed .mb else s

/-- One recomputation, its changes of OVERDRAW and CUT reported at its end (R40, R57). -/
def State.recompute (s : State) : State := (({ s with lb := s.budget }.channelsFollow).giveGrants).syncFlags

/-! ### Pump lock set (R116) -/

def PumpLocks.any (l : PumpLocks) : Bool := l.freshEmpty || l.dumped || l.greyFull || l.fault || l.dormant

/-- The lock conditions that hold (R116). -/
def State.locksNow (s : State) : PumpLocks :=
  { freshEmpty := s.wf.freshEmpty
    dumped := s.wf.fresh = .dumped
    greyFull := s.wf.greyFull || s.peerFlag (·.greyFull)
    fault := s.channelFaulted .pump
    dormant := s.life = .dormant }

/-- The set follows its inputs at the instant of their change and holds inhibit on every PUMP channel (R116). -/
def State.syncLocks (s : State) : State :=
  let locks := s.locksNow
  { s with wf := { s.wf with locks := locks } }.onChannels fun c =>
    { c with inhibit := decide (c.fn = ChFn.pump) && locks.any }

/-! ### What follows at the same instant -/

/-- A recomputation is called for: a trigger of R39, or own wants that changed (R37). -/
def State.callsForRecompute (s : State) : Bool := s.lb.trigger || s.ownWants ≠ s.lb.wOwn

/-- The pump locks, then one recomputation where it is called for; without one the channels are evaluated against the pair
in hand (R62). -/
def State.follow (s : State) : State :=
  let s := s.syncLocks
  if s.callsForRecompute then s.recompute else s.channelsFollow

/-- The chain of recomputations of one instant: a grant or a burner-off calls for a further one (R40; log entry 22). -/
def State.followAll : Nat → State → State
  | 0, s => s
  | n + 1, s =>
    let s := s.follow
    if s.callsForRecompute then s.followAll n else s

/-- Everything that follows from an event in the states in which the blocks run (R39, R62, R116). -/
def State.settle (s : State) : State := if s.life.active then s.followAll Config.chainLength else s

end Sys2Proof.Machine
end

