-- ==== Sys2Proof/Machine/NodeControl.lean ====
section
/-! DEFINITION. Node Control (10): resets, life states and the moves between them, wake causes, the interlock event, and
`finish`, which brings about what follows from an event at its instant. -/

namespace Sys2Proof.Machine

/-! ### Changes of life state -/

/-- A cause in service goes back to the pending set (R155, R156, R163, R164). -/
def ServiceCause.giveBack (c : ServiceCause) (p : Causes) : Causes :=
  match c with
  | .wakeOut => { p with wakeOut := true }
  | .batteryDue => { p with batteryDue := true }
  | .state u q => { p with stateUrgent := p.stateUrgent || u, statePeriodic := p.statePeriodic || q }
  | .answerDue => p
  | .measureDue => { p with measureDue := true }

/-- A cause whose telegram was on its way at a change of life state (R163). -/
def Service.overtake (v : Service) : Service := { v with overtaken := true }

/-- A cause held in service whose start bit has not been driven returns at each change of life state; of one whose start bit
counts as driven, IDLE_LOST may yet tell that it was not (R163; log entry 51). -/
def State.returnHeld (s : State) : State :=
  match s.lc.service with
  | some sv =>
    if sv.sending then { s with lc := { s.lc with service := some sv.overtake } }
    else { s with lc := { s.lc with service := none } }.onCauses sv.cause.giveBack
  | none => s

/-- A change of life state; the Load Budget recomputes (R39), and the STATUS pattern starts anew (R187). -/
def State.changeLife (l : LifeState) (s : State) : State :=
  { s with nc := { s.nc with life := l, lifeSince := s.now } }.returnHeld.trigger

/-- The MEASURE period timer stops at each exit from RUN and starts at each entry (R166). -/
def State.stopMeasurePeriod (s : State) : State := { s with ts := { s.ts with measurePeriod := none } }

def State.startMeasurePeriod (s : State) : State :=
  { s with ts := { s.ts with measurePeriod := some (s.now + Config.measurePeriodMs) } }

/-- Marks whether the wake of this instant has raised no WAKE_OUT yet (R180). -/
def State.setQuietWake (at_ : Option Nat) (s : State) : State := { s with nc := { s.nc with quietWake := at_ } }

/-- DORMANT to RUN (R180). WAKE_OUT where the cause raises it, or a drive starts a forced retraction at the instant. -/
def State.wake (wakeOut : Bool) (s : State) : State :=
  let t := (s.changeLife .run).startMeasurePeriod.evaluateBothForced
  if wakeOut || startedForced s t then t.raiseWake.setQuietWake none else t.setQuietWake (some s.now)

/-- A wake cause that raises WAKE_OUT after another of its instant has woken the node: the wake raises it once (R180; log
entry 49). -/
def State.joinWake (wakeOut : Bool) (s : State) : State :=
  if wakeOut ∧ s.nc.quietWake = some s.now then s.raiseWake.setQuietWake none else s

/-- A wake cause: it wakes a DORMANT node; in RUN it ends a pending store, and joins a wake of its own instant (R147, R180). -/
def State.wakeCause (wakeOut : Bool) (s : State) : State :=
  match s.life with
  | .dormant => s.wake wakeOut
  | .run => (if s.od.storePending then s.clearStore else s).joinWake wakeOut
  | _ => s

/-- A forced retraction that started between `s` and `t` is a wake cause (R101, R180). -/
def wakeForForced (s t : State) : State := if startedForced s t then t.wakeCause true else t

/-! ### Interlock event (R98 to R101) -/

/-- A STEP that extends when the drive source becomes unknown, drive not active, stops and is PARKED (R99). -/
def State.stopUnsourced (i : DriveId) (s : State) : State :=
  let d := s.drive i
  if d.fn = .step ∧ d.state = .extending ∧ ¬ s.interlock.sourceKnown ∧ ¬ s.interlock.driveActive then
    s.comeToRest i .parked
  else s

/-- The view is recomputed; a change of a term is an event for both drives (R98). In COMMISSIONING no forced cause is
evaluated and no drive moves. -/
def State.interlockEvent (s : State) : State :=
  if s.interlockNow = s.interlock then s
  else
    let s1 := { s with interlock := s.interlockNow }
    wakeForForced s1 ((s1.stopUnsourced .ma).stopUnsourced .mb).evaluateBothForced

/-! ### Resets (R169 and the reset rule of each chapter) -/

/-- What a warm reset keeps of a drive: RETRACTED, EXTENDED or PARKED, or WAIT_GRANT as an origin among these; the position
of the default parameters (R108). The function is compared when the straps have been read (log entry 9). -/
def Drive.warm (d : Drive) : Drive :=
  let b := Drive.blank d.fn
  match (if d.state = .waitGrant then d.origin.getD .unknown else d.state) with
  | .retracted => { b with state := .retracted }
  | .extended => { b with state := .extended, position := b.travelPulses }
  | .parked => { b with state := .parked, position := min d.position b.travelPulses }
  | _ => b

/-- Rescales a count to a capacity (R18). -/
def Count.rescale (cap : Nat) (c : Count) : Count := { c with q := c.q * cap / c.capacity, capacity := cap }

/-- What a warm reset keeps of the Charge Counter, if the BATTERY role is read again (R19). -/
def ChargeCounter.warm (c : ChargeCounter) : ChargeCounter :=
  { ChargeCounter.atReset with
    count := c.count.map (Count.rescale CcParams.defaults.cNom)
    estimated := c.estimated, cutRun := c.cutRun, clearRun := c.clearRun, syncRun := c.syncRun, cut := c.cut,
    emptyCount := c.emptyCount }

/-- COLD_RESET: every block's cold-reset state; the clock, the queue and the level of RST stand (R169). -/
def State.coldReset (s : State) : State :=
  { State.reset with
    now := s.now
    nc := { NodeControl.atReset with lifeSince := s.now, rstLow := s.nc.rstLow }
    pending := s.pending }

/-- The warm-reset state of every block: kept are the Charge Counter's count, the volume count and the drives at rest
(R169). -/
def State.warmState (s : State) : State :=
  { State.reset with
    now := s.now
    nc := { NodeControl.atReset with
      lifeSince := s.now, kind := .warm, supplyLow := s.nc.supplyLow, rstLow := s.nc.rstLow }
    cc := s.cc.warm
    ma := s.ma.warm
    mb := s.mb.warm
    wf := { WaterFrost.atReset with volume := s.wf.volume, remainder := s.wf.remainder }
    pending := s.pending }

/-- WARM_RESET: RST goes low. While a cold reset lasts the reset stays cold (R169; log entry 33). -/
def State.warmReset (s : State) : State :=
  if s.life = .reset ∧ s.nc.kind = .cold then { s with nc := { s.nc with rstLow := true } }
  else
    let t := s.warmState
    { t with nc := { t.nc with rstLow := true } }

/-- RESET to STRAP_READ (R169, R170). -/
def State.enterStrapRead (s : State) : State :=
  { s with nc := { s.nc with
      life := .strapRead, lifeSince := s.now, strapTimer := some (s.now + Config.strapReadMs) } }

/-- A NODE RESTART: a warm reset whose cause lasts for an instant (R148, R169). -/
def State.restart (s : State) : State := s.warmState.enterStrapRead

/-! ### LISTEN_ONLY, DORMANT, RUN -/

/-- The frost guards and HT start: heater enabled and frost hold enabled take their parameters, HT makes its first
evaluation (R118, R128, R129, R178). -/
def State.startUnits (s : State) : State :=
  let s1 := { s with nc := { s.nc with started := true } }.onHeating fun h =>
    { h with
      heaterEnabled := h.params.heaterEnable, frostHoldEnabled := h.params.frostHoldEnable,
      next := some (s.now + Config.evaluationMs) }
  s1.heatingEvaluates

/-- A node that transmits nothing stops a telegram of its own; the cause returns (R167, R181; log entry 35). -/
def State.stopSending (s : State) : State :=
  match s.lc.service with
  | some sv => { s with lc := { s.lc with service := none } }.onCauses sv.cause.giveBack
  | none => s

/-- Entry to LISTEN_ONLY: a pending restart is made, a pending store ends, nothing is measured periodically, forced causes
are evaluated (R100, R147, R148, R181). -/
def State.enterListenOnly (s : State) : State :=
  if s.od.restartPending then s.restart
  else
    let s1 := (s.changeLife .listenOnly).stopSending.stopMeasurePeriod.clearStore
    let s2 := if s1.nc.started then s1 else s1.startUnits
    s2.evaluateBothForced

/-- Entry to RUN at the end of the window (R178). -/
def State.enterRun (s : State) : State :=
  ((s.changeLife .run).startMeasurePeriod.startUnits).evaluateBothForced

/-- SETTINGS entries at the head of the queue are discarded outside COMMISSIONING (R141). -/
def dropSettings : List Entry → List Entry
  | e :: es => if e.operate then e :: es else dropSettings es
  | [] => []

/-- The oldest entry is an addressed OPERATE (R149). -/
def State.addressedHead (s : State) : Bool :=
  match s.od.iq with
  | e :: _ => e.operate && e.addressed
  | [] => false

/-- Entry to DORMANT: pumps disarmed, normal demand clear, MEASURE_DUE removed, then the wake conditions are tested
(R115, R131, R163, R179). The flags word takes DORMANT even where the node wakes at the same instant (log
entry 26), and the one recomputation of that instant is made in the life state it ends in (R39; log entry 46). -/
def State.enterDormant (s : State) : State :=
  let s1 := (s.changeLife .dormant).stopMeasurePeriod.onCauses fun c => { c with measureDue := false }
  let s2 := s1.onFunction .pump Channel.requestOff
  let s3 := (s2.onHeating fun h => { h with normalDemand := false }).heatingDisabled.syncFlags
  if s3.trv.reading || s3.ownDrive || s3.addressedHead then s3.wake s3.ownDrive else s3

/-- The end of the commissioning window: both timers stop, the payload in hand and the queued SETTINGS are discarded, and
the node enters RUN, or LISTEN_ONLY where CLASH is set (R141, R176). -/
def State.endWindow (s : State) : State :=
  let s1 := { s with
    nc := { s.nc with closing := none, limit := none }
    od := { s.od with inHand := none, iq := dropSettings s.od.iq } }
  if s1.pt.clash then s1.enterListenOnly else s1.enterRun

/-- A clash (R31). -/
def State.clash (s : State) : State :=
  let s1 := { s with pt := { s.pt with clash := true } }
  match s1.life with
  | .run | .dormant => s1.enterListenOnly
  | _ => s1

/-! ### The Operate Dispatcher between entries (R94, R140, R141, R147, R149) -/

/-- OVERFLOW clears when the queue is empty (R162). -/
def Dispatcher.clearOverflow (d : Dispatcher) : Dispatcher := if d.iq.isEmpty then { d with overflow := false } else d

/-- SETTINGS entries are taken at once: into hand in COMMISSIONING, discarded otherwise (R140, R141; log entry 5). -/
def State.takeSettings (s : State) : State :=
  if s.life = .commissioning then
    match s.od.inHand, s.od.iq with
    | none, e :: es => if e.operate then s else { s with od := { s.od with iq := es, inHand := some e.payload } }
    | _, _ => s
  else { s with od := { s.od with iq := dropSettings s.od.iq } }

/-- An addressed OPERATE that is the oldest entry wakes a DORMANT node and ends a pending store (R147, R149). -/
def State.headWakes (s : State) : State := if s.addressedHead then s.wakeCause false else s

def State.dispatch (s : State) : State :=
  let s1 := s.placeAllKept.takeSettings
  { s1 with od := s1.od.clearOverflow }.headWakes

/-- What follows from an event at its instant: kept answers and queue, recomputations, flags word. -/
def State.finish (s : State) : State := s.dispatch.settle.syncFlags

end Sys2Proof.Machine
end

