-- ==== Sys2Proof/Machine/Water.lean ====
section
/-! DEFINITION. The Water and Frost unit (06): levels, volume, frost guards, dump, dry run. -/

namespace Sys2Proof.Machine

def State.onWater (f : WaterFrost → WaterFrost) (s : State) : State := { s with wf := f s.wf }

/-! ### Levels (R111, R112) -/

/-- percent of a sender resistance in Ω (R111). -/
def levelPercent (rEmpty rFull : Nat) (r : Int) : Nat :=
  (clampInt 0 100 ((r - rEmpty) * 100 / ((rFull : Int) - rEmpty))).toNat

/-- FRESH_EMPTY by its hysteresis (R112). -/
def freshEmptyOf (percent : Nat) (was : Bool) : Bool := if percent ≤ 3 then true else if 6 ≤ percent then false else was

/-- GREY_FULL by its hysteresis (R112). -/
def greyFullOf (percent : Nat) (was : Bool) : Bool := if 90 ≤ percent then true else if percent ≤ 85 then false else was

/-- Fresh tank: a valid reading is converted; an invalid one changes nothing; without a route the percent is absent and the
flag clear, from the evaluation on that finds it so (R111, R112; log entry 48). -/
def WaterFrost.takeFresh (routed : Bool) (reading : Option Int) (w : WaterFrost) : WaterFrost :=
  match routed, reading with
  | false, _ => { w with freshPercent := none, freshEmpty := false }
  | true, none => w
  | true, some r =>
    let p := levelPercent w.params.freshREmpty w.params.freshRFull r
    { w with freshPercent := some p, freshEmpty := freshEmptyOf p w.freshEmpty }

/-- Grey tank (R111, R112; log entry 48). -/
def WaterFrost.takeGrey (routed : Bool) (reading : Option Int) (w : WaterFrost) : WaterFrost :=
  match routed, reading with
  | false, _ => { w with greyPercent := none, greyFull := false }
  | true, none => w
  | true, some r =>
    let p := levelPercent w.params.greyREmpty w.params.greyRFull r
    { w with greyPercent := some p, greyFull := greyFullOf p w.greyFull }

/-- Step 1 of an evaluation (R110). -/
def State.convertLevels (s : State) : State :=
  s.onWater fun w =>
    (w.takeFresh (s.routed .freshLevel) (s.level .freshLevel)).takeGrey (s.routed .greyLevel) (s.level .greyLevel)

/-! ### Frost guards (R118 to R123) -/

/-- The TANK_HEAT channel instance of the fresh tank, and of the grey tank (R118). -/
def freshTank : Nat := 1
def greyTank : Nat := 2

/-- A guard exists for the tank (R118). -/
def State.guardExists (s : State) (tank : Nat) : Bool := s.anyChannel fun c => c.fn = .tankHeat && c.inst = tank

/-- One change made on the TANK_HEAT channels of a tank. -/
def State.onTankHeat (tank : Nat) (f : Channel → Channel) (s : State) : State :=
  s.onChannels fun c => if c.fn = .tankHeat ∧ c.inst = tank then f c else c

/-- Dumping is allowed (R118). -/
def State.dumpAllowed (s : State) : Bool := s.wf.params.dumpEnable && s.hasChannel .dumpValve

/-- IDLE and HEATING by a tank temperature (R119, R120). -/
def Guard.heat (p : WfParams) (t : Option Int) : Guard → Guard
  | .idle => match t with | none => .heating | some t => if t ≤ p.frostOn then .heating else .idle
  | .heating => match t with | none => .heating | some t => if p.frostOff ≤ t then .idle else .heating
  | g => g

/-- The fresh percent is above 3 %, or absent (R121). -/
def WaterFrost.holdsWater (w : WaterFrost) : Bool :=
  match w.freshPercent with
  | none => true
  | some p => 3 < p

/-- The fresh guard at an evaluation (R119 to R123). -/
def Guard.fresh (w : WaterFrost) (allowed : Bool) (t : Option Int) (g : Guard) : Guard :=
  match g with
  | .dumped => .dumped
  | .dumpPending =>
    match t with
    | none => .heating
    | some t => if w.params.dumpTemp + 5 < t ∨ ¬ w.holdsWater then .heating else .dumpPending
  | .idle | .heating =>
    match t with
    | none => .heating
    | some t =>
      let g := g.heat w.params (some t)
      if g = .heating ∧ allowed ∧ t ≤ w.params.dumpTemp ∧ w.holdsWater then .dumpPending else g

/-- The tank's heater request follows its guard: on from the entry to HEATING, off at the entry to IDLE (R119, R121). -/
def State.heaterFollows (tank : Nat) (was now : Guard) (s : State) : State :=
  match was, now with
  | .idle, .heating | .idle, .dumpPending => s.onTankHeat tank (Channel.requestUntilOff s.now)
  | .heating, .idle => s.onTankHeat tank Channel.requestOff
  | _, _ => s

/-- The dump timer starts at the entry to DUMP_PENDING, and is cancelled when the guard leaves it (R121). -/
def dumpTimerOf (now delay : Nat) (was new : Guard) (t : Timer) : Timer :=
  if new = .dumpPending then (if was = .dumpPending then t else some (now + delay * 1000)) else none

def State.evaluateFresh (s : State) : State :=
  if s.guardExists freshTank then
    let g := s.wf.fresh.fresh s.wf s.dumpAllowed (s.temperature .freshT)
    (s.onWater fun w =>
      { w with fresh := g, dumpTimer := dumpTimerOf s.now w.params.dumpDelay w.fresh g w.dumpTimer }).heaterFollows
      freshTank s.wf.fresh g
  else s

def State.evaluateGrey (s : State) : State :=
  if s.guardExists greyTank then
    let g := s.wf.grey.heat s.wf.params (s.temperature .greyT)
    (s.onWater fun w => { w with grey := g }).heaterFollows greyTank s.wf.grey g
  else s

/-- Step 2: the guards that run (R110, R118). -/
def State.evaluateGuards (s : State) : State := if s.nc.started then s.evaluateFresh.evaluateGrey else s

/-- Step 3: WF's part of SENSOR_FAULT (R125). -/
def State.waterSensorPart (s : State) : Bool :=
  (s.routed .freshLevel && (s.level .freshLevel).isNone) || (s.routed .greyLevel && (s.level .greyLevel).isNone) ||
    (s.guardExists freshTank && (s.temperature .freshT).isNone) ||
    (s.guardExists greyTank && (s.temperature .greyT).isNone)

/-- One evaluation, with the next one 1 s later (R110). -/
def State.waterEvaluates (s : State) : State :=
  s.convertLevels.evaluateGuards.onWater fun w =>
    { w with sensorPart := s.waterSensorPart, next := some (s.now + Config.evaluationMs) }

/-- WF_EVALUATION (R110). -/
def execWfEvaluation (s : State) : Host.Outcome State Fault Refusal :=
  .next (if s.life.active then s.onExpiry s.wf.next (fun s => s.waterEvaluates.finish) else s)

/-! ### Dump (R122) -/

/-- The valve run is in progress while a valve channel is exempt (R122). -/
def State.valveRuns (s : State) : State :=
  s.onWater fun w => { w with valveRun := s.anyChannel fun c => c.fn = .dumpValve && c.exempt }

/-- The dump's request of a valve channel: on for 20 s, exempt; in FAULT it is only recorded (R122, R72). The output follows
the mode condition, also of a valve set to CYCLE or GATED (log entry 42). -/
def Channel.openValve (now : Nat) (c : Channel) : Channel :=
  if c.state = .fault then c.requestTimed now Config.valveRunS
  else { c.requestTimed now Config.valveRunS with exempt := true }

/-- The dump: valve run, fresh heater off, DUMPED (R122). -/
def State.dump (s : State) : State :=
  let s1 := s.onFunction .dumpValve (Channel.openValve s.now)
  let s2 := s1.onTankHeat freshTank Channel.requestOff
  (s2.onWater fun w => { w with fresh := .dumped, dumpTimer := none }).valveRuns

/-- DUMP_TIMER_EXPIRY (R122). -/
def execDumpTimerExpiry (s : State) : Host.Outcome State Fault Refusal :=
  .next (if s.wf.fresh = .dumpPending then s.onExpiry s.wf.dumpTimer (fun s => s.dump.finish) else s)

/-! ### Flow (R113, R117) -/

/-- Moves whole centilitres from the remainder to the volume, up to the limit (R113). -/
def WaterFrost.convertPulses (total : Nat) (w : WaterFrost) : WaterFrost :=
  { w with volume := min Config.volumeLimit (w.volume + total / w.params.ppl), remainder := total % w.params.ppl }

/-- FLOW_PULSE: the volume count, and the restart of each running dry timer (R113, R117). -/
def execFlowPulse (s : State) : Host.Outcome State Fault Refusal :=
  .next
    (if s.life.active ∧ s.routed .flow then
      (s.onWater fun w => w.convertPulses (w.remainder + 100)).onFunction .pump fun c =>
        { c with dry := c.dry.map fun _ => s.now + Config.dryFlowMs }
    else s)

/-- DRY_TIMER_EXPIRY: the pump channel enters FAULT (R117). -/
def execDryTimerExpiry (ch : Fin 8) (s : State) : Host.Outcome State Fault Refusal :=
  .next (s.onExpiry s.sw[ch].dry fun s => (s.onChannel ch Channel.enterFault).finish)

end Sys2Proof.Machine
end

