-- ==== Sys2Proof/Machine/ChannelEvents.lean ====
section
/-! DEFINITION. The events of the switched channels (04), with what they mean to the units that own the channels: the end of
the valve run (R122) and of the fan's run-on (R136). -/

namespace Sys2Proof.Machine

/-! ### Owners of the channels -/

/-- The valve run of a channel ends: exempt clears (R75, R122). -/
def State.endValveRun (ch : Fin 8) (s : State) : State := (s.onChannel ch fun c => { c with exempt := false }).valveRuns

/-- What its owner does when a channel has entered FAULT (R122, R136). -/
def State.afterFault (ch : Fin 8) (s : State) : State :=
  match s.sw[ch].fn with
  | .dumpValve => s.endValveRun ch
  | .burnerFan => s.stopRunOn
  | .none | .light | .aux | .pump | .tankHeat | .burner => s

/-- CHANNEL_END_TIMER_EXPIRY: as an OFF; a valve run and a run-on end with it (R60, R122, R136). -/
def execChannelEndTimerExpiry (ch : Fin 8) (s : State) : Host.Outcome State Fault Refusal :=
  .next
    (s.onExpiry s.sw[ch].endTimer fun s =>
      let s1 := s.onChannel ch (Channel.endRequest s.now)
      (match s.sw[ch].fn with
      | .dumpValve => s1.endValveRun ch
      | .burnerFan => s1.stopRunOn
      | .none | .light | .aux | .pump | .tankHeat | .burner => s1).finish)

/-- CYCLE_PHASE_CHANGE (R65). -/
def execCyclePhaseChange (ch : Fin 8) (s : State) : Host.Outcome State Fault Refusal :=
  .next (s.onExpiry s.sw[ch].cycleTimer fun s => (s.onChannel ch (Channel.nextPhase s.now)).finish)

/-- INRUSH_BLANKING_END: the threshold falls to twice (R69). -/
def execInrushBlankingEnd (ch : Fin 8) (s : State) : Host.Outcome State Fault Refusal :=
  .next (s.onExpiry s.sw[ch].blanking fun s => s.onChannel ch fun c => { c with blanking := none })

/-- A detected trip, at the instant of the state (R69, R71). -/
def State.tripChannel (ch : Fin 8) (s : State) : State :=
  let s1 := s.onChannel ch (Channel.trip s.now)
  (if s1.sw[ch].state = .fault then s1.afterFault ch else s1).finish

/-- CHANNEL_TRIP: only an output that is on, above the thresholds for the 10 ms; they end 10 ms after the turn-on at the
earliest (R69, R71; log entry 6). -/
def execChannelTrip (ch : Fin 8) (run : TripRun) (s : State) : Host.Outcome State Fault Refusal :=
  .next
    (if (s.sw[ch]).overCurrent s.now run then
      (s.reach (s.sw[ch].onSince + Config.tripRunMs)).tripChannel ch
    else s)

/-- TRIP_COOLDOWN_END: ON or HELD by the decision where requested, else OFF (R70). -/
def execTripCooldownEnd (ch : Fin 8) (s : State) : Host.Outcome State Fault Refusal :=
  .next
    (s.onExpiry s.sw[ch].cooldown fun s =>
      (s.onChannel ch fun c =>
        { c with
          cooldown := none
          state := if c.state = .tripped then (if c.request then .held else .off) else c.state }).finish)

/-- TRIP_HISTORY_EXPIRY: the oldest trip is 60 s old (R71). -/
def execTripHistoryExpiry (ch : Fin 8) (s : State) : Host.Outcome State Fault Refusal :=
  .next
    (s.onExpiry (s.sw[ch].trips.head?.map (· + Config.tripHistoryMs)) fun s =>
      s.onChannel ch fun c => { c with trips := c.recentTrips s.now })

/-- OPEN_LOAD_DETECTED: an output that has run at duty 1023 for 2 s with a current below an eighth of the nominal; the 2 s
end 2 s after it came to that duty at the earliest (R74; log entry 6). -/
def execOpenLoadDetected (ch : Fin 8) (current : Nat) (s : State) : Host.Outcome State Fault Refusal :=
  .next
    (if s.sw[ch].duty = Config.fullDuty ∧ current < s.sw[ch].nominal / 8 then
      (s.reach (s.sw[ch].fullSince + Config.openLoadMs)).onChannel ch fun c => { c with openLoad := true }
    else s)

/-- FADE_STEP (R79). -/
def execFadeStep (ch : Fin 8) (s : State) : Host.Outcome State Fault Refusal :=
  .next (s.onExpiry s.sw[ch].fadeTimer fun s => (s.onChannel ch (Channel.stepFade s.now)).finish)

/-- RESTORE_HOLDOFF_EXPIRY: S rises by one class, and a recomputation is made with it (R45). -/
def execRestoreHoldoffExpiry (s : State) : Host.Outcome State Fault Refusal :=
  .next
    (s.onExpiry s.lb.holdoff fun s =>
      ({ s with lb := { s.lb with s := s.lb.s.up, holdoff := none } }.trigger).finish)

end Sys2Proof.Machine
end

