-- ==== Sys2Proof/Machine/Charge.lean ====
section
/-! DEFINITION. The Charge Counter (01): the sample, the cold-start estimate, the battery figures and the BATTERY_DUE raises. -/

namespace Sys2Proof.Machine

/-- Q_full in mA·s (R9). -/
def CcParams.qFull (p : CcParams) : Nat := p.cNom * 3600000

/-- Capacity factor k by battery temperature (R9, R3). -/
def capacityFactor : Option Int → Nat
  | none => 154
  | some t => if 250 ≤ t then 256 else if 100 ≤ t then 243 else if 0 ≤ t then 218 else if -100 ≤ t then 186 else 154

/-- Q_eff (R9). -/
def CcParams.qEff (p : CcParams) (tb : Option Int) : Nat := p.qFull * capacityFactor tb / 256

/-- SoC_est of the cold-start estimate, in percent (R5). -/
def CcParams.socEstimate (p : CcParams) (v : Nat) : Nat :=
  (clampInt 0 100 (((v : Int) - p.vEmpty) * 100 / ((p.vFull : Int) - p.vEmpty))).toNat

/-- The cold-start estimate from the voltage of the latest sample (R5). -/
def ChargeCounter.estimate (c : ChargeCounter) : ChargeCounter :=
  { c with
    count := some ⟨c.params.qFull * c.params.socEstimate c.v / 100, 0, c.params.cNom⟩
    estimated := true
    estimatedSinceReset := true
    emptyCount := false }

/-- The reading of a shunt voltage in nV, in proportion to 50 mV, rounded down before its clamp (R2; 00, Rounding). -/
def shuntReading (nv : Int) : Int := nv * Config.shuntEndReading / Config.shuntEndNv

/-- Step 1: the shunt reading, the voltage and the temperature; SHUNT_RANGE tells a voltage beyond either end (R2, R3). -/
def ChargeCounter.take (shunt vbat : Int) (tb : Option Int) (c : ChargeCounter) : ChargeCounter :=
  { c with
    iS := clampInt (-Config.shuntEndReading) Config.shuntEndReading (shuntReading shunt)
    shuntRange := decide (shunt < -Config.shuntEndNv) || decide (Config.shuntEndNv < shunt)
    v := (clampInt 0 20000 vbat).toNat
    tb := tb
    cold := match tb with | none => true | some t => decide (t < 0)
    sensorPart := tb.isNone }

/-- The charge update of a count for the shunt reading (R6, R7). -/
def ChargeCounter.charge (n : Count) (c : ChargeCounter) : ChargeCounter :=
  if 0 < c.iS then
    let total := c.iS.toNat * c.params.eta + n.f
    let raised := n.q + total / 100
    let n' : Count :=
      if c.params.qFull < raised then { n with q := c.params.qFull, f := 0 } else { n with q := raised, f := total % 100 }
    { c with count := some n', emptyCount := if n.q < n'.q then false else c.emptyCount }
  else if (n.q : Int) + c.iS < 0 then { c with count := some { n with q := 0 }, emptyCount := true }
  else { c with count := some { n with q := ((n.q : Int) + c.iS).toNat } }

/-- Step 2 (R4). -/
def ChargeCounter.update (c : ChargeCounter) : ChargeCounter :=
  match c.count with
  | none => c.estimate
  | some n => c.charge n

/-- Step 3: the net ring; the first sample after a reset fills it (R8). -/
def ChargeCounter.enterRing (c : ChargeCounter) : ChargeCounter :=
  { c with ring := if c.ring = [] then List.replicate 10 c.iS else c.ring.drop 1 ++ [c.iS] }

/-- Step 4, CUT and its runs (R13). -/
def ChargeCounter.advanceCut (c : ChargeCounter) : ChargeCounter :=
  if c.cut then
    let run := if c.params.vCut + 400 ≤ c.v then c.clearRun + 1 else 0
    if Config.clearRunLength ≤ run then { c with cut := false, clearRun := 0, cutRun := 0 }
    else { c with clearRun := run, cutRun := 0 }
  else
    let run := if c.v < c.params.vCut then c.cutRun + 1 else 0
    if Config.cutRunLength ≤ run then { c with cut := true, clearRun := 0, cutRun := 0 }
    else { c with cutRun := run, clearRun := 0 }

/-- Step 4, full synchronisation (R14). -/
def ChargeCounter.advanceSync (c : ChargeCounter) : ChargeCounter :=
  let run := if c.params.vFull ≤ c.v ∧ 0 ≤ c.iS ∧ c.iS ≤ c.params.iTail then c.syncRun + 1 else 0
  if Config.syncRunLength ≤ run then
    { c with
      syncRun := 0
      count := c.count.map fun n => { n with q := c.params.qFull, f := 0 }
      estimated := false
      emptyCount := false
      estimatedSinceReset := false }
  else { c with syncRun := run }

/-- SoC of a count (R10). -/
def CcParams.soc (p : CcParams) (tb : Option Int) (q : Nat) : Nat := min 100 (100 * q / p.qEff tb)

/-- L before the cold derate (R11). -/
def CcParams.limit (p : CcParams) (cut : Bool) (socUsed : Nat) : Nat :=
  if cut then 0
  else if p.rHi ≤ socUsed then p.iMax
  else if socUsed ≤ p.rLo then p.iEss
  else p.iEss + (p.iMax - p.iEss) * (socUsed - p.rLo) / (p.rHi - p.rLo)

/-- The cold derate (R12). -/
def CcParams.derate (p : CcParams) (cut cold : Bool) (l : Nat) : Nat := if cold ∧ ¬ cut then max p.iEss (l * 3 / 4) else l

/-- Step 5 (R9 to R12). -/
def ChargeCounter.results (c : ChargeCounter) : ChargeCounter :=
  match c.count with
  | none => c
  | some n =>
    let soc := c.params.soc c.tb n.q
    let used := if c.estimated then soc - 10 else soc
    { c with soc := soc, socUsed := used, l := c.params.derate c.cut c.cold (c.params.limit c.cut used) }

/-- The six battery flags as they stand (R15). -/
def ChargeCounter.flags (c : ChargeCounter) : BattFlags :=
  { estimated := c.estimated, cut := c.cut, cold := c.cold, shuntRange := c.shuntRange, conflict := c.conflict,
    emptyCount := c.emptyCount }

/-- Step 6, the values handed on (R15). -/
def ChargeCounter.handOn (c : ChargeCounter) : ChargeCounter := { c with handed := some ⟨c.soc, c.l, c.flags⟩ }

/-- One sample (R4). -/
def ChargeCounter.sample (shunt vbat : Int) (tb : Option Int) (c : ChargeCounter) : ChargeCounter :=
  (c.take shunt vbat tb).update.enterRing.advanceCut.advanceSync.results.handOn

/-- Step 6: a sample raises BATTERY_DUE where L has moved by 16 or a battery flag has changed, or nothing has been sent;
not while CONFLICT is set (R16). -/
def ChargeCounter.due (c : ChargeCounter) : Bool :=
  if c.conflict then false
  else
    match c.sent with
    | none => true
    | some (l, flags) => l + 16 ≤ c.l || c.l + 16 ≤ l || c.flags ≠ flags

/-- One sample of the node's Charge Counter, with the next one 100 ms later (R1, R4). -/
def State.ccTakes (shunt vbat : Int) (s : State) : State :=
  let s1 := { s with
    cc := { s.cc.sample shunt vbat (s.temperature .batteryT) with next := some (s.now + Config.sampleMs) } }.updateView
  if s1.cc.due then s1.raiseBattery else s1

/-- CC_SAMPLE (R1, R4). -/
def execCcSample (shunt vbat : Int) (s : State) : Host.Outcome State Fault Refusal :=
  .next
    (if s.life.active ∧ s.isBattery then s.onExpiry s.cc.next (fun s => (s.ccTakes shunt vbat).finish) else s)

/-- BATTERY_PERIOD_TIMER_EXPIRY: restarts and raises BATTERY_DUE (R16). -/
def execBatteryPeriodTimerExpiry (s : State) : Host.Outcome State Fault Refusal :=
  .next
    (s.onExpiry s.cc.period fun s =>
      { s with cc := { s.cc with period := some (s.now + Config.batteryPeriodMs) } }.raiseBattery)

/-- Mean of the net ring in 0.1 A, truncated toward zero (R8). -/
def ChargeCounter.netCurrent (c : ChargeCounter) : Int := c.ring.sum.tdiv 100

/-- The payload of a BATTERY telegram (R17, 12). -/
def ChargeCounter.payload (c : ChargeCounter) : List Byte :=
  byteOf c.soc :: putWord c.l ++ putSigned16 c.netCurrent ++ putWord c.v ++
    [putSigned8 (match c.tb with | none => -128 | some t => t.tdiv 10), byteOf c.flags.toNat]

end Sys2Proof.Machine
end

