-- ==== Sys2Proof/Machine/DriveEvents.lean ====
section
/-! DEFINITION. The events of the drives (05): pulses, stalls, overcurrent and the drives' timers. -/

namespace Sys2Proof.Machine

/-- The bridge drives the motor (R85). -/
def DriveState.travelling : DriveState → Bool
  | .extending | .retracting => true
  | .unknown | .retracted | .extended | .parked | .waitGrant | .braking | .jammed => false

/-- HALL_PULSE (R86, R87). -/
def execHallPulse (i : DriveId) (s : State) : Host.Outcome State Fault Refusal := .next (s.onDrive i (Drive.pulse s.now))

/-- A detected stall ends the travel; a drive that is EXTENDED now evaluates its forced causes (R88, R100). -/
def State.stallDrive (i : DriveId) (s : State) : State :=
  let t := (s.onDrive i Drive.stalled).evaluateForced i
  (wakeForForced s t).finish

/-- DRIVE_STALL: by a current above the stall current, or by 500 ms without a pulse, while the bridge drives (R87, R88). -/
def execDriveStall (i : DriveId) (cause : StallCause) (s : State) : Host.Outcome State Fault Refusal :=
  .next
    (if (s.drive i).state.travelling then
      match cause with
      | .current c => if (s.drive i).stall < c then s.stallDrive i else s
      | .noPulse => s.onExpiry (s.drive i).pulseWatch (State.stallDrive i)
    else s)

/-- DRIVE_OVERCURRENT: a current above twice the stall current (R87). -/
def execDriveOvercurrent (i : DriveId) (current : Nat) (s : State) : Host.Outcome State Fault Refusal :=
  .next
    (if (s.drive i).state.travelling ∧ 2 * (s.drive i).stall < current then (s.onDrive i Drive.enterJam).finish else s)

/-- TRAVEL_TIMER_EXPIRY (R89). -/
def execTravelTimerExpiry (i : DriveId) (s : State) : Host.Outcome State Fault Refusal :=
  .next
    (if (s.drive i).state.travelling then
      s.onExpiry (s.drive i).travelTimer fun s => (s.onDrive i Drive.enterJam).finish
    else s)

/-- The end of braking: the new direction, or PARKED without one or where the interlock refuses an extension (R96). -/
def State.endBraking (i : DriveId) (s : State) : State :=
  match (s.drive i).direction with
  | none => s.comeToRest i .parked
  | some .retract => s.onDrive i (Drive.travel s.now .retract)
  | some .extend =>
    if extendRefusal (s.drive i).fn s.interlock = none then s.onDrive i (Drive.travel s.now .extend)
    else s.comeToRest i .parked

/-- BRAKE_TIMER_EXPIRY (R96). -/
def execBrakeTimerExpiry (i : DriveId) (s : State) : Host.Outcome State Fault Refusal :=
  .next
    (if (s.drive i).state = .braking then
      s.onExpiry (s.drive i).brakeTimer fun s => (wakeForForced s (s.endBraking i)).finish
    else s)

/-- GRANT_WAIT_TIMER_EXPIRY: back to the origin, REFUSED_LOW_POWER (R92). -/
def execGrantWaitTimerExpiry (i : DriveId) (s : State) : Host.Outcome State Fault Refusal :=
  .next
    (if (s.drive i).state = .waitGrant then
      s.onExpiry (s.drive i).grantTimer fun s =>
        (wakeForForced s ((s.resolve i .refusedLowPower).returnToOrigin i)).finish
    else s)

end Sys2Proof.Machine
end

