-- ==== Sys2Proof/Machine/HeatingEvents.lean ====
section
/-! DEFINITION. The timed events of the Heating unit (07). -/

namespace Sys2Proof.Machine

/-- HT_EVALUATION (R129). -/
def execHtEvaluation (s : State) : Host.Outcome State Fault Refusal :=
  .next
    (if s.life.active ∧ s.nc.started then
      s.onExpiry s.ht.next fun s =>
        ((s.onHeating fun h => { h with next := some (s.now + Config.evaluationMs) }).heatingEvaluates).finish
    else s)

/-- MINIMUM_ON_TIMER_EXPIRY: a lit burner goes out where the last evaluation left the demand clear (R135). -/
def execMinimumOnTimerExpiry (s : State) : Host.Outcome State Fault Refusal :=
  .next
    (s.onExpiry s.ht.minimumOn fun s =>
      let s1 := s.onHeating fun h => { h with minimumOn := none }
      (if s1.ht.burner = .firing ∧ s1.ht.lit ∧ ¬ s1.demand then s1.burnerOff else s1).finish)

/-- REST_TIMER_EXPIRY: OFF, and FIRING at once where the last evaluation left a demand; run-on has always ended before it
(R137, 07 burner states). -/
def execRestTimerExpiry (s : State) : Host.Outcome State Fault Refusal :=
  .next
    (if s.ht.burner = .rest then
      s.onExpiry s.ht.rest fun s => ((s.onHeating fun h => { h with rest := none, burner := .off }).tryFire).finish
    else s)

end Sys2Proof.Machine
end

