-- ==== Sys2Proof/Machine/Operands.lean ====
section
/-! DEFINITION. The operand forms: the payloads of received telegrams and the settings records as values (12). -/

namespace Sys2Proof.Machine

/-! ### OPERATE (12; R142, R143) -/

structure Operate where
  fn : Byte
  inst : Byte
  action : Byte
  value : Nat
deriving DecidableEq, Repr

def operateOf (p : List Byte) : Operate := ⟨p.getD 0 0, p.getD 1 0, p.getD 2 0, wordAt p 3⟩

/-- The node has the named function, and for LIGHT and AUX the instance (08, functions table; R142). -/
def State.hasFunction (s : State) (o : Operate) : Bool :=
  match o.fn.toNat with
  | 1 => true
  | 2 => s.anyChannel fun c => c.fn = .light && c.inst = o.inst.toNat
  | 3 => s.anyChannel fun c => c.fn = .aux && c.inst = o.inst.toNat
  | 4 => s.hasChannel .pump
  | 5 => s.hasChannel .burner
  | 6 => s.hasChannel .dumpValve
  | 7 => s.routed .flow
  | 8 => s.ma.fn = .step || s.mb.fn = .step
  | 9 => s.ma.fn = .awning || s.mb.fn = .awning
  | _ => false

/-- The action codes of a function code (08, functions table; 12, action codes). -/
def actionsOf : Nat → List Nat
  | 1 => [12, 13]
  | 2 => [1, 2, 3, 4]
  | 3 => [1, 2, 4]
  | 4 => [1, 2]
  | 5 => [1, 2, 5, 6]
  | 6 => [7]
  | 7 => [8]
  | 8 | 9 => [9, 10, 11]
  | _ => []

/-- The action is among those of the function (R142). -/
def Operate.known (o : Operate) : Bool := o.action.toNat ∈ actionsOf o.fn.toNat

/-- Who an answer goes to: an addressed request has a requester (R145). -/
def Entry.requester (e : Entry) : Option Requester :=
  let o := operateOf e.payload
  if e.addressed then some ⟨e.src, o.fn, o.inst, o.action⟩ else none

/-! ### STATE, BATTERY, MEASURE, SCENE (12; R22, R32, R29, R82) -/

/-- The 48 bits of the four wants, W[0] first (R188). -/
def wantsOf (n : Nat) : Wants := ⟨bitsAt n 36 12, bitsAt n 24 12, bitsAt n 12 12, bitsAt n 0 12⟩

/-- The fresh entry a STATE from `src` at instant `now` makes (R22, R189). -/
def peerOf (src : Addr) (now : Nat) (p : List Byte) : Peer :=
  let flags := Flags.ofNat (wordAt p 8)
  { addr := src
    role := peerRoleOf (byteAt p 0)
    wants := wantsOf (bytesNat ((p.drop 2).take 6))
    shed := shedOf (byteAt p 1)
    flags := flags
    motionA := bitsAt (byteAt p 10) 4 4
    motionB := bitsAt (byteAt p 10) 0 4
    scene := if byteAt p 11 ≤ 8 then byteAt p 11 else 0
    dormantAging := flags.dormant
    status := .present
    heardAt := now
    cabin := none }

/-- What a candidate takes from a BATTERY payload (R32). -/
def battValsOf (p : List Byte) : BattVals := ⟨byteAt p 0, min 2000 (wordAt p 1), BattFlags.ofNat (byteAt p 8)⟩

/-- The four readings of a MEASURE: quantity code and signed value (12). -/
def readingsOf (p : List Byte) : List (Nat × Int) :=
  [0, 3, 6, 9].map fun i => (byteAt p i, signed16 (wordAt p (i + 1)))

/-! ### SETTINGS records (12; R177) -/

/-- Whole length of a record by its type; none for an unknown type (12). -/
def recordLength : Nat → Option Nat
  | 1 => some 12 | 2 => some 3 | 3 => some 10 | 4 => some 8 | 5 => some 12 | 6 => some 7 | 7 => some 10
  | 8 => some 12 | 9 => some 11 | 10 => some 6 | 11 => some 7 | 12 => some 5 | 13 => some 2 | 14 => some 1
  | _ => none

/-- A yes/no field (R188). -/
def yesAt (p : List Byte) (i : Nat) : Bool := byteAt p i ≠ 0

/-- Instance of a channel, clamped into the range of its function (R59); functions without instances take none. -/
def instanceOf (fn : ChFn) (n : Nat) : Nat :=
  match fn with
  | .light => clampNat 1 8 n
  | .aux => clampNat 1 4 n
  | .tankHeat => clampNat 1 2 n
  | .none | .pump | .dumpValve | .burner | .burnerFan => 0

/-- The fields a CHANNEL record numbered 1 to 8 puts into a channel record, clamped (R59). -/
def Channel.ofRecord (p : List Byte) (c : Channel) : Channel :=
  let fn := chFnOf (byteAt p 2)
  let a := clampNat 1 3599 (bitsAt (bytesNat ((p.drop 7).take 3)) 12 12)
  { c with
    fn := fn
    inst := instanceOf fn (byteAt p 3)
    cls := bitsAt (byteAt p 4) 6 2
    mode := if fn = .burnerFan then .level else modeOf (bitsAt (byteAt p 4) 4 2)
    dimmable := decide (fn = ChFn.light) && (byteAt p 4).testBit 3
    nominal := min 300 (wordAt p 5)
    a := a
    b := clampNat (a + 1) 3600 (bitsAt (bytesNat ((p.drop 7).take 3)) 0 12)
    gate := gateOf (byteAt p 10)
    fade := byteAt p 11 }

/-- FROST record (R109). -/
def WfParams.ofFrost (p : List Byte) (w : WfParams) : WfParams :=
  let on := clampInt 0 100 (wordAt p 1)
  { w with
    frostOn := on
    frostOff := clampInt (on + 10) 150 (wordAt p 3)
    dumpEnable := yesAt p 5
    dumpTemp := clampInt (-50) (min 50 (on - 10)) (signed16 (wordAt p 6))
    dumpDelay := clampNat 60 3600 (wordAt p 8) }

/-- WATER record (R109). -/
def WfParams.ofWater (p : List Byte) (w : WfParams) : WfParams :=
  let fresh := min 240 (byteAt p 1)
  let grey := min 240 (byteAt p 3)
  { w with
    freshREmpty := fresh
    freshRFull := clampNat (fresh + 10) 250 (byteAt p 2)
    greyREmpty := grey
    greyRFull := clampNat (grey + 10) 250 (byteAt p 4)
    ppl := clampNat 100 5000 (wordAt p 5) }

/-- HEAT record (R128). -/
def HtParams.ofRecord (p : List Byte) : HtParams :=
  { setpoint := clampInt 50 300 (wordAt p 1)
    hyst := clampInt 2 20 (byteAt p 3)
    heaterEnable := yesAt p 4
    frostHoldEnable := yesAt p 5
    frostFloor := clampInt 0 100 (wordAt p 6) }

/-- BATTERY_A record (R18). -/
def CcParams.ofA (p : List Byte) (c : CcParams) : CcParams :=
  let iMax := min 2000 (wordAt p 4)
  let rLo := min 98 (byteAt p 8)
  { c with
    cNom := clampNat 20 800 (wordAt p 1)
    eta := clampNat 80 100 (byteAt p 3)
    iMax := iMax
    iEss := min iMax (wordAt p 6)
    rLo := rLo
    rHi := clampNat (rLo + 1) 100 (byteAt p 9)
    iTail := min 1000 (wordAt p 10) }

/-- BATTERY_V record (R18). -/
def CcParams.ofV (p : List Byte) (c : CcParams) : CcParams :=
  let vEmpty := clampNat 10000 14000 (wordAt p 3)
  { c with
    vCut := clampNat 10000 13000 (wordAt p 1)
    vEmpty := vEmpty
    vFull := clampNat (vEmpty + 100) 16000 (wordAt p 5) }

/-- DRIVE record (R84): the position follows a new travel_pulses in EXTENDED and PARKED. -/
def Drive.ofRecord (p : List Byte) (d : Drive) : Drive :=
  let tp := clampNat 50 20000 (wordAt p 2)
  { d with
    travelPulses := tp
    travelTime := clampNat 10 1200 (wordAt p 4)
    stall := clampNat 10 300 (wordAt p 6)
    nominal := min 300 (wordAt p 8)
    position :=
      match d.state with
      | .extended => tp
      | .parked => min d.position tp
      | _ => d.position }

/-- CURVE record `n`: the eight entries from 8n (R77). Entry k of the record stands k places of 10 bits from the top. -/
def curveOf (n : Nat) (p : List Byte) (v : Vector Nat 64) : Vector Nat 64 :=
  let bits := bytesNat ((p.drop 2).take 10)
  [0, 1, 2, 3, 4, 5, 6, 7].foldl (fun v k => v.setIfInBounds (8 * n + k) (bitsAt bits (70 - 10 * k) 10)) v

/-- SCENE record (R81). -/
def sceneOf (p : List Byte) : Scene :=
  let level (i : Nat) := if byteAt p (i + 2) ≤ 63 then byteAt p (i + 2) else 255
  { levels := ⟨#[level 0, level 1, level 2, level 3, level 4, level 5, level 6, level 7], rfl⟩, fade := byteAt p 10 }

/-- WIND record (R103). -/
def GustDetector.ofRecord (p : List Byte) (g : GustDetector) : GustDetector :=
  { g with
    kWind := clampNat 1 50 (byteAt p 1)
    threshold := clampNat 20 400 (wordAt p 2)
    lockoutTime := clampNat 60 3600 (wordAt p 4) }

/-- TRV record (R105). -/
def TravelLine.ofRecord (p : List Byte) (t : TravelLine) : TravelLine :=
  { t with maskIgnition := (byteAt p 1).testBit 1, maskSpeed := (byteAt p 1).testBit 0 }

/-- LINK record (R20). -/
def PeerTable.ofRecord (p : List Byte) (t : PeerTable) : PeerTable :=
  { t with lIsland := min 2000 (wordAt p 1), strangerReserve := min 500 (wordAt p 3) }

end Sys2Proof.Machine
end

