-- ==== Sys2Proof/Machine/Peers.lean ====
section
/-! DEFINITION. The Peer Table (02): entries, their aging, the stranger-seen timer, and the battery candidates with
CONFLICT. -/

namespace Sys2Proof.Machine

def State.onPeers (f : PeerTable → PeerTable) (s : State) : State := { s with pt := f s.pt }

def State.setEntries (es : List Peer) (s : State) : State := s.onPeers fun t => { t with entries := es }

/-- An entry change, handed to its readers: the interlock view with its forced causes at once; the recomputation and its grants,
and the pump locks, follow in `settle`. R30 does not order its readers, and R54 lets either come first (log entry 50). -/
def State.entryChange (s : State) : State := s.trigger.interlockEvent

/-! ### STATE (R22 to R26) -/

/-- What a STATE makes of the entry its address holds: HELLO or another role replaces it, otherwise the cabin temperature is
kept (R25, R26). -/
def refreshed (old new : Peer) : Peer :=
  if new.flags.hello ∨ new.role ≠ old.role then new else { new with cabin := old.cabin }

/-- The STATE is a replacement, or changes a field or the status (R25, R26). -/
def isEntryChange (old new : Peer) : Bool :=
  new.flags.hello || { refreshed old new with heardAt := old.heardAt } ≠ old

/-- The LOST entry of the longest silence (R23). -/
def longestSilent (es : List Peer) : Option Peer :=
  es.foldl (fun best p =>
    if p.status = .lost then
      match best with
      | none => some p
      | some b => if p.heardAt < b.heardAt then some p else some b
    else best) none

/-- A refused admission restarts the stranger-seen timer; its start from stopped calls for a recomputation (R23, R24). -/
def State.seeStranger (s : State) : State :=
  let t := s.onPeers fun t => { t with stranger := some (s.now + Config.strangerMs) }
  if s.pt.stranger.isSome then t else t.trigger

/-- A STATE from `src` reaches the Peer Table (R22, R23, R25, R26). The last one heard stands last (log entry 18). DESIGN CHOICE
(log entry 53): an eviction and the creation after it are both in place before the one recomputation that follows. -/
def State.peerState (src : Addr) (p : List Byte) (s : State) : State :=
  let new := peerOf src s.now p
  let others := s.pt.entries.filter fun e => e.addr ≠ src
  match s.pt.entries.find? fun e => e.addr = src with
  | some old =>
    let t := s.setEntries (others ++ [refreshed old new])
    if isEntryChange old new then t.entryChange else t
  | none =>
    if s.pt.entries.length < Config.peerPlaces then (s.setEntries (s.pt.entries ++ [new])).entryChange
    else
      match longestSilent s.pt.entries with
      | some gone => (s.setEntries (s.pt.entries.filter (fun e => e.addr ≠ gone.addr) ++ [new])).entryChange
      | none => s.seeStranger

/-! ### Aging (R27) -/

def Peer.staleAt (p : Peer) : Nat := p.heardAt + if p.dormantAging then Config.staleDormantMs else Config.staleMs

def Peer.lostAt (p : Peer) : Nat := p.heardAt + if p.dormantAging then Config.lostDormantMs else Config.lostMs

/-- One change made on the entry of an address. -/
def onEntry (a : Addr) (f : Peer → Peer) (es : List Peer) : List Peer := es.map fun e => if e.addr = a then f e else e

def State.entry (a : Addr) (s : State) : Option Peer := s.pt.entries.find? fun e => e.addr = a

/-- The entry of `a` moves from one status to the next at instant `at` (R27). -/
def State.ageEntry (a : Addr) (src dst : PeerStatus) (at_ : Peer → Nat) (s : State) : State :=
  match s.entry a with
  | some p =>
    if p.status = src then
      (((s.reach (at_ p)).setEntries (onEntry a (fun e => { e with status := dst }) s.pt.entries)).entryChange).finish
    else s
  | none => s

/-- PEER_STALE (R27). -/
def execPeerStale (a : Addr) (s : State) : Host.Outcome State Fault Refusal :=
  .next (s.ageEntry a .present .stale Peer.staleAt)

/-- PEER_LOST (R27). -/
def execPeerLost (a : Addr) (s : State) : Host.Outcome State Fault Refusal :=
  .next (s.ageEntry a .stale .lost Peer.lostAt)

/-- STRANGER_SEEN_TIMER_EXPIRY: the reserve leaves class 1 (R24). -/
def execStrangerSeenTimerExpiry (s : State) : Host.Outcome State Fault Refusal :=
  .next (s.onExpiry s.pt.stranger fun s => ((s.onPeers fun t => { t with stranger := none }).trigger).finish)

/-! ### Cabin temperature of a peer (R29) -/

/-- One reading of a MEASURE in the entry of its source; only CABIN_T acts (R29). -/
def Peer.takeReading (now : Nat) (e : Peer) (r : Nat × Int) : Peer :=
  if r.1 = 1 then { e with cabin := if r.2 = invalidMarker then none else some ⟨r.2, now⟩ } else e

/-- A MEASURE from `src` reaches the Peer Table; its readings act in the order of the payload, so of two of CABIN_T the last one
stands (R29; log entry 45). -/
def State.peerMeasure (src : Addr) (p : List Byte) (s : State) : State :=
  s.setEntries (onEntry src (fun e => (readingsOf p).foldl (Peer.takeReading s.now) e) s.pt.entries)

/-- PEER_CABIN_T_EXPIRY: the reading is 30 s old (R29). -/
def execPeerCabinTExpiry (a : Addr) (s : State) : Host.Outcome State Fault Refusal :=
  .next
    (match (s.entry a).bind fun p => p.cabin with
    | some r =>
      (s.reach (r.since + Config.cabinAgeMs)).setEntries (onEntry a (fun e => { e with cabin := none }) s.pt.entries)
    | none => s)

/-! ### Battery candidates (R32 to R34) -/

/-- A candidate below the node's own address in the BATTERY role (R34). -/
def State.lowerCandidate (s : State) : Bool :=
  match s.isBattery, s.ownAddr with
  | true, some own => s.pt.candidates.any fun c => c.addr < own
  | _, _ => false

/-- CONFLICT follows the candidates; its change raises BATTERY_DUE; the period timer is stopped while it is set and starts
again when it clears (R16, R34). A BATTERY_DUE held unsent in service stays there, and the raise stands beside it (R163; log
entry 44). -/
def State.syncConflict (s : State) : State :=
  match s.cc.conflict, s.lowerCandidate with
  | false, true => { s with cc := { s.cc with conflict := true, period := none } }.raiseBattery
  | true, false =>
    { s with cc := { s.cc with conflict := false, period := some (s.now + Config.batteryPeriodMs) } }.raiseBattery
  | _, _ => s

/-- The candidates have changed: CONFLICT, the choice of source, and NO_BATTERY, whose change calls for a recomputation
(R33, R34, R39). -/
def State.takeCandidates (cs : List Candidate) (s : State) : State :=
  let t := ((s.onPeers fun t => { t with candidates := cs }).syncConflict).updateView
  if t.noBattery = s.noBattery then t else t.trigger

/-- A BATTERY from `src` makes or renews its candidate (R32). -/
def State.peerBattery (src : Addr) (p : List Byte) (s : State) : State :=
  s.takeCandidates
    (s.pt.candidates.filter (fun c => c.addr ≠ src) ++ [⟨src, battValsOf p, s.now + Config.candidateMs⟩])

/-- BATTERY_CANDIDATE_EXPIRY: 5 s after its last BATTERY a candidate is removed (R32). -/
def execBatteryCandidateExpiry (a : Addr) (s : State) : Host.Outcome State Fault Refusal :=
  .next
    (match s.pt.candidates.find? fun c => c.addr = a with
    | some c =>
      ((s.reach c.expires).takeCandidates (s.pt.candidates.filter fun c => c.addr ≠ a)).finish
    | none => s)

end Sys2Proof.Machine
end

