-- ==== Sys2Proof/Machine/Sensors.lean ====
section
/-! DEFINITION. The Sensor Front End (11): sampling and filters, switch and pulse inputs, gust windows, the Travel line, the
MEASURE list and its values, the STATUS pin. -/

namespace Sys2Proof.Machine

/-! ### Temperature conversion (R184) -/

/-- e^(n/d) scaled by 2^64, n and d positive, as the sum of 48 terms of its series, each floored. -/
def expScaled (n d : Nat) : Nat :=
  ((List.range 48).foldl (fun (acc : Nat × Nat) i => (acc.1 + acc.2, acc.2 * n / (d * (i + 1)))) (0, 2 ^ 64)).1

/-- Resistance, in mΩ and floored, that the NTC has at `t` + 400 tenths above −40.0 °C, by the beta relation: 10 kΩ at
298.15 K, beta 3950 K (R184). With K the temperature in 0.01 K it is 10⁷ e^(395000 (29815 − K) / (29815 K)). -/
def ntcResistance (t : Nat) : Nat :=
  let k := 27315 - 4000 + 10 * t
  if k ≤ 29815 then 10 ^ 7 * expScaled (395000 * (29815 - k)) (29815 * k) / 2 ^ 64
  else 10 ^ 7 * 2 ^ 64 / expScaled (395000 * (k - 29815)) (29815 * k)

/-- The highest `t` of 0 to 1250 whose resistance is not below `r`, found from its highest bit down; 0 where there is none:
the clamp to −40.0 °C. -/
def ntcSearch (r : Nat) : Nat :=
  [1024, 512, 256, 128, 64, 32, 16, 8, 4, 2, 1].foldl
    (fun t bit => if t + bit ≤ 1250 ∧ r ≤ ntcResistance (t + bit) then t + bit else t) 0

/-- A temperature sample from a resistance in mΩ: none where open or short (R184). -/
def temperatureSample (r : Nat) : Option Int :=
  if 1200000000 < r ∨ r < 80000 then none else some ((ntcSearch r : Int) - 400)

/-- A level sample from a resistance in mΩ: none where open or short, else whole Ω up to 250 (R184). -/
def levelSample (r : Nat) : Option Int :=
  if 300000 < r ∨ r < 1000 then none else some (min 250 (r / 1000) : Nat)

/-! ### Filters (R183, R184) -/

/-- A valid sample joins the filter, which holds the ten samples of the last 1 s; an invalid one empties it (R184; log
entry 19). -/
def filterStep (xs : List Int) : Option Int → List Int
  | none => []
  | some x => (if xs.length < 10 then xs else xs.drop 1) ++ [x]

/-- One sample of every analogue input (R183). -/
def SensorFrontEnd.sample (a : Analog) (f : SensorFrontEnd) : SensorFrontEnd :=
  { f with
    temps :=
      ⟨#[filterStep f.temps[0] (temperatureSample a.t1), filterStep f.temps[1] (temperatureSample a.t2),
         filterStep f.temps[2] (temperatureSample a.t3), filterStep f.temps[3] (temperatureSample a.t4)], rfl⟩
    levels := ⟨#[filterStep f.levels[0] (levelSample a.l1), filterStep f.levels[1] (levelSample a.l2)], rfl⟩ }

def State.takeSample (a : Analog) (s : State) : State :=
  { s with sfe := { s.sfe.sample a with next := some (s.now + Config.sampleMs) } }

/-! ### MEASURE (R186) -/

/-- The quantities the node has, in the order of R186. -/
def State.measureListNow (s : State) : List Nat :=
  ([(1, s.routed .cabinT), (2, s.routed .outsideT), (3, s.routed .freshT), (4, s.routed .greyT), (5, s.routed .batteryT),
    (6, s.routed .freshLevel), (7, s.routed .greyLevel), (8, s.routed .flow), (9, s.routed .anemometer),
    (10, s.hasChannel .burner), (11, true), (12, true)].filter fun q => q.2).map fun q => q.1

/-- Forms the list anew, with the pointer at its start (R186). -/
def State.formMeasureList (s : State) : State :=
  { s with sfe := { s.sfe with measureList := s.measureListNow, pointer := 0 } }

/-- CHANNEL_STATUS: SW1 to SW8, MA, MB; a channel in FAULT or with OPEN set, a drive with jam latched (R186, R73, R90). -/
def State.channelStatus (s : State) : Nat :=
  bitsNat ((channelNumbers.map fun i => decide (s.sw[i].state = .fault) || s.sw[i].openLoad) ++ [s.ma.jam, s.mb.jam])

/-- The value of a quantity at this instant (R186). -/
def State.quantity (s : State) : Nat → Int
  | 1 => (s.temperature .cabinT).getD invalidMarker
  | 2 => (s.temperature .outsideT).getD invalidMarker
  | 3 => (s.temperature .freshT).getD invalidMarker
  | 4 => (s.temperature .greyT).getD invalidMarker
  | 5 => (s.temperature .batteryT).getD invalidMarker
  | 6 => (s.wf.freshPercent.map Int.ofNat).getD invalidMarker
  | 7 => (s.wf.greyPercent.map Int.ofNat).getD invalidMarker
  | 8 => min 65535 (s.wf.volume / 100)
  | 9 => s.gust.speed
  | 10 => s.ht.setpoint
  | 11 => s.channelStatus
  | _ => s.lc.badChecks

/-- The quantity at `k` places after the pointer, wrapping to the start of the list (R186). -/
def SensorFrontEnd.quantityAt (f : SensorFrontEnd) (k : Nat) : Nat :=
  f.measureList.getD ((f.pointer + k) % f.measureList.length) 0

/-- The payload of a MEASURE telegram (R186, 12). -/
def State.measurePayload (s : State) : List Byte :=
  [0, 1, 2, 3].flatMap fun k => byteOf (s.sfe.quantityAt k) :: putSigned16 (s.quantity (s.sfe.quantityAt k))

/-- The pointer moves on by four, modulo the list length (R186). -/
def SensorFrontEnd.advance (f : SensorFrontEnd) : SensorFrontEnd :=
  { f with pointer := (f.pointer + 4) % f.measureList.length }

/-! ### Switch inputs (R185) -/

/-- What an own IGNITION or SPEED input that has become active brings: the interlock event, then the wake cause (R98,
R180). -/
def State.ownDriveEvent (s before : State) : State :=
  let s1 := s.interlockEvent
  if (s1.ignitionActive && !before.ignitionActive) || (s1.speedActive && !before.speedActive) then s1.wakeCause true
  else s1

/-- DEBOUNCED_INPUT_CHANGE: the routed function takes the change at once (R185). -/
def execDebouncedInputChange (i : Fin 4) (active : Bool) (s : State) : Host.Outcome State Fault Refusal :=
  .next
    (if s.life.active ∧ s.sfe.inputs[i] ≠ active then
      (({ s with sfe := { s.sfe with inputs := s.sfe.inputs.set i.val active i.isLt } }).ownDriveEvent s).finish
    else s)

/-- SFE_SAMPLE (R183, R184). -/
def execSfeSample (a : Analog) (s : State) : Host.Outcome State Fault Refusal :=
  .next (if s.life.active then s.onExpiry s.sfe.next (fun s => s.takeSample a) else s)

/-! ### SPEED (R98) -/

/-- SPEED_PULSE: a counted pulse makes a routed SPEED input active for 2 s from it. -/
def execSpeedPulse (s : State) : Host.Outcome State Fault Refusal :=
  .next
    (if s.life.active ∧ s.routed .speed then
      (({ s with sfe := { s.sfe with speedTimer := some (s.now + Config.speedMs) } }).ownDriveEvent s).finish
    else s)

/-- SPEED_TIMEOUT: 2 s with no further pulse. -/
def execSpeedTimeout (s : State) : Host.Outcome State Fault Refusal :=
  .next
    (s.onExpiry s.sfe.speedTimer fun s =>
      ({ s with sfe := { s.sfe with speedTimer := none } }.interlockEvent).finish)

/-! ### Gust detector (R103) -/

/-- ANEMOMETER_PULSE: a pulse of a routed ANEMOMETER input counts in the window, whichever input serves it (R103; log
entry 52). -/
def execAnemometerPulse (s : State) : Host.Outcome State Fault Refusal :=
  .next
    (if s.life.active ∧ s.routed .anemometer then { s with gust := { s.gust with pulses := s.gust.pulses + 1 } } else s)

/-- The end of a window: the speed, the next window, and the lockout for a gust (R103). DESIGN CHOICE (log entry 52): a
ROUTE record inside a window changes neither its count nor the speed; the route that stands at the end decides. -/
def GustDetector.endWindow (now : Nat) (routed : Bool) (g : GustDetector) : GustDetector :=
  let speed := if routed then min 65535 (g.pulses * g.kWind) else 0
  { g with
    speed := speed
    pulses := 0
    windowEnd := some (now + Config.gustWindowMs)
    lockout := if g.threshold ≤ speed then some (now + g.lockoutTime * 1000) else g.lockout }

/-- GUST_WINDOW_END. -/
def execGustWindowEnd (s : State) : Host.Outcome State Fault Refusal :=
  .next
    (if s.life.active then
      s.onExpiry s.gust.windowEnd fun s =>
        ({ s with gust := s.gust.endWindow s.now (s.routed .anemometer) }.interlockEvent).finish
    else s)

/-- GUST_LOCKOUT_EXPIRY. -/
def execGustLockoutExpiry (s : State) : Host.Outcome State Fault Refusal :=
  .next
    (s.onExpiry s.gust.lockout fun s => ({ s with gust := { s.gust with lockout := none } }.interlockEvent).finish)

/-! ### Travel line (R105, R106) -/

/-- The node asserts TRV: a routed input that the source mask selects is active, in the states that drive the line (R105). -/
def State.trvDriven (s : State) : Bool :=
  match s.life with
  | .commissioning | .run | .dormant =>
    (s.trv.maskIgnition && s.ignitionActive) || (s.trv.maskSpeed && s.speedActive)
  | .reset | .strapRead | .strapFault | .listenOnly => false

/-- TRV_READING_CHANGE: the line read at the other level for 50 ms. A node that asserts the line itself cannot read it
released (R106; log entry 27). -/
def execTrvReadingChange (asserted : Bool) (s : State) : Host.Outcome State Fault Refusal :=
  .next
    (if s.life.active ∧ s.trv.reading ≠ asserted ∧ (asserted ∨ ¬ s.trvDriven) then
      let s1 := { s with trv := { s.trv with reading := asserted } }.interlockEvent
      (if asserted then s1.wakeCause false else s1).finish
    else s)

/-! ### STATUS pin (R187) -/

/-- The level of the STATUS pin at this instant; true is on (log entry 30 for the double flash). -/
def State.statusPin (s : State) : Bool :=
  let t := s.now - s.nc.lifeSince
  match s.life with
  | .reset | .strapRead | .dormant => false
  | .strapFault => t % 500 < 250
  | .commissioning => t % 1000 < 100
  | .run => true
  | .listenOnly => t % 1000 < 100 || (200 ≤ t % 1000 && t % 1000 < 300)

end Sys2Proof.Machine
end

