-- ==== Sys2Proof/Machine/Receive.lean ====
section
/-! DEFINITION. Receiving (09): the Link Controller's receiver, the Receive Filter and its receipt slots, and what each kind
of telegram does. -/

namespace Sys2Proof.Machine

def State.onLink (f : LinkController → LinkController) (s : State) : State := { s with lc := f s.lc }

/-- The node is driving a telegram of its own (R31, R157). -/
def State.sending (s : State) : Bool :=
  match s.lc.service with
  | some sv => sv.sending
  | none => false

/-- A telegram of another station is read (R153, R167). -/
def State.receivable (s : State) : Bool :=
  s.life.active && s.lc.synchronised && s.lc.rx ≠ .discarding && !s.sending

/-- The receiver after a complete telegram: ready, the link not idle, both slots recessive so far (R152, R157). -/
def LinkController.readTelegram (l : LinkController) : LinkController :=
  { l with rx := .ready, idle := false, heardSlot := false, takenSlot := false }

/-- The life states in which the node drives receipt slots (R157). -/
def LifeState.drivesSlots : LifeState → Bool
  | .commissioning | .run | .dormant => true
  | .reset | .strapRead | .strapFault | .listenOnly => false

/-- HEARD (R157). -/
def State.driveHeard (s : State) : State := s.onLink fun l => { l with heardSlot := s.life.drivesSlots }

/-- TAKEN (R157, R161). -/
def State.driveTaken (s : State) : State := s.onLink fun l => { l with takenSlot := s.life.drivesSlots }

/-! ### The Receive Filter (R160) -/

inductive Verdict where
  /-- Source 0 or 31. -/
  | dropped
  /-- Source equal to the node's own address. -/
  | clash
  /-- Addressed to another station. -/
  | other
  /-- To all stations, or addressed to the node. -/
  | handled (addressed : Bool)
deriving DecidableEq, Repr

/-- The tests of the Receive Filter, in order (R160). -/
def State.verdict (src tgt : Addr) (s : State) : Verdict :=
  if src = 0 ∨ src = 31 then .dropped
  else if s.ownAddr = some src then .clash
  else if tgt = 0 then .handled false
  else if s.ownAddr = some tgt then .handled true
  else .other

/-- A telegram that is dropped at its length character (R153), or broken off: nothing is taken until the link is idle. -/
def LinkController.discard (l : LinkController) : LinkController := { l with rx := .discarding, idle := false }

/-- A telegram discarded for its check is counted, up to 65,535 (R153). -/
def LinkController.countBadCheck (l : LinkController) : LinkController :=
  { l.readTelegram with badChecks := min 65535 (l.badChecks + 1) }

/-- A complete telegram at the receiver: one longer than any is dropped at its length, one whose check is not the computed
one is counted, and a good one goes on to the filter (R153). -/
def State.readIn (kind : Nat) (src tgt : Addr) (a : Arrival) (filter : State → State) (s : State) : State :=
  if s.receivable then
    if 12 < a.payload.length then s.onLink LinkController.discard
    else if goodCheck kind src tgt a then filter (s.onLink LinkController.readTelegram)
    else s.onLink LinkController.countBadCheck
  else s

/-- The filter's tests, HEARD, the length of the kind (R189), then the kind's own handling, which is told whether the telegram
was addressed. -/
def State.filter (src tgt : Addr) (fits : Bool) (handle : Bool → State → State) (s : State) : State :=
  match s.verdict src tgt with
  | .dropped | .other => s
  | .clash => s.clash.finish
  | .handled addressed => if fits then (handle addressed s.driveHeard).finish else s.driveHeard

/-- A telegram of a kind that the node handles (R153, R160). -/
def State.receive (kind : Nat) (src tgt : Addr) (a : Arrival) (fits : Bool) (handle : Bool → State → State) (s : State) :
    State :=
  s.readIn kind src tgt a (State.filter src tgt fits handle)

/-- STATE_RECEIVED (R22 to R26, R160). -/
def execStateReceived (src tgt : Addr) (a : Arrival) (s : State) : Host.Outcome State Fault Refusal :=
  .next (s.receive kindState src tgt a (a.payload.length = 12) fun _ s => s.peerState src a.payload)

/-- BATTERY_RECEIVED (R32, R160). -/
def execBatteryReceived (src tgt : Addr) (a : Arrival) (s : State) : Host.Outcome State Fault Refusal :=
  .next (s.receive kindBattery src tgt a (a.payload.length = 9) fun _ s => s.peerBattery src a.payload)

/-- MEASURE_RECEIVED (R29, R160). -/
def execMeasureReceived (src tgt : Addr) (a : Arrival) (s : State) : Host.Outcome State Fault Refusal :=
  .next (s.receive kindMeasure src tgt a (a.payload.length = 12) fun _ s => s.peerMeasure src a.payload)

/-! ### SCENE (R82) -/

/-- What a scene does to one channel (R82). -/
def Channel.applyScene (now fade level : Nat) (c : Channel) : Channel :=
  if level = 255 ∨ c.fn ≠ .light ∨ ¬ c.dimmable ∨ c.state = .fault then c
  else if level = 0 then c.fadeOut now fade
  else (c.requestWith now none).setTarget now fade level

/-- A valid scene number acts on SW1 to SW8 and becomes the last scene (R82). -/
def State.applyScene (n : Nat) (s : State) : State :=
  if h : 1 ≤ n ∧ n ≤ 8 then
    let sc := s.light.scenes[n - 1]
    let ch (i : Fin 8) := (s.sw[i]).applyScene s.now sc.fade sc.levels[i]
    { s with
      sw := ⟨#[ch 0, ch 1, ch 2, ch 3, ch 4, ch 5, ch 6, ch 7], rfl⟩
      light := { s.light with lastScene := n } }
  else s

/-- SCENE_RECEIVED: handed to the Light unit in RUN, DORMANT and LISTEN_ONLY (R82, R160). -/
def execSceneReceived (src tgt : Addr) (a : Arrival) (s : State) : Host.Outcome State Fault Refusal :=
  .next
    (s.receive kindScene src tgt a (a.payload.length = 1) fun _ s =>
      if s.life = .commissioning then s else s.applyScene (byteAt a.payload 0))

/-! ### WAKE (R160, R180) -/

/-- WAKE_RECEIVED: TAKEN where addressed in RUN and DORMANT; a wake cause without WAKE_OUT (R160, R180). -/
def execWakeReceived (src tgt : Addr) (a : Arrival) (s : State) : Host.Outcome State Fault Refusal :=
  .next
    (s.receive kindWake src tgt a (a.payload.length = 0) fun addressed s =>
      let s1 := if addressed ∧ (s.life = .run ∨ s.life = .dormant) then s.driveTaken else s
      s1.wakeCause false)

/-! ### OPERATE and SETTINGS (R161, R162) -/

/-- Admission to the Inbound Queue: with room the entry joins its end, and TAKEN is driven for an addressed telegram; without
room OVERFLOW is set (R161, R162). -/
def State.enqueue (e : Entry) (s : State) : State :=
  if s.od.iq.length < Config.queuePlaces then
    let s1 : State := { s with od := { s.od with iq := s.od.iq ++ [e] } }
    if e.addressed then s1.driveTaken else s1
  else { s with od := { s.od with overflow := true } }

/-- OPERATE_RECEIVED: admitted in RUN and DORMANT; a broadcast only for a function the node has (R161). -/
def execOperateReceived (src tgt : Addr) (a : Arrival) (s : State) : Host.Outcome State Fault Refusal :=
  .next
    (s.receive kindOperate src tgt a (a.payload.length = 5) fun addressed s =>
      if (s.life = .run ∨ s.life = .dormant) ∧ (addressed ∨ s.hasFunction (operateOf a.payload)) then
        s.enqueue ⟨true, src, addressed, a.payload⟩
      else s)

/-- SETTINGS_RECEIVED: admitted where addressed, in COMMISSIONING (R161). -/
def execSettingsReceived (src tgt : Addr) (a : Arrival) (s : State) : Host.Outcome State Fault Refusal :=
  .next
    (s.receive kindSettings src tgt a (2 ≤ a.payload.length && a.payload.length ≤ 12) fun addressed s =>
      if s.life = .commissioning ∧ addressed then s.enqueue ⟨false, src, true, a.payload⟩ else s)

/-- ANSWER_RECEIVED: HEARD, and discarded (R160). -/
def execAnswerReceived (src tgt : Addr) (a : Arrival) (s : State) : Host.Outcome State Fault Refusal :=
  .next (s.receive kindAnswer src tgt a (a.payload.length = 4) fun _ s => s)

/-- TELEGRAM_FOR_OTHER_STATION: of a good one only the source is looked at, for the clash check (R31, R160). -/
def execTelegramForOtherStation (m : Telegram) (s : State) : Host.Outcome State Fault Refusal :=
  .next
    (s.readIn m.kind m.src m.tgt m.arrival fun s =>
      match s.verdict m.src m.tgt with
      | .clash => s.clash.finish
      | .dropped | .other | .handled _ => s)

/-! ### What cuts a telegram (R151 to R153) -/

/-- LINK_IDLE: the link is idle, a telegram not complete is cut, and the receiver is synchronised and ready; a break of the
node's own is over (R151 to R153, R156). -/
def execLinkIdle (s : State) : Host.Outcome State Fault Refusal :=
  .next
    (if s.life.active ∧ ¬ s.sending then
      s.onLink fun l => { l with synchronised := true, idle := true, rx := .ready, breaking := false }
    else s)

/-- FRAMING_ERROR: the telegram in hand is discarded (R151; log entry 23). -/
def execFramingError (s : State) : Host.Outcome State Fault Refusal :=
  .next
    (if s.receivable then s.onLink LinkController.discard else s)

/-- BREAK_DETECTED: nothing is taken until the link has been idle again (R152). -/
def execBreakDetected (s : State) : Host.Outcome State Fault Refusal :=
  .next
    (if s.life.active ∧ ¬ s.sending then s.onLink LinkController.discard else s)

/-- MALFORMED_LENGTH: dropped at the length character, counted nowhere, waits for idle (R153). -/
def execMalformedLength (s : State) : Host.Outcome State Fault Refusal :=
  .next
    (if s.receivable then s.onLink LinkController.discard else s)

/-- TELEGRAM_BAD_CHECK: discarded and counted (R153). -/
def execTelegramBadCheck (s : State) : Host.Outcome State Fault Refusal :=
  .next (if s.receivable then s.onLink LinkController.countBadCheck else s)

end Sys2Proof.Machine
end

