-- ==== Sys2Proof/Machine/Records.lean ====
section
/-! DEFINITION. The settings records (10, R176, R177): the next record of the payload in hand is applied, skipped or
discarded. -/

namespace Sys2Proof.Machine

def State.setInHand (p : Option (List Byte)) (s : State) : State := { s with od := { s.od with inHand := p } }

/-- What is left of the payload, none when it is used up. -/
def leftOf : List Byte → Option (List Byte)
  | [] => none
  | b :: bs => some (b :: bs)

/-- An applied record moves the end of the closing timer to 5 s after it, where that is later (R176). -/
def State.moveClosing (s : State) : State :=
  { s with nc := { s.nc with closing := s.nc.closing.map fun e => max e (s.now + Config.closingExtendMs) } }

/-- The next record of the payload in hand, in COMMISSIONING, where its type is `type` and `mine` holds of the payload. -/
def State.nextRecord (type : Nat) (mine : List Byte → Bool) (s : State) : Option (List Byte) :=
  match s.life, s.od.inHand with
  | .commissioning, some p => if p ≠ [] ∧ byteAt p 0 = type ∧ mine p then some p else none
  | _, _ => none

/-- One record row: a record cut by the end of the payload is discarded, one whose number lies outside its range is
skipped, any other is applied (R177; log entry 4). -/
def State.record (type : Nat) (mine inRange : List Byte → Bool) (apply : List Byte → State → State) (s : State) : State :=
  match s.nextRecord type mine with
  | some p =>
    let n := (recordLength type).getD 0
    (if p.length < n then s.setInHand none
    else if inRange p then (apply (p.take n) (s.setInHand (leftOf (p.drop n)))).moveClosing
    else s.setInHand (leftOf (p.drop n))).finish
  | none => s

def always (_ : List Byte) : Bool := true

/-- The record's number lies in a range. -/
def numberIn (lo hi : Nat) (p : List Byte) : Bool := lo ≤ byteAt p 1 && byteAt p 1 ≤ hi

/-! ### Channels and drives (R59, R84) -/

/-- A CHANNEL record on a channel; a change of function ends its request and its level, and what the old owner had set
(R59, R60). -/
def Channel.takeRecord (p : List Byte) (c : Channel) : Channel :=
  let c' := c.ofRecord p
  if c'.fn = c.fn then c'
  else
    { c'.stopCycle with
      request := false, endTimer := none, timedRequest := false, target := 0, current := 0, fadeTimer := none, state := .off,
      throttled := false, exempt := false, givenClass := none }

/-- One of the channels 1 to 8 takes a record; the MEASURE list is formed again (R59, R186). -/
def State.applyChannel (p : List Byte) (s : State) : State :=
  (s.onChannel (Fin.ofNat 8 (byteAt p 1 - 1)) (Channel.takeRecord p)).formMeasureList

/-- CHANNEL_RECORD: numbers 1 to 8; 9 and 10 are CHANNEL_RECORD_DRIVE's, others are skipped (R59, R177). -/
def execChannelRecord (s : State) : Host.Outcome State Fault Refusal :=
  .next (s.record 1 (fun p => !numberIn 9 10 p) (numberIn 1 8) State.applyChannel)

/-- The drive a record numbered from `first` names. -/
def driveOfNumber (first n : Nat) : DriveId := if n = first then .ma else .mb

/-- The function of a drive; a change brings the defaults of the new one, UNKNOWN at 0 (R84). -/
def Drive.takeFunction (fn : DriveFn) (d : Drive) : Drive := if d.fn = fn then d else Drive.blank fn

def State.applyDriveFunction (p : List Byte) (s : State) : State :=
  (s.onDrive (driveOfNumber 9 (byteAt p 1)) (Drive.takeFunction (driveFnOf (byteAt p 2)))).formMeasureList

/-- CHANNEL_RECORD_DRIVE: numbers 9 and 10, of which the function byte alone is used (R84). -/
def execChannelRecordDrive (s : State) : Host.Outcome State Fault Refusal :=
  .next (s.record 1 (numberIn 9 10) (numberIn 9 10) State.applyDriveFunction)

def State.applyDrive (p : List Byte) (s : State) : State :=
  (s.onDrive (driveOfNumber 1 (byteAt p 1)) (Drive.ofRecord p)).formMeasureList

/-- DRIVE_RECORD (R84). -/
def execDriveRecord (s : State) : Host.Outcome State Fault Refusal :=
  .next (s.record 7 always (numberIn 1 2) State.applyDrive)

/-! ### Routes and Travel line (R174, R105) -/

/-- The 2 s of SPEED belong to the input that counted the pulse: they end where another input, or none, serves SPEED (R98,
R185; log entry 38). -/
def State.moveSpeed (before s : State) : State :=
  if s.entryOf .speed = before.entryOf .speed then s else { s with sfe := { s.sfe with speedTimer := none } }

/-- An entry of the routing table is replaced; the functions move at this instant, and the interlock view with them (R98,
R174, R186). -/
def State.applyRoute (p : List Byte) (s : State) : State :=
  let n := byteAt p 1 - 1
  let t := { s with sfe := { s.sfe with routes := s.sfe.routes.setIfInBounds n (routeFnOf n (byteAt p 2)) } }
  ((s.moveSpeed t).formMeasureList).interlockEvent

/-- ROUTE_RECORD (R174). -/
def execRouteRecord (s : State) : Host.Outcome State Fault Refusal :=
  .next (s.record 2 always (numberIn 1 12) State.applyRoute)

/-- TRV_RECORD (R105). -/
def execTrvRecord (s : State) : Host.Outcome State Fault Refusal :=
  .next (s.record 13 always always fun p s => { s with trv := s.trv.ofRecord p })

/-! ### Water, frost, heat and wind (R109, R113, R128, R103) -/

/-- FROST_RECORD (R109). -/
def execFrostRecord (s : State) : Host.Outcome State Fault Refusal :=
  .next (s.record 3 always always fun p s => s.onWater fun w => { w with params := w.params.ofFrost p })

/-- A WATER record; a remainder above the new ppl is converted at once (R109, R113; log entry 21). -/
def WaterFrost.takeWater (p : List Byte) (w : WaterFrost) : WaterFrost :=
  let w' := { w with params := w.params.ofWater p }
  if w'.params.ppl < w'.remainder then w'.convertPulses w'.remainder else w'

/-- WATER_RECORD (R109). -/
def execWaterRecord (s : State) : Host.Outcome State Fault Refusal :=
  .next (s.record 11 always always fun p s => s.onWater (WaterFrost.takeWater p))

/-- HEAT_RECORD: the setpoint in use is the record's (R128, R139). -/
def execHeatRecord (s : State) : Host.Outcome State Fault Refusal :=
  .next
    (s.record 4 always always fun p s =>
      s.onHeating fun h => { h with params := HtParams.ofRecord p, setpoint := (HtParams.ofRecord p).setpoint })

/-- WIND_RECORD (R103). -/
def execWindRecord (s : State) : Host.Outcome State Fault Refusal :=
  .next (s.record 10 always always fun p s => { s with gust := s.gust.ofRecord p })

/-! ### Battery and link (R18, R20) -/

/-- A count present is rescaled to a new C_nom (R18). -/
def ChargeCounter.takeA (p : List Byte) (c : ChargeCounter) : ChargeCounter :=
  let params := c.params.ofA p
  { c with
    params := params
    count := c.count.map fun n => if n.capacity = params.cNom then n else n.rescale params.cNom }

/-- BATTERY_A_RECORD (R18). -/
def execBatteryARecord (s : State) : Host.Outcome State Fault Refusal :=
  .next (s.record 5 always always fun p s => { s with cc := s.cc.takeA p })

/-- The cold-start estimate is repeated while the count still rests on it (R18). -/
def ChargeCounter.takeV (p : List Byte) (c : ChargeCounter) : ChargeCounter :=
  let c' := { c with params := c.params.ofV p }
  if c.estimatedSinceReset then c'.estimate else c'

/-- BATTERY_V_RECORD (R18). -/
def execBatteryVRecord (s : State) : Host.Outcome State Fault Refusal :=
  .next (s.record 6 always always fun p s => { s with cc := s.cc.takeV p })

/-- A change of L_island calls for a recomputation (R20). -/
def State.applyLink (p : List Byte) (s : State) : State :=
  let t := s.onPeers (PeerTable.ofRecord p)
  if t.pt.lIsland = s.pt.lIsland then t else t.trigger

/-- LINK_RECORD (R20). -/
def execLinkRecord (s : State) : Host.Outcome State Fault Refusal := .next (s.record 12 always always State.applyLink)

/-! ### Light (R77, R81) -/

/-- CURVE_RECORD (R77). -/
def execCurveRecord (s : State) : Host.Outcome State Fault Refusal :=
  .next
    (s.record 8 always (numberIn 0 7) fun p s =>
      { s with light := { s.light with curve := curveOf (byteAt p 1) p s.light.curve } })

/-- SCENE_RECORD (R81). -/
def execSceneRecord (s : State) : Host.Outcome State Fault Refusal :=
  .next
    (s.record 9 always (numberIn 1 8) fun p s =>
      { s with light := { s.light with scenes := s.light.scenes.setIfInBounds (byteAt p 1 - 1) (sceneOf p) } })

/-! ### CLOSE and unknown types (R176, R177) -/

/-- CLOSE_RECORD: the window ends at its application; the records after it are discarded (R176, R177). -/
def execCloseRecord (s : State) : Host.Outcome State Fault Refusal :=
  .next
    (match s.nextRecord 14 always with
    | some _ => s.endWindow.finish
    | none => s)

/-- UNKNOWN_RECORD_TYPE: discarded with every byte after it (R177). -/
def execUnknownRecordType (s : State) : Host.Outcome State Fault Refusal :=
  .next
    (match s.life, s.od.inHand with
    | .commissioning, some p => if recordLength (byteAt p 0) = none then (s.setInHand none).finish else s
    | _, _ => s)

end Sys2Proof.Machine
end

