-- ==== Sys2Proof/Machine/Requests.lean ====
section
/-! DEFINITION. The Operate Dispatcher (08): taking the oldest Inbound Queue entry, its tests, and each request with its
answer. -/

namespace Sys2Proof.Machine

/-! ### Taking an entry (R140, R142, R149) -/

/-- The life states in which OPERATE entries are taken: an addressed one in DORMANT has woken the node first (R149). -/
def takesOperate (life : LifeState) (addressed : Bool) : Bool :=
  match life with
  | .run | .listenOnly => true
  | .dormant => !addressed
  | .reset | .strapRead | .strapFault | .commissioning => false

/-- The Operate Dispatcher takes the entry (R140). -/
def State.canTake (s : State) (e : Entry) : Bool :=
  e.operate && takesOperate s.life e.addressed && !s.od.storePending && !s.od.restartPending &&
    (!e.addressed || (s.fifoHasRoom && !s.keepsAnswer))

/-- The entry leaves the queue. -/
def State.popEntry (s : State) : State := { s with od := { s.od with iq := s.od.iq.tail } }

/-- The oldest entry, where it is an OPERATE that the dispatcher takes at this instant and that `p` selects. -/
def State.takable (p : Operate → Bool) (s : State) : Option Entry :=
  match s.od.iq with
  | e :: _ => if s.canTake e ∧ p (operateOf e.payload) then some e else none
  | [] => none

/-- One row of the functions table: the oldest entry names this function and action. It is taken; an absent function is
answered NO_FUNCTION, otherwise the request is handed on (R140, R142; log entry 4). -/
def State.operate (fn act : Nat) (body : Operate → Option Requester → State → State) (s : State) : State :=
  match s.takable fun o => o.fn.toNat = fn ∧ o.action.toNat = act with
  | some e =>
    let o := operateOf e.payload
    let t := s.popEntry
    (if t.hasFunction o then body o e.requester t else t.reply e.requester .noFunction).finish
  | none => s

/-- UNKNOWN_OPERATE_CODE: NO_FUNCTION for a function that is unknown or absent, else BAD_ACTION (R142). -/
def execUnknownOperateCode (s : State) : Host.Outcome State Fault Refusal :=
  .next
    (match s.takable fun o => !o.known with
    | some e =>
      let t := s.popEntry
      (t.reply e.requester (if t.hasFunction (operateOf e.payload) then .badAction else .noFunction)).finish
    | none => s)

/-! ### LIGHT and AUX (R60, R64, R72, R78, R144) -/

/-- One change made on every channel of a function and instance. -/
def State.onGroup (fn : ChFn) (inst : Nat) (f : Channel → Channel) (s : State) : State :=
  s.onChannels fun c => if c.fn = fn ∧ c.inst = inst then f c else c

/-- Some channel of the group is not in FAULT (R144). -/
def State.groupTakes (s : State) (fn : ChFn) (inst : Nat) : Bool :=
  s.anyChannel fun c => c.fn = fn && c.inst = inst && c.state ≠ .fault

/-- A request that FAULT refuses: a channel in FAULT stays as it is; DONE where some channel took it (R144). -/
def State.requestGroup (fn : ChFn) (f : Channel → Channel) (o : Operate) (r : Option Requester) (s : State) : State :=
  (s.onGroup fn o.inst.toNat fun c => if c.state = .fault then c else f c).reply r
    (if s.groupTakes fn o.inst.toNat then .done else .refusedFault)

/-- An OFF: it clears FAULT, and is answered DONE in every channel state (R72, R144). -/
def State.offGroup (fn : ChFn) (o : Operate) (r : Option Requester) (s : State) : State :=
  (s.onGroup fn o.inst.toNat fun c => if c.state = .fault then c.clearFault else c.endRequest s.now).reply r .done

/-- A target of a dimmable channel, at the channel's own interval (R78, R79). -/
def Channel.aim (now target : Nat) (c : Channel) : Channel :=
  if c.dimmable then c.setTarget now c.fade target else c

/-- LIGHT ON (R78). -/
def Channel.lightOn (now : Nat) (c : Channel) : Channel := (c.requestOn now).aim now 63

/-- LIGHT LEVEL n from 1 to 63: on until off (R78; log entry 10). -/
def Channel.lightLevel (now n : Nat) (c : Channel) : Channel := (c.requestWith now none).aim now n

/-- LIGHT TIMED d: target 63 when it was 0, otherwise kept (R78). -/
def Channel.lightTimed (now d : Nat) (c : Channel) : Channel :=
  let c' := c.requestTimed now d
  if c.target = 0 then c'.aim now 63 else c'

/-- TIMED value, clamped to 1..3600 s (R143). -/
def Operate.duration (o : Operate) : Nat := clampNat 1 3600 o.value

def execLightOn (s : State) : Host.Outcome State Fault Refusal :=
  .next (s.operate 2 1 fun o r s => s.requestGroup .light (Channel.lightOn s.now) o r)

def execLightOff (s : State) : Host.Outcome State Fault Refusal :=
  .next (s.operate 2 2 fun o r s => s.offGroup .light o r)

/-- LEVEL 0 is as OFF; the value is clamped to 0..63 (R78, R143). -/
def execLightLevel (s : State) : Host.Outcome State Fault Refusal :=
  .next
    (s.operate 2 3 fun o r s =>
      if o.value = 0 then s.offGroup .light o r
      else s.requestGroup .light (Channel.lightLevel s.now (min 63 o.value)) o r)

def execLightTimed (s : State) : Host.Outcome State Fault Refusal :=
  .next (s.operate 2 4 fun o r s => s.requestGroup .light (Channel.lightTimed s.now o.duration) o r)

def execAuxOn (s : State) : Host.Outcome State Fault Refusal :=
  .next (s.operate 3 1 fun o r s => s.requestGroup .aux (Channel.requestOn s.now) o r)

def execAuxOff (s : State) : Host.Outcome State Fault Refusal :=
  .next (s.operate 3 2 fun o r s => s.offGroup .aux o r)

def execAuxTimed (s : State) : Host.Outcome State Fault Refusal :=
  .next (s.operate 3 4 fun o r s => s.requestGroup .aux (Channel.requestTimed s.now o.duration) o r)

/-! ### PUMP (R115) -/

/-- ON: FAULT is tested first, then the lock set; else every PUMP channel is armed (R115). -/
def State.pumpOn (r : Option Requester) (s : State) : State :=
  if s.channelFaulted .pump then s.reply r .refusedFault
  else if s.locksNow.any then s.reply r .refusedLocked
  else (s.onFunction .pump (Channel.requestOn s.now)).reply r .done

/-- OFF: disarmed, a FAULT cleared (R72, R115). -/
def State.pumpOff (r : Option Requester) (s : State) : State :=
  (s.onFunction .pump fun c => if c.state = .fault then c.clearFault else c.requestOff).reply r .done

def execPumpOn (s : State) : Host.Outcome State Fault Refusal := .next (s.operate 4 1 fun _ r s => s.pumpOn r)

def execPumpOff (s : State) : Host.Outcome State Fault Refusal := .next (s.operate 4 2 fun _ r s => s.pumpOff r)

/-! ### HEATER (R138) -/

def State.heaterOn (r : Option Requester) (s : State) : State :=
  if s.heaterFaulted then s.reply r .refusedFault
  else (s.onHeating fun h => { h with heaterEnabled := true }).reply r .done

/-- OFF clears a FAULT; a fan in run-on keeps the request that HT holds for it (R138). -/
def Channel.heaterClears (runOn : Bool) (c : Channel) : Channel :=
  if c.state = .fault then
    if c.fn = .burnerFan ∧ runOn then { c with state := .off, trips := [] } else { c.clearFault with givenClass := none }
  else c

/-- OFF: no more comfort heating, faults cleared, then what the disable brings (R135, R138). -/
def State.heaterOff (r : Option Requester) (s : State) : State :=
  let s1 := s.onHeating fun h => { h with heaterEnabled := false, normalDemand := false }
  ((s1.onBurnerAndFan (Channel.heaterClears (s.ht.burner = .runOn))).heatingDisabled).reply r .done

/-- SET (R138, R143). -/
def State.heaterSet (v : Nat) (r : Option Requester) (s : State) : State :=
  (s.onHeating fun h => { h with setpoint := clampInt 50 300 v }).reply r .done

/-- FROST_HOLD (R138, R143). -/
def State.heaterFrostHold (v : Nat) (r : Option Requester) (s : State) : State :=
  if v = 0 then
    ((s.onHeating fun h => { h with frostHoldEnabled := false, frostHold := false }).heatingDisabled).reply r .done
  else (s.onHeating fun h => { h with frostHoldEnabled := true }).reply r .done

def execHeaterOn (s : State) : Host.Outcome State Fault Refusal := .next (s.operate 5 1 fun _ r s => s.heaterOn r)

def execHeaterOff (s : State) : Host.Outcome State Fault Refusal := .next (s.operate 5 2 fun _ r s => s.heaterOff r)

def execHeaterSet (s : State) : Host.Outcome State Fault Refusal :=
  .next (s.operate 5 5 fun o r s => s.heaterSet o.value r)

def execHeaterFrostHold (s : State) : Host.Outcome State Fault Refusal :=
  .next (s.operate 5 6 fun o r s => s.heaterFrostHold o.value r)

/-! ### DUMP and WATER (R114, R124) -/

/-- DUMP RESET: only from DUMPED, with a valid fresh temperature at or above frost_off (R124). -/
def State.dumpReset (r : Option Requester) (s : State) : State :=
  if s.wf.fresh ≠ .dumped then s.reply r .already
  else
    match s.temperature .freshT with
    | none => s.reply r .refusedLocked
    | some t =>
      if s.wf.params.frostOff ≤ t then (s.onWater fun w => { w with fresh := .idle }).reply r .done
      else s.reply r .refusedLocked

def execDumpReset (s : State) : Host.Outcome State Fault Refusal := .next (s.operate 6 7 fun _ r s => s.dumpReset r)

/-- RESET_VOLUME (R114). -/
def State.resetVolume (r : Option Requester) (s : State) : State :=
  (s.onWater fun w => { w with volume := 0, remainder := 0 }).reply r .done

def execWaterResetVolume (s : State) : Host.Outcome State Fault Refusal :=
  .next (s.operate 7 8 fun _ r s => s.resetVolume r)

/-! ### STEP and AWNING (R91, R146, R149) -/

/-- A motion request; in DORMANT a broadcast EXTEND or RETRACT is discarded (R149). -/
def State.moveDrives (fn : DriveFn) (act : MotionAction) (r : Option Requester) (s : State) : State :=
  if s.life = .dormant ∧ act ≠ .stop then s else wakeForForced s (s.requestMotions fn act r)

def execStepExtend (s : State) : Host.Outcome State Fault Refusal :=
  .next (s.operate 8 9 fun _ r s => s.moveDrives .step .extend r)

def execStepRetract (s : State) : Host.Outcome State Fault Refusal :=
  .next (s.operate 8 10 fun _ r s => s.moveDrives .step .retract r)

def execStepStop (s : State) : Host.Outcome State Fault Refusal :=
  .next (s.operate 8 11 fun _ r s => s.moveDrives .step .stop r)

def execAwningExtend (s : State) : Host.Outcome State Fault Refusal :=
  .next (s.operate 9 9 fun _ r s => s.moveDrives .awning .extend r)

def execAwningRetract (s : State) : Host.Outcome State Fault Refusal :=
  .next (s.operate 9 10 fun _ r s => s.moveDrives .awning .retract r)

def execAwningStop (s : State) : Host.Outcome State Fault Refusal :=
  .next (s.operate 9 11 fun _ r s => s.moveDrives .awning .stop r)

/-! ### NODE (R147, R148) -/

/-- NODE STORE (R147, R149). -/
def State.nodeStore (r : Option Requester) (s : State) : State :=
  match s.life, r with
  | .run, some q =>
    if s.driveBusy then s.reply r .refusedBusy
    else ({ s with od := { s.od with storePending := true } }).place (q.answer .done .store)
  | .run, none => if s.driveBusy then s else s.enterDormant
  | .listenOnly, _ => s.reply r .refusedBusy
  | _, _ => s

/-- NODE RESTART (R148). -/
def State.nodeRestart (r : Option Requester) (s : State) : State :=
  match s.life, r with
  | .run, some q => ({ s with od := { s.od with restartPending := true } }).place (q.answer .done .restart)
  | .run, none | .dormant, _ | .listenOnly, _ => s.restart
  | _, _ => s

def execNodeStore (s : State) : Host.Outcome State Fault Refusal := .next (s.operate 1 12 fun _ r s => s.nodeStore r)

def execNodeRestart (s : State) : Host.Outcome State Fault Refusal :=
  .next (s.operate 1 13 fun _ r s => s.nodeRestart r)

end Sys2Proof.Machine
end

