-- ==== Sys2Proof/Machine/Defaults.lean ====
section
/-! DEFINITION. The role defaults (R173) and the reading of the straps (R170, R171). -/

namespace Sys2Proof.Machine

/-! ### Straps -/

/-- Acceptance windows of the bands 0 to 11, in µV: first and last accepted voltage (R170). -/
def strapWindows : List (Nat × Nat) :=
  [(20700, 26300), (29900, 38100), (44000, 56000), (66000, 84000), (96800, 123200), (145200, 184800),
   (206800, 263200), (299200, 380800), (440000, 560000), (660000, 840000), (968000, 1232000), (1452000, 1848000)]

/-- The band of a strap reading (R170). -/
def bandOf (v : Nat) : Option Nat := strapWindows.findIdx? fun w => w.1 ≤ v && v ≤ w.2

/-- The role of a strap B band (R171). -/
def roleOfBand : Nat → Option Role
  | 0 => some .battery | 2 => some .water | 4 => some .heating | 6 => some .entry | 8 => some .awning | 10 => some .cab
  | _ => none

/-- The address of a strap A band: band n gives n + 1 (R171). -/
def addrOfBand (n : Nat) : Addr := Fin.ofNat 32 (n + 1)

/-- The strap results of the two readings (R171). -/
def strapOf (a b : Nat) : Strap :=
  match bandOf a, (bandOf b).bind roleOfBand with
  | some n, some r => .valid (addrOfBand n) r
  | _, _ => .fault

/-! ### Channels, drives, routes and mask of a role (R173) -/

def Channel.default (fn : ChFn) (inst cls nominal : Nat) (mode : Mode) (dimmable : Bool) (a : Nat := 60) (b : Nat := 120)
    (gate : RouteFn := .none) : Channel :=
  { Channel.blank with
    fn := fn, inst := inst, cls := cls, nominal := nominal, mode := mode, dimmable := dimmable, a := a, b := b,
    gate := gate }

def Role.channels : Role → Vector Channel 8
  | .battery =>
    ⟨#[.default .aux 1 3 600 .level false, .default .aux 2 2 50 .level false, .default .light 1 3 20 .level true,
       .blank, .blank, .blank, .blank, .blank], rfl⟩
  | .water =>
    ⟨#[.default .pump 0 1 60 .gated false (gate := .pressureSw),
       .default .tankHeat 1 0 35 .cycle false (a := 30) (b := 60),
       .default .tankHeat 2 0 35 .cycle false (a := 30) (b := 60),
       .default .dumpValve 0 0 10 .timed false (a := 20),
       .default .light 2 3 15 .level true, .blank, .blank, .blank], rfl⟩
  | .heating =>
    ⟨#[.default .burner 0 2 80 .level false, .default .burnerFan 0 2 15 .level false, .default .light 3 3 20 .level true,
       .blank, .blank, .blank, .blank, .blank], rfl⟩
  | .entry =>
    ⟨#[.default .light 4 3 10 .level true, .default .light 1 3 20 .level true, .blank, .blank, .blank, .blank, .blank,
       .blank], rfl⟩
  | .awning =>
    ⟨#[.default .light 5 3 30 .level true, .blank, .blank, .blank, .blank, .blank, .blank, .blank], rfl⟩
  | .cab =>
    ⟨#[.default .light 6 3 25 .level true, .default .aux 3 2 40 .level false, .blank, .blank, .blank, .blank, .blank,
       .blank], rfl⟩

/-- Function of MA; MB is NONE in every role (R173). -/
def Role.maFunction : Role → DriveFn
  | .entry => .step
  | .awning => .awning
  | .battery | .water | .heating | .cab => .none

/-- The routing table, in the order D1 to D4, P1, P2, T1 to T4, L1, L2 (R173, R174). -/
def Role.routes : Role → Vector RouteFn 12
  | .battery =>
    ⟨#[.none, .none, .none, .none, .none, .none, .batteryT, .none, .none, .none, .none, .none], rfl⟩
  | .water =>
    ⟨#[.pressureSw, .none, .none, .none, .flow, .none, .freshT, .greyT, .none, .none, .freshLevel, .greyLevel], rfl⟩
  | .heating =>
    ⟨#[.none, .none, .none, .none, .none, .none, .cabinT, .outsideT, .none, .none, .none, .none], rfl⟩
  | .entry => ⟨#[.door, .none, .none, .none, .none, .none, .none, .none, .none, .none, .none, .none], rfl⟩
  | .awning =>
    ⟨#[.none, .none, .none, .none, .none, .anemometer, .none, .none, .none, .none, .none, .none], rfl⟩
  | .cab => ⟨#[.ignition, .none, .none, .none, .speed, .none, .none, .none, .none, .none, .none, .none], rfl⟩

/-- The source mask selects both inputs in the CAB role, neither in the others (R105, R173). -/
def Role.selectsTravelLine : Role → Bool
  | .cab => true
  | .battery | .water | .heating | .entry | .awning => false

/-- A drive kept by a warm reset stays only where its function is the role's (R108). -/
def Drive.takeRole (fn : DriveFn) (d : Drive) : Drive := if d.fn = fn then d else Drive.blank fn

end Sys2Proof.Machine
end

