-- ==== Sys2Proof/Machine/StartUp.lean ====
section
/-! DEFINITION. Resets, strap reading and the commissioning window (10). -/

namespace Sys2Proof.Machine

/-! ### Resets (R169) -/

/-- COLD_RESET: power-on, or a fall of the supply below 7.0 V (R169). -/
def execColdReset (s : State) : Host.Outcome State Fault Refusal := .next s.coldReset

/-- WARM_RESET: a low level on RST (R169). -/
def execWarmReset (s : State) : Host.Outcome State Fault Refusal := .next s.warmReset

/-- A lasting reset cause is over. -/
def State.endCause (c : ResetCause) (s : State) : State :=
  match c with
  | .supply => { s with nc := { s.nc with supplyLow := false } }
  | .rstPin => { s with nc := { s.nc with rstLow := false } }

/-- RESET_CAUSE_ENDS: when no cause lasts any more, the node enters STRAP_READ (R169). -/
def execResetCauseEnds (c : ResetCause) (s : State) : Host.Outcome State Fault Refusal :=
  .next
    (if s.life = .reset then
      let t := s.endCause c
      if t.nc.supplyLow ∨ t.nc.rstLow then t else t.enterStrapRead
    else s)

/-! ### End of STRAP_READ (R171 to R175) -/

/-- Straps that are not valid: no role, so no count and no drive position is kept (R19, R108, R172). -/
def State.enterStrapFault (s : State) : State :=
  { s with
    nc := { s.nc with strap := .fault, strapTimer := none, life := .strapFault, lifeSince := s.now }
    cc := ChargeCounter.atReset
    ma := Drive.blank .none
    mb := Drive.blank .none }

/-- The role defaults, and what of the kept state the role confirms (R19, R108, R173). -/
def State.takeRole (a : Addr) (r : Role) (s : State) : State :=
  { s with
    nc := { s.nc with strap := .valid a r, strapTimer := none }
    cc := if r = .battery then s.cc else ChargeCounter.atReset
    sw := r.channels
    ma := s.ma.takeRole r.maFunction
    mb := s.mb.takeRole .none
    trv := { s.trv with maskIgnition := r.selectsTravelLine, maskSpeed := r.selectsTravelLine }
    sfe := { s.sfe with routes := r.routes } }

/-- The Charge Counter starts in the BATTERY role: first sample, and the period timer (R1, R16). -/
def State.startCharge (shunt vbat : Int) (s : State) : State :=
  if s.isBattery then
    let t := s.ccTakes shunt vbat
    { t with cc := { t.cc with period := some (s.now + Config.batteryPeriodMs) } }
  else s

/-- Entry to COMMISSIONING with the defaults of the role in place: the timers of the window, the first samples and
evaluation, the gust windows, the HELLO STATE, the interlock view, a recomputation (R175, R183). -/
def State.enterCommissioning (an : Analog) (shunt vbat : Int) (s : State) : State :=
  let s1 := s.changeLife .commissioning
  let s2 := { s1 with
    nc := { s1.nc with closing := some (s.now + Config.closingMs), limit := some (s.now + Config.limitMs) }
    gust := { s1.gust with windowEnd := some (s.now + Config.gustWindowMs) } }
  (((s2.takeSample an).startCharge shunt vbat).waterEvaluates.formMeasureList.raiseUrgent).interlockEvent

/-- STRAP_READ_END (R171). -/
def execStrapReadEnd (a b : Nat) (an : Analog) (shunt vbat : Int) (s : State) : Host.Outcome State Fault Refusal :=
  .next
    (if s.life = .strapRead then
      s.onExpiry s.nc.strapTimer fun s =>
        (match strapOf a b with
        | .valid addr role => (s.takeRole addr role).enterCommissioning an shunt vbat
        | .fault | .unread => s.enterStrapFault).finish
    else s)

/-! ### The window (R176) -/

/-- CLOSING_TIMER_EXPIRY (R176). -/
def execClosingTimerExpiry (s : State) : Host.Outcome State Fault Refusal :=
  .next (if s.life = .commissioning then s.onExpiry s.nc.closing (fun s => s.endWindow.finish) else s)

/-- LIMIT_TIMER_EXPIRY (R176). -/
def execLimitTimerExpiry (s : State) : Host.Outcome State Fault Refusal :=
  .next (if s.life = .commissioning then s.onExpiry s.nc.limit (fun s => s.endWindow.finish) else s)

end Sys2Proof.Machine
end

