-- ==== Sys2Proof/Machine/Transmit.lean ====
section
/-! DEFINITION. Sending (09): the Transmit Scheduler's choice, the payloads, arbitration, bit errors and outcomes. -/

namespace Sys2Proof.Machine

/-! ### Selection (R154, R163) -/

/-- The kinds of cause the mask of a life state lets into service (R163). -/
def unmasked (life : LifeState) (hello : Bool) : Causes × Bool :=
  match life with
  | .run => (⟨true, true, true, true, true⟩, true)
  | .dormant => (⟨true, true, true, true, false⟩, false)
  | .commissioning => (⟨false, true, hello, false, false⟩, false)
  | .reset | .strapRead | .strapFault | .listenOnly => (Causes.none, false)

/-- STATE_URGENT is pending, unmasked and eligible: the urgent spacing timer is stopped (R163). -/
def State.urgentReady (s : State) : Bool :=
  (unmasked s.life s.ts.hello).1.stateUrgent && s.ts.pending.stateUrgent && s.ts.spacing.isNone

/-- The first unmasked, eligible cause in the order of R154. A STATE takes both STATE causes (R164). -/
def State.selectCause (s : State) : Option ServiceCause :=
  let m := unmasked s.life s.ts.hello
  let p := s.ts.pending
  let state : ServiceCause := .state p.stateUrgent p.statePeriodic
  if m.1.wakeOut && p.wakeOut then some .wakeOut
  else if m.1.batteryDue && p.batteryDue then some .batteryDue
  else if s.urgentReady then some state
  else if m.2 && !s.ts.fifo.isEmpty then some .answerDue
  else if m.1.statePeriodic && p.statePeriodic then some state
  else if m.1.measureDue && p.measureDue then some .measureDue
  else none

/-- The cause leaves the pending set as it enters service (R154, R164). -/
def ServiceCause.takeFrom (c : ServiceCause) (p : Causes) : Causes :=
  match c with
  | .wakeOut => { p with wakeOut := false }
  | .batteryDue => { p with batteryDue := false }
  | .state _ _ => { p with stateUrgent := false, statePeriodic := false }
  | .answerDue => p
  | .measureDue => { p with measureDue := false }

/-! ### Payloads (12) -/

/-- Motion code of a drive; without a function it reports RETRACTED (R104). -/
def Drive.motionCode (d : Drive) : Nat := if d.fn = .none then DriveState.retracted.code else d.state.code

/-- The own wants of STATE, each clamped to 4095, packed in six bytes (R57, R188). -/
def packWants (w : Wants) : List Byte :=
  let n := ((min 4095 w.w0 * 4096 + min 4095 w.w1) * 4096 + min 4095 w.w2) * 4096 + min 4095 w.w3
  [byteOf (n / 2 ^ 40), byteOf (n / 2 ^ 32), byteOf (n / 2 ^ 24), byteOf (n / 2 ^ 16), byteOf (n / 2 ^ 8), byteOf n]

/-- The payload of a STATE telegram (R57, R104, 12). -/
def State.statePayload (s : State) : List Byte :=
  byteOf ((s.role.map Role.code).getD 7) :: byteOf s.lb.s.code :: packWants s.lb.wOwn ++ putWord s.nc.flags.toNat ++
    [byteOf (s.ma.motionCode * 16 + s.mb.motionCode), byteOf s.light.lastScene]

/-- The payload of an ANSWER telegram (R165, 12). -/
def Answer.payload (a : Answer) : List Byte := [a.fn, a.inst, a.action, byteOf a.code.code]

/-- Payload of the telegram of a cause, from the values of this instant (R154). -/
def State.payload (c : ServiceCause) (s : State) : List Byte :=
  match c with
  | .wakeOut => []
  | .batteryDue => s.cc.payload
  | .state _ _ => s.statePayload
  | .answerDue => match s.ts.fifo with | a :: _ => a.payload | [] => []
  | .measureDue => s.measurePayload

/-- Target: an ANSWER is addressed, everything else a broadcast (R158, R165). -/
def State.targetOf (c : ServiceCause) (s : State) : Addr :=
  match c, s.ts.fifo with
  | .answerDue, a :: _ => a.target
  | _, _ => 0

/-- Priority sent (12); STATE is 2 where STATE_URGENT was pending and eligible, else 6 (R164). -/
def ServiceCause.priority (urgentReady : Bool) : ServiceCause → Nat
  | .wakeOut => 0
  | .batteryDue => 1
  | .state _ _ => if urgentReady then 2 else 6
  | .answerDue => 3
  | .measureDue => 6

/-- The latch: the cause with its telegram assembled from the values of this instant; the start bit is driven (R154). -/
def State.assemble (c : ServiceCause) (priority : Nat) (s : State) : Service :=
  { cause := c
    sending := true
    overtaken := false
    priority := priority
    wire := telegramBytes priority c.kind (s.ownAddr.getD 0) (s.targetOf c) (s.payload c)
    battery := (s.cc.l, s.cc.flags)
    hello := s.nc.flags.hello }

/-- CAUSE_ENTERS_SERVICE: on an idle link a synchronised LC takes the first cause into service, or drives the start bit of a
cause it has held, its payload assembled anew (R154; log entry 24). -/
def execCauseEntersService (s : State) : Host.Outcome State Fault Refusal :=
  .next
    (if s.life.drivesSlots ∧ s.lc.synchronised ∧ s.lc.idle then
      match s.lc.service with
      | some sv =>
        if sv.sending then s
        else s.onLink fun l => { l with idle := false, service := some (s.assemble sv.cause sv.priority) }
      | none =>
        match s.selectCause with
        | some c =>
          (s.onLink fun l =>
            { l with idle := false, service := some (s.assemble c (c.priority s.urgentReady)) }).onCauses c.takeFrom
        | none => s
    else s)

/-- A cause in service whose start bit is not driven (R154). -/
def Service.hold (v : Service) : Service := { v with sending := false }

/-- The return of a cause that a change of life state overtook with its start bit undriven. MEASURE_DUE, which only RUN lets into
service, was then removed at the entry to DORMANT (R163; log entry 51). -/
def Service.returnLate (v : Service) (p : Causes) : Causes := if v.cause = .measureDue then p else v.cause.giveBack p

/-- IDLE_LOST: another station's start bit comes first. It ends idle, and the node receives; a cause in service stays there
for the next idle, or has returned where the life state has changed since (R152, R154, R163). -/
def execIdleLost (s : State) : Host.Outcome State Fault Refusal :=
  .next
    (if s.sending ∨ s.lc.idle then
      let t := s.onLink fun l => { l with idle := false, rx := .inHand }
      match s.lc.service with
      | some v =>
        if v.sending ∧ v.overtaken then (t.onLink fun l => { l with service := none }).onCauses v.returnLate
        else t.onLink fun l => { l with service := some v.hold }
      | none => t
    else s)

/-- ARBITRATION_LOST: the cause returns to pending, no count changes, and the node receives the same telegram (R155). -/
def execArbitrationLost (s : State) : Host.Outcome State Fault Refusal :=
  .next
    (match s.lc.service with
    | some sv =>
      if sv.sending then (s.onLink fun l => { l with service := none, rx := .inHand }).onCauses sv.cause.giveBack else s
    | none => s)

/-- A change of ISLAND calls for a recomputation (R159). -/
def islandEvent (before s : State) : State := if s.island = before.island then s else s.trigger

/-- The node drives its break on the link (R156); a node that transmits nothing drives none (R167, R181). -/
def State.drivesBreak (s : State) : Bool := s.lc.breaking && s.life.drivesSlots

/-- BIT_ERROR: a break is driven, the cause returns to pending, the count rises up to 3 and sets LINK_FAULT there (R156). -/
def execBitError (s : State) : Host.Outcome State Fault Refusal :=
  .next
    (match s.lc.service with
    | some sv =>
      if sv.sending then
        let t := (s.onLink fun l =>
          { l with
            service := none
            rx := .discarding
            breaking := true
            bitErrors := min Config.linkFaultCount (l.bitErrors + 1)
            linkFault := l.linkFault || Config.linkFaultCount ≤ l.bitErrors + 1 }).onCauses sv.cause.giveBack
        (islandEvent s t).finish
      else s
    | none => s)

/-! ### Outcome (R158) -/

/-- The counts after the node's own telegram (R156, R158): `addressed`, and the slots as read. -/
def LinkController.completed (addressed heard taken : Bool) (l : LinkController) : LinkController :=
  let good := if addressed then taken else heard
  let unheard := if addressed then l.unheard else if heard then 0 else min Config.aloneCount (l.unheard + 1)
  { l with
    service := none
    rx := .ready
    heardSlot := false
    takenSlot := false
    bitErrors := 0
    linkFault := l.linkFault && !good
    unheard := unheard
    alone := if addressed then l.alone else if heard then false else l.alone || unheard = Config.aloneCount }

/-- The period of STATE by the life state (R164). -/
def LifeState.statePeriod : LifeState → Nat
  | .dormant => Config.statePeriodDormantMs
  | _ => Config.statePeriodMs

/-- An ANSWER has left the FIFO: a pending store or restart that waited for it ends (R147, R148, R165). -/
def State.answerLeaves (s : State) : State :=
  match s.ts.fifo with
  | [] => s
  | a :: rest =>
    let s1 : State := { s with ts := { s.ts with fifo := rest } }
    match a.ends with
    | .nothing => s1
    | .store =>
      if s1.od.storePending then
        let s2 := s1.clearStore
        if s2.life = .run ∧ ¬ s2.driveBusy then s2.enterDormant else s2
      else s1
    | .restart => if s1.od.restartPending then s1.restart else s1

/-- What the unit that raised the cause takes from the completed telegram (R158; R17, R164, R165, R186). -/
def State.causeCompletes (sv : Service) (s : State) : State :=
  match sv.cause with
  | .wakeOut => s
  | .batteryDue =>
    { s with cc := { s.cc with
        sent := some sv.battery
        period := if s.cc.conflict then none else some (s.now + Config.batteryPeriodMs) } }
  | .state _ _ =>
    { s with ts := { s.ts with
        statePeriod := some (s.now + s.life.statePeriod)
        spacing := if sv.priority = 2 then some (s.now + Config.urgentSpacingMs) else s.ts.spacing
        hello := s.ts.hello && !sv.hello } }
  | .answerDue => s.answerLeaves
  | .measureDue => { s with sfe := s.sfe.advance }

/-- OWN_TELEGRAM_OUTCOME: the slots as read give the outcome, and the cause in service ends (R158). -/
def execOwnTelegramOutcome (heard taken : Bool) (s : State) : Host.Outcome State Fault Refusal :=
  .next
    (match s.lc.service with
    | some sv =>
      if sv.sending then
        let t := s.onLink (LinkController.completed (sv.cause = .answerDue) heard taken)
        ((islandEvent s t).causeCompletes sv).finish
      else s
    | none => s)

/-! ### Timers of the Transmit Scheduler (R163, R164, R166) -/

/-- STATE_PERIOD_TIMER_EXPIRY raises STATE_PERIODIC (R164; log entry 29). -/
def execStatePeriodTimerExpiry (s : State) : Host.Outcome State Fault Refusal :=
  .next (s.onExpiry s.ts.statePeriod fun s => { s with ts := { s.ts with statePeriod := none } }.raisePeriodic)

/-- URGENT_SPACING_TIMER_EXPIRY makes STATE_URGENT eligible (R163). -/
def execUrgentSpacingTimerExpiry (s : State) : Host.Outcome State Fault Refusal :=
  .next (s.onExpiry s.ts.spacing fun s => { s with ts := { s.ts with spacing := none } })

/-- MEASURE_PERIOD_TIMER_EXPIRY restarts and raises MEASURE_DUE (R166). -/
def execMeasurePeriodTimerExpiry (s : State) : Host.Outcome State Fault Refusal :=
  .next (s.onExpiry s.ts.measurePeriod fun s => s.startMeasurePeriod.raiseMeasure)

end Sys2Proof.Machine
end

