-- ==== Sys2Proof/Machine/Dispatch.lean ====
section
/-! DEFINITION. The meaning of each command: one arm per constructor of Instr, each one direct call. -/

namespace Sys2Proof.Machine

/-- The effect of a command on everything but the queue. -/
def exec (i : Instr) (s : State) : Host.Outcome State Fault Refusal :=
  match i with
  | .coldReset => Sys2Proof.Machine.execColdReset s
  | .warmReset => Sys2Proof.Machine.execWarmReset s
  | .resetCauseEnds c => Sys2Proof.Machine.execResetCauseEnds c s
  | .strapReadEnd strapA strapB a shunt vbat => Sys2Proof.Machine.execStrapReadEnd strapA strapB a shunt vbat s
  | .closingTimerExpiry => Sys2Proof.Machine.execClosingTimerExpiry s
  | .limitTimerExpiry => Sys2Proof.Machine.execLimitTimerExpiry s
  | .ccSample shunt vbat => Sys2Proof.Machine.execCcSample shunt vbat s
  | .batteryPeriodTimerExpiry => Sys2Proof.Machine.execBatteryPeriodTimerExpiry s
  | .linkIdle => Sys2Proof.Machine.execLinkIdle s
  | .causeEntersService => Sys2Proof.Machine.execCauseEntersService s
  | .idleLost => Sys2Proof.Machine.execIdleLost s
  | .arbitrationLost => Sys2Proof.Machine.execArbitrationLost s
  | .bitError => Sys2Proof.Machine.execBitError s
  | .ownTelegramOutcome heard taken => Sys2Proof.Machine.execOwnTelegramOutcome heard taken s
  | .framingError => Sys2Proof.Machine.execFramingError s
  | .breakDetected => Sys2Proof.Machine.execBreakDetected s
  | .malformedLength => Sys2Proof.Machine.execMalformedLength s
  | .telegramBadCheck => Sys2Proof.Machine.execTelegramBadCheck s
  | .stateReceived src tgt arrival => Sys2Proof.Machine.execStateReceived src tgt arrival s
  | .batteryReceived src tgt arrival => Sys2Proof.Machine.execBatteryReceived src tgt arrival s
  | .measureReceived src tgt arrival => Sys2Proof.Machine.execMeasureReceived src tgt arrival s
  | .sceneReceived src tgt arrival => Sys2Proof.Machine.execSceneReceived src tgt arrival s
  | .wakeReceived src tgt arrival => Sys2Proof.Machine.execWakeReceived src tgt arrival s
  | .operateReceived src tgt arrival => Sys2Proof.Machine.execOperateReceived src tgt arrival s
  | .settingsReceived src tgt arrival => Sys2Proof.Machine.execSettingsReceived src tgt arrival s
  | .answerReceived src tgt arrival => Sys2Proof.Machine.execAnswerReceived src tgt arrival s
  | .telegramForOtherStation telegram => Sys2Proof.Machine.execTelegramForOtherStation telegram s
  | .peerStale a => Sys2Proof.Machine.execPeerStale a s
  | .peerLost a => Sys2Proof.Machine.execPeerLost a s
  | .peerCabinTExpiry a => Sys2Proof.Machine.execPeerCabinTExpiry a s
  | .strangerSeenTimerExpiry => Sys2Proof.Machine.execStrangerSeenTimerExpiry s
  | .batteryCandidateExpiry a => Sys2Proof.Machine.execBatteryCandidateExpiry a s
  | .restoreHoldoffExpiry => Sys2Proof.Machine.execRestoreHoldoffExpiry s
  | .channelEndTimerExpiry ch => Sys2Proof.Machine.execChannelEndTimerExpiry ch s
  | .cyclePhaseChange ch => Sys2Proof.Machine.execCyclePhaseChange ch s
  | .inrushBlankingEnd ch => Sys2Proof.Machine.execInrushBlankingEnd ch s
  | .channelTrip ch run => Sys2Proof.Machine.execChannelTrip ch run s
  | .tripCooldownEnd ch => Sys2Proof.Machine.execTripCooldownEnd ch s
  | .tripHistoryExpiry ch => Sys2Proof.Machine.execTripHistoryExpiry ch s
  | .openLoadDetected ch current => Sys2Proof.Machine.execOpenLoadDetected ch current s
  | .fadeStep ch => Sys2Proof.Machine.execFadeStep ch s
  | .hallPulse d => Sys2Proof.Machine.execHallPulse d s
  | .driveStall d cause => Sys2Proof.Machine.execDriveStall d cause s
  | .driveOvercurrent d current => Sys2Proof.Machine.execDriveOvercurrent d current s
  | .travelTimerExpiry d => Sys2Proof.Machine.execTravelTimerExpiry d s
  | .brakeTimerExpiry d => Sys2Proof.Machine.execBrakeTimerExpiry d s
  | .grantWaitTimerExpiry d => Sys2Proof.Machine.execGrantWaitTimerExpiry d s
  | .gustWindowEnd => Sys2Proof.Machine.execGustWindowEnd s
  | .gustLockoutExpiry => Sys2Proof.Machine.execGustLockoutExpiry s
  | .trvReadingChange asserted => Sys2Proof.Machine.execTrvReadingChange asserted s
  | .speedTimeout => Sys2Proof.Machine.execSpeedTimeout s
  | .sfeSample a => Sys2Proof.Machine.execSfeSample a s
  | .debouncedInputChange k active => Sys2Proof.Machine.execDebouncedInputChange k active s
  | .flowPulse => Sys2Proof.Machine.execFlowPulse s
  | .speedPulse => Sys2Proof.Machine.execSpeedPulse s
  | .anemometerPulse => Sys2Proof.Machine.execAnemometerPulse s
  | .wfEvaluation => Sys2Proof.Machine.execWfEvaluation s
  | .dryTimerExpiry ch => Sys2Proof.Machine.execDryTimerExpiry ch s
  | .dumpTimerExpiry => Sys2Proof.Machine.execDumpTimerExpiry s
  | .htEvaluation => Sys2Proof.Machine.execHtEvaluation s
  | .minimumOnTimerExpiry => Sys2Proof.Machine.execMinimumOnTimerExpiry s
  | .restTimerExpiry => Sys2Proof.Machine.execRestTimerExpiry s
  | .statePeriodTimerExpiry => Sys2Proof.Machine.execStatePeriodTimerExpiry s
  | .urgentSpacingTimerExpiry => Sys2Proof.Machine.execUrgentSpacingTimerExpiry s
  | .measurePeriodTimerExpiry => Sys2Proof.Machine.execMeasurePeriodTimerExpiry s
  | .lightOn => Sys2Proof.Machine.execLightOn s
  | .lightOff => Sys2Proof.Machine.execLightOff s
  | .lightLevel => Sys2Proof.Machine.execLightLevel s
  | .lightTimed => Sys2Proof.Machine.execLightTimed s
  | .auxOn => Sys2Proof.Machine.execAuxOn s
  | .auxOff => Sys2Proof.Machine.execAuxOff s
  | .auxTimed => Sys2Proof.Machine.execAuxTimed s
  | .pumpOn => Sys2Proof.Machine.execPumpOn s
  | .pumpOff => Sys2Proof.Machine.execPumpOff s
  | .heaterOn => Sys2Proof.Machine.execHeaterOn s
  | .heaterOff => Sys2Proof.Machine.execHeaterOff s
  | .heaterSet => Sys2Proof.Machine.execHeaterSet s
  | .heaterFrostHold => Sys2Proof.Machine.execHeaterFrostHold s
  | .dumpReset => Sys2Proof.Machine.execDumpReset s
  | .waterResetVolume => Sys2Proof.Machine.execWaterResetVolume s
  | .stepExtend => Sys2Proof.Machine.execStepExtend s
  | .stepRetract => Sys2Proof.Machine.execStepRetract s
  | .stepStop => Sys2Proof.Machine.execStepStop s
  | .awningExtend => Sys2Proof.Machine.execAwningExtend s
  | .awningRetract => Sys2Proof.Machine.execAwningRetract s
  | .awningStop => Sys2Proof.Machine.execAwningStop s
  | .nodeStore => Sys2Proof.Machine.execNodeStore s
  | .nodeRestart => Sys2Proof.Machine.execNodeRestart s
  | .channelRecord => Sys2Proof.Machine.execChannelRecord s
  | .channelRecordDrive => Sys2Proof.Machine.execChannelRecordDrive s
  | .routeRecord => Sys2Proof.Machine.execRouteRecord s
  | .frostRecord => Sys2Proof.Machine.execFrostRecord s
  | .waterRecord => Sys2Proof.Machine.execWaterRecord s
  | .heatRecord => Sys2Proof.Machine.execHeatRecord s
  | .batteryARecord => Sys2Proof.Machine.execBatteryARecord s
  | .batteryVRecord => Sys2Proof.Machine.execBatteryVRecord s
  | .driveRecord => Sys2Proof.Machine.execDriveRecord s
  | .curveRecord => Sys2Proof.Machine.execCurveRecord s
  | .sceneRecord => Sys2Proof.Machine.execSceneRecord s
  | .windRecord => Sys2Proof.Machine.execWindRecord s
  | .linkRecord => Sys2Proof.Machine.execLinkRecord s
  | .trvRecord => Sys2Proof.Machine.execTrvRecord s
  | .closeRecord => Sys2Proof.Machine.execCloseRecord s
  | .unknownOperateCode => Sys2Proof.Machine.execUnknownOperateCode s
  | .unknownRecordType => Sys2Proof.Machine.execUnknownRecordType s

end Sys2Proof.Machine
end

