-- ==== Sys2Proof/Safety.lean ====
section
/-! DEFINITION. What a safe node looks like, as predicates on states: the bounds and laws the spec claims of the whole part, in
the terms the statements use; and the blocks that a statement's frame names. -/

namespace Sys2Proof.Machine

/-! ### Laws of the whole part -/

/-- RUN, DORMANT, LISTEN_ONLY: the states in which outputs may be driven (R61, R107). -/
def LifeState.operating : LifeState → Bool
  | .run | .dormant | .listenOnly => true
  | .reset | .strapRead | .strapFault | .commissioning => false

/-- The Inbound Queue and the Answer FIFO hold at most 6 (R162, R165). -/
def QueuesBounded (s : State) : Prop := s.od.iq.length ≤ 6 ∧ s.ts.fifo.length ≤ 6

/-- At most 16 entries, no two of one address, none of the node's own; none while PT does not run (R21). -/
def PeersSound (s : State) : Prop :=
  s.pt.entries.length ≤ 16 ∧ (s.pt.entries.map (·.addr)).Nodup ∧ (∀ e ∈ s.pt.entries, s.ownAddr ≠ some e.addr) ∧
    (s.life.active = false → s.pt.entries = [])

/-- Q lies in 0 to Q_full, F in 0 to 99, and Q is held against the C_nom in force (01, state table; R9, R18). -/
def CountSound (c : ChargeCounter) : Prop :=
  ∀ n, c.count = some n → n.q ≤ c.params.qFull ∧ n.f < 100 ∧ n.capacity = c.params.cNom

/-- Positions lie in 0 to travel_pulses, RETRACTED is 0, EXTENDED is travel_pulses (R86), also where a wait will return
there; outside the operating states a drive is at rest, and an UNKNOWN one at 0 (R107, R108). -/
def PositionSound (life : LifeState) (d : Drive) : Prop :=
  d.position ≤ d.travelPulses ∧ (d.state = .retracted → d.position = 0) ∧
    (d.state = .extended → d.position = d.travelPulses) ∧
    (d.state = .waitGrant → (d.origin = some .retracted → d.position = 0) ∧
      (d.origin = some .extended → d.position = d.travelPulses)) ∧
    (life.operating = false → d.state.busy = false ∧ d.state ≠ .jammed ∧ (d.state = .unknown → d.position = 0))

def PositionsSound (s : State) : Prop := PositionSound s.life s.ma ∧ PositionSound s.life s.mb

/-- A drive is not driven in the extend direction against the interlock (R99); a forced cause stands only in a retraction or
in the braking before it (R101, R102); a wait has come from a rest state (R92); no bridge is driven outside the operating
states (R107). -/
def InterlockKept (life : LifeState) (v : Interlock) (d : Drive) : Prop :=
  (d.state = .extending → extendRefusal d.fn v = none) ∧
    (d.forced.isSome → d.state = .retracting ∨ (d.state = .braking ∧ d.direction = some .retract)) ∧
    (d.state = .waitGrant →
      d.origin = some .retracted ∨ d.origin = some .extended ∨ d.origin = some .parked ∨ d.origin = some .unknown ∨
        d.origin = some .jammed) ∧
    (life.operating = false → d.state.busy = false)

/-- The view in hand is that of its inputs (R98), and both drives keep to it. -/
def InterlocksKept (s : State) : Prop :=
  s.interlock = s.interlockNow ∧ InterlockKept s.life s.interlock s.ma ∧ InterlockKept s.life s.interlock s.mb

/-- A driven output is granted: in an operating state, by its class, throttled, or exempt (R61). -/
def Channel.Granted (life : LifeState) (lb : LoadBudget) (c : Channel) : Prop :=
  c.duty ≠ 0 →
    life.operating = true ∧
      (c.exempt = true ∨ c.classUsed < lb.sEff.rank ∨
        (c.classUsed = lb.sEff.rank ∧ c.dimmable = true ∧ 32 ≤ lb.applied ∧ lb.cutUsed = false))

/-- The first law of the device (R61): every driven output is granted, only a dump valve and a burner fan are exempt, and
the applied throttle is 0 or at least 32, and 0 under CUT (R48, R47). -/
def FirstLaw (s : State) : Prop :=
  (∀ i : Fin 8, s.sw[i].Granted s.life s.lb) ∧
    (∀ i : Fin 8, s.sw[i].exempt = true → s.sw[i].fn = .dumpValve ∨ s.sw[i].fn = .burnerFan) ∧
    (s.lb.applied ≠ 0 → 32 ≤ s.lb.applied ∧ s.lb.cutUsed = false)

/-- A node in RESET, STRAP_READ, STRAP_FAULT or LISTEN_ONLY sends nothing and does not drive TRV (R167, R181). -/
def Silent (s : State) : Prop :=
  s.life = .reset ∨ s.life = .strapRead ∨ s.life = .strapFault ∨ s.life = .listenOnly →
    s.sending = false ∧ s.trvDriven = false

/-- The flags word is what the state of the units makes it (10, flags table). -/
def FlagsCurrent (s : State) : Prop := s.nc.flags = s.flagsOf

/-- While the blocks run, the lock set is what its conditions make it, and it holds inhibit on PUMP channels only (R116). -/
def LocksCurrent (s : State) : Prop :=
  s.life.active = true →
    s.wf.locks = s.locksNow ∧ ∀ i : Fin 8, s.sw[i].inhibit = (decide (s.sw[i].fn = ChFn.pump) && s.wf.locks.any)

/-- S is never above S_raw, nor, where the blocks run, above the S_raw of the inputs as they stand, and no recomputation is left to
make (R39, R43); the holdoff runs only below S_raw and only while the blocks run (R43, R44); S is ALL_SHED in COMMISSIONING
(R46); and the pair handed to the channels is the one of S, f and the life state (R48, R49). -/
def ShedSound (s : State) : Prop :=
  (∀ raw, s.lb.sRaw = some raw → s.lb.s.rank ≤ raw.rank) ∧
    (s.life.active = true →
      s.callsForRecompute = false ∧ ∀ raw, s.budget.sRaw = some raw → s.lb.s.rank ≤ raw.rank) ∧
    (s.life.active = false → s.lb.holdoff = none) ∧
    (s.lb.holdoff ≠ none → ∃ raw, s.lb.sRaw = some raw ∧ s.lb.s.rank < raw.rank) ∧
    (s.life = .commissioning → s.lb.s = .allShed) ∧
    s.lb.sEff = effectiveShed s.life s.lb.s ∧ s.lb.applied = appliedOf s.life s.lb.f

/-- Every channel's state and output are what an evaluation makes them (R61, R62, R67). -/
def OutputsCurrent (s : State) : Prop := ∀ i : Fin 8, s.sw[i].evaluate s.chEnv = s.sw[i]

/-- Where the blocks do not run, the channels are as a reset leaves them (R59, R169, R172). -/
def ChannelsAtRest (s : State) : Prop := s.life.active = false → s.sw = Channels.atReset

/-- A DORMANT node has no addressed OPERATE at the head of its queue and no busy drive: either wakes it, or keeps it from
DORMANT (R147, R149, R180). Before the end of the window nothing has started and no request of the node is pending (R147,
R148, R178). -/
def LifeSound (s : State) : Prop :=
  (s.life = .dormant → s.addressedHead = false ∧ s.driveBusy = false) ∧
    (s.life.operating = false →
      s.nc.started = false ∧ s.od.storePending = false ∧ s.od.restartPending = false)

/-- Every step keeps it. -/
def KeptByEveryStep (inv : State → Prop) : Prop := ∀ s t : State, inv s → step s = .next t → inv t

/-- Cumulative sum T_k (R38). -/
def LoadBudget.sum (b : LoadBudget) (k : Fin 4) : Nat :=
  match k with
  | 0 => b.t0
  | 1 => b.t1
  | 2 => b.t2
  | 3 => b.t3

/-! ### Blocks of a frame -/

/-- The settings fields of a channel record (R59). -/
def Channel.record (c : Channel) : ChFn × Nat × Nat × Nat × Mode × Bool × Nat × Nat × RouteFn × Nat :=
  (c.fn, c.inst, c.cls, c.nominal, c.mode, c.dimmable, c.a, c.b, c.gate, c.fade)

/-- Request, end timer, levels, exempt, CYCLE and fade of a channel, and the class given to it (R60, R65, R78, R79). -/
def Channel.core (c : Channel) :
    Bool × Timer × Bool × Nat × Nat × Bool × Bool × Nat × Nat × Timer × Timer × Nat × Option Nat :=
  (c.request, c.endTimer, c.timedRequest, c.target, c.current, c.exempt, c.cycleOn, c.cycleStart, c.cycleB, c.cycleTimer, c.fadeTimer,
    c.fadeInterval, c.givenClass)

/-- A channel that the Heating unit owns (R133). -/
def Channel.heater (c : Channel) : Bool := c.fn = .burner || c.fn = .burnerFan

/-- What an evaluation and the Heating unit leave of a channel: its record, its trips, TRIPPED and FAULT, and its core, but
for the burner and its fan while the burner fires; OPEN is not set (R61, R69 to R74, R133). -/
def Channel.Kept (firing : Prop) (c d : Channel) : Prop :=
  d.record = c.record ∧ (c.heater = false ∨ ¬ firing → d.core = c.core) ∧ d.trips = c.trips ∧ d.cooldown = c.cooldown ∧
    (d.state = .fault ↔ c.state = .fault) ∧ (d.state = .tripped ↔ c.state = .tripped) ∧
    (d.openLoad = true → c.openLoad = true)

/-- The settings fields of a drive record, its position and its jam (R84, R86, R90). -/
def Drive.record (d : Drive) : DriveFn × Nat × Nat × Nat × Nat × Nat × Bool :=
  (d.fn, d.travelPulses, d.travelTime, d.stall, d.nominal, d.position, d.jam)

/-- Where a drive is and moves, without its answer slot (05, drive states). -/
def Drive.motion (d : Drive) :
    DriveState × Option DriveState × Option Dir × Option Dir × Bool × Option ForcedCause × Timer × Timer × Timer × Timer :=
  (d.state, d.origin, d.direction, d.braked, d.homing, d.forced, d.grantTimer, d.travelTimer, d.brakeTimer, d.pulseWatch)

/-- What becomes of a waiting drive when only grants reach it: it waits on, or it has started in its direction; an extension
that the view refuses is not said (R52, R92). -/
def Drive.Awaits (v : Interlock) (d e : Drive) : Prop :=
  (d.direction = some .extend ∧ extendRefusal d.fn v ≠ none) ∨ e.motion = d.motion ∨
    (e.direction = some (d.direction.getD .retract) ∧ e.homing = d.homing ∧ e.forced = d.forced ∧
      e.state = match d.direction.getD .retract with | .extend => .extending | .retract => .retracting)

/-- What an event leaves of the motion of a drive that it does not move (R92). -/
def Drive.Stands (v : Interlock) (d e : Drive) : Prop :=
  (d.state ≠ .waitGrant → e.motion = d.motion) ∧ (d.state = .waitGrant → d.Awaits v e)

/-- The answers that ANSWER telegrams will carry, oldest first: target and payload (R165). -/
def State.answers (s : State) : List (Addr × List Byte) := s.ts.fifo.map fun a => (a.target, a.payload)

/-- What a frame compares: state that what follows from an event (queue, recomputations, channels, grants, flags word) does
not touch, block by block. -/
inductive Block where
  | clock | life | node | charge | peers | light | interlock | gust | travelLine | water | heating | link | sensors
  | inbound | dispatcher | answers | causes | scheduler | channelRecords | channels | driveRecords | drives | grants | queue
deriving DecidableEq, Repr

/-- A block is the same in two states. -/
def Same : Block → State → State → Prop
  | .clock, s, t => t.now = s.now
  /- but for an addressed OPERATE that comes to the head of the queue and wakes the node -/
  | .life, s, t => t.life = s.life ∨ (s.life = .dormant ∧ t.life = .run)
  /- reset kind, causes, straps, window timers, the start of the units -/
  | .node, s, t =>
    t.nc = { s.nc with
      life := t.nc.life, lifeSince := t.nc.lifeSince, quietWake := t.nc.quietWake, flags := t.nc.flags }
  | .charge, s, t => t.cc = s.cc
  | .peers, s, t => t.pt = s.pt
  | .light, s, t => t.light = s.light
  | .interlock, s, t => t.interlock = s.interlock
  | .gust, s, t => t.gust = s.gust
  | .travelLine, s, t => t.trv = s.trv
  /- all but the lock set -/
  | .water, s, t => t.wf = { s.wf with locks := t.wf.locks }
  /- all; but for the burner with its two timers while it fires -/
  | .heating, s, t =>
    t.ht = { s.ht with burner := t.ht.burner, lit := t.ht.lit, minimumOn := t.ht.minimumOn, rest := t.ht.rest } ∧
      (s.ht.burner ≠ .firing → t.ht = s.ht)
  /- all but a cause in service, which may return to pending, or be marked by a wake -/
  | .link, s, t =>
    t.lc = { s.lc with service := t.lc.service } ∧
      (t.lc.service = s.lc.service ∨ t.lc.service = s.lc.service.map Service.overtake ∨ t.lc.service = none)
  | .sensors, s, t => t.sfe = s.sfe
  | .inbound, s, t => t.od.iq = s.od.iq ∧ t.od.inHand = s.od.inHand ∧ t.od.overflow = s.od.overflow
  | .dispatcher, s, t =>
    t.od.restartPending = s.od.restartPending ∧ (s.od.storePending = false → t.od.storePending = false)
  /- those in the FIFO stay, with others after them -/
  | .answers, s, t => s.answers <+: t.answers
  /- what is pending stays pending -/
  | .causes, s, t =>
    (s.ts.pending.wakeOut → t.ts.pending.wakeOut) ∧ (s.ts.pending.batteryDue → t.ts.pending.batteryDue) ∧
      (s.ts.pending.stateUrgent → t.ts.pending.stateUrgent) ∧
      (s.ts.pending.statePeriodic → t.ts.pending.statePeriodic) ∧ (s.ts.pending.measureDue → t.ts.pending.measureDue)
  /- HELLO and the timers -/
  | .scheduler, s, t =>
    t.ts.hello = s.ts.hello ∧ t.ts.spacing = s.ts.spacing ∧ t.ts.statePeriod = s.ts.statePeriod ∧
      (t.life = s.life → t.ts.measurePeriod = s.ts.measurePeriod)
  | .channelRecords, s, t => ∀ i : Fin 8, t.sw[i].record = s.sw[i].record
  /- and a firing burner without a FAULT fires on or goes out -/
  | .channels, s, t =>
    (s.ht.burner ≠ .firing → t.ht.burner = s.ht.burner) ∧
      (s.ht.burner = .firing → s.heaterFaulted = false → t.ht.burner = .firing ∨ t.ht.burner = .runOn) ∧
      ∀ i : Fin 8, s.sw[i].Kept (s.ht.burner = .firing) t.sw[i]
  | .driveRecords, s, t => t.ma.record = s.ma.record ∧ t.mb.record = s.mb.record
  /- where the node does not wake -/
  | .drives, s, t => t.life = s.life → ∀ i, (s.drive i).Stands s.interlock (t.drive i)
  /- no drive joins the grant list -/
  | .grants, s, t => ∀ g ∈ t.lb.grants, g ∈ s.lb.grants
  | .queue, s, t => t.pending = s.pending

/-- Every block but those listed is the same. -/
def Frame (changed : List Block) (s t : State) : Prop := ∀ b, b ∉ changed → Same b s t

/-- At the end of an event the queue has handed SETTINGS on, and nothing else has left it; an empty queue clears OVERFLOW
(R140, R141, R162). -/
def Handed (s t : State) : Prop :=
  t.od.iq = s.takeSettings.od.iq ∧ t.od.inHand = s.takeSettings.od.inHand ∧
    t.od.overflow = (s.od.overflow && !t.od.iq.isEmpty)

/-- An event has changed the blocks listed and nothing else, the queue apart. -/
def Changes (changed : List Block) (s t : State) : Prop := Frame (.inbound :: changed) s t ∧ Handed s t

/-- Every drive but one, as in the block `drives`. -/
def OtherDrive (i : DriveId) (s t : State) : Prop :=
  t.life = s.life → ∀ j, j ≠ i → (s.drive j).Stands s.interlock (t.drive j)

/-- Every channel but one, as in the block `channels`. -/
def OtherChannels (ch : Fin 8) (s t : State) : Prop := ∀ i : Fin 8, i ≠ ch → s.sw[i].Kept (s.ht.burner = .firing) t.sw[i]

/-- The answer to an addressed request has joined the FIFO; a broadcast has none (R145). -/
def Replied (r : Option Requester) (code : AnswerCode) (s t : State) : Prop :=
  match r with
  | some r => s.answers ++ [(r.addr, [r.fn, r.inst, r.action, byteOf code.code])] <+: t.answers
  | none => s.answers <+: t.answers

/-! ### What a command meets and leaves -/

/-- A good telegram of another station that the node handles (R160). -/
def Handles (src tgt : Addr) (s : State) : Prop :=
  s.receivable = true ∧ src ≠ 0 ∧ src ≠ 31 ∧ s.ownAddr ≠ some src ∧ (tgt = 0 ∨ s.ownAddr = some tgt)

/-- The Link Controller after a handled telegram: ready, HEARD driven, TAKEN as told, where the life state drives slots
(R157). -/
def Heard (taken : Bool) (s t : State) : Prop :=
  t.lc = { s.lc with
    rx := .ready, idle := false, heardSlot := s.life.drivesSlots, takenSlot := taken && s.life.drivesSlots,
    service := t.lc.service }

/-- The oldest entry of the queue is an OPERATE of this function and action that the dispatcher takes now (R140). -/
def Takes (fn act : Nat) (e : Entry) (s : State) : Prop :=
  s.od.iq.head? = some e ∧ s.canTake e = true ∧ (operateOf e.payload).fn.toNat = fn ∧
    (operateOf e.payload).action.toNat = act

/-- The entry has left the queue, and the request has changed the blocks listed and nothing else. -/
def Served (changed : List Block) (s t : State) : Prop :=
  Frame (.inbound :: changed) s t ∧ t.od.iq = dropSettings s.od.iq.tail ∧ t.od.inHand = s.od.inHand

/-- The payload in hand starts with a whole record of this type (R177). -/
def Holds (type n : Nat) (p : List Byte) (s : State) : Prop :=
  s.life = .commissioning ∧ s.od.inHand = some p ∧ p ≠ [] ∧ byteAt p 0 = type ∧ recordLength type = some n ∧ n ≤ p.length

/-- The record has been applied: the payload is at the record after it, the closing timer ends 5 s later at the earliest,
and of the rest only the blocks listed have changed (R176, R177). -/
def Applied (changed : List Block) (n : Nat) (p : List Byte) (s t : State) : Prop :=
  Frame (.inbound :: .node :: changed) s t ∧ Handed (s.setInHand (leftOf (p.drop n))) t ∧ t.life = .commissioning ∧
    t.nc = { s.nc with
      closing := s.nc.closing.map fun e => max e (s.now + 5000), lifeSince := t.nc.lifeSince, flags := t.nc.flags }

/-- With the candidates `cs` the lowest address among them and the node's own counter, once it has handed on, is the source;
without any there is no view, and a node in another role than BATTERY reports NO_BATTERY (R33). -/
def SourceChosen (cs : List Candidate) (s t : State) : Prop :=
  (∀ own v, s.isBattery = true → s.ownAddr = some own → s.cc.handed = some v → (∀ c ∈ cs, own ≤ c.addr) →
    t.pt.view = some ⟨own, v⟩) ∧
  (cs ≠ [] → s.isBattery = false ∨ s.cc.handed = none ∨ (∃ own, s.ownAddr = some own ∧ ∃ c ∈ cs, c.addr < own) →
    ∃ c ∈ cs, (∀ d ∈ cs, c.addr ≤ d.addr) ∧ t.pt.view = some ⟨c.addr, c.vals⟩) ∧
  (cs = [] → s.isBattery = false ∨ s.cc.handed = none → t.pt.view = none) ∧
  (s.life.active = true → (t.nc.flags.noBattery = true ↔ s.isBattery = false ∧ cs = []))

/-- A battery node is in CONFLICT exactly while one of the candidates is lower; the start of CONFLICT stops the period, its end
restarts it for 1 s, and both raise BATTERY_DUE; nothing else of the Charge Counter changes (R16, R34). -/
def ConflictFollows (now : Nat) (cs : List Candidate) (s t : State) : Prop :=
  (∀ own, s.isBattery = true → s.ownAddr = some own →
    (t.cc.conflict = true ↔ ∃ c ∈ cs, c.addr < own) ∧
    (s.cc.conflict = false → t.cc.conflict = true → t.cc.period = none ∧ t.ts.pending.batteryDue = true) ∧
    (s.cc.conflict = true → t.cc.conflict = false →
      t.cc.period = some (now + 1000) ∧ t.ts.pending.batteryDue = true) ∧
    (t.cc.conflict = s.cc.conflict → t.cc.period = s.cc.period)) ∧
  t.cc = { s.cc with conflict := t.cc.conflict, period := t.cc.period }

/-- The fresh guard at an evaluation at `now`: without a temperature it heats; from IDLE and HEATING it goes by frost_on and
frost_off, and where it then heats at or below dump_temp with dumping allowed and water in the tank, or no percent, the dump timer
starts; DUMP_PENDING runs on up to 0.5 °C above dump_temp with water in the tank, and else is cancelled; DUMPED stays (R119 to
R121, R123). -/
def FreshGuardMoves (now : Nat) (s t : State) : Prop :=
  (s.wf.fresh = .dumped → t.wf.fresh = .dumped) ∧
  (s.temperature .freshT = none → s.wf.fresh ≠ .dumped → t.wf.fresh = .heating ∧ t.wf.dumpTimer = none) ∧
  ∀ (x : Int) (water : Bool), s.temperature .freshT = some x →
    (water = true ↔ t.wf.freshPercent = none ∨ ∃ pc, t.wf.freshPercent = some pc ∧ 3 < pc) →
    (∀ warm : Bool,
      (s.wf.fresh = .idle ∧ warm = decide (s.wf.params.frostOn < x)) ∨
        (s.wf.fresh = .heating ∧ warm = decide (s.wf.params.frostOff ≤ x)) →
      (warm = true → t.wf.fresh = .idle ∧ t.wf.dumpTimer = none) ∧
      (warm = false →
        (s.dumpAllowed = true → x ≤ s.wf.params.dumpTemp → water = true →
          t.wf.fresh = .dumpPending ∧ t.wf.dumpTimer = some (now + s.wf.params.dumpDelay * 1000)) ∧
        (s.dumpAllowed = false ∨ s.wf.params.dumpTemp < x ∨ water = false →
          t.wf.fresh = .heating ∧ t.wf.dumpTimer = none))) ∧
    (s.wf.fresh = .dumpPending →
      (x ≤ s.wf.params.dumpTemp + 5 → water = true →
        t.wf.fresh = .dumpPending ∧ t.wf.dumpTimer = s.wf.dumpTimer) ∧
      (s.wf.params.dumpTemp + 5 < x ∨ water = false → t.wf.fresh = .heating ∧ t.wf.dumpTimer = none))

/-- The TANK_HEAT channels of a tank as its guard goes from `was` to `now`: requested until off at the entry to HEATING, off at
the entry to IDLE, and otherwise kept (R119, R121). -/
def HeaterFollows (tank : Nat) (was now : Guard) (s t : State) : Prop :=
  ∀ i : Fin 8, s.sw[i].fn = .tankHeat → s.sw[i].inst = tank →
    (was = .idle → now ≠ .idle → t.sw[i].request = true ∧ (s.sw[i].state ≠ .fault → t.sw[i].endTimer = none)) ∧
    (was = .heating → now = .idle → t.sw[i].request = false) ∧
    (was = now ∨ (was ≠ .idle ∧ now ≠ .idle) → s.sw[i].Kept (s.ht.burner = .firing) t.sw[i])

/-- Nothing puts a lit burner out from `s` to `t`: the node keeps its life state, its BURNER and BURNER_FAN channels are requested
and ON, the S_eff in hand at the end allows their classes, and CUT used is clear before and after (R61, R134, R135). -/
def BurnerAllowed (cls : Fin 8 → Nat) (s t : State) : Prop :=
  s.life.active = true ∧ t.life = s.life ∧ s.lb.firstPending = false ∧ s.lb.cutUsed = false ∧
    t.lb.cutUsed = false ∧
    ∀ i : Fin 8, s.sw[i].heater = true →
      s.sw[i].request = true ∧ s.sw[i].state = .on ∧ cls i < t.lb.sEff.rank

/-- The burner is lit in `t`, with its BURNER and BURNER_FAN channels ON at full (R133, R135). -/
def BurnerLit (t : State) : Prop :=
  t.ht.burner = .firing ∧ t.ht.lit = true ∧ ∀ i : Fin 8, t.sw[i].heater = true → t.sw[i].state = .on ∧ t.sw[i].throttled = false

/-- The pending causes with one given back (R155, R156, R164). -/
def Causes.with (p : Causes) (c : ServiceCause) : Causes :=
  { wakeOut := p.wakeOut || c = .wakeOut
    batteryDue := p.batteryDue || c = .batteryDue
    stateUrgent := p.stateUrgent || (match c with | .state u _ => u | _ => false)
    statePeriodic := p.statePeriodic || (match c with | .state _ q => q | _ => false)
    measureDue := p.measureDue || c = .measureDue }

/-- Every cause of `p` is in `q`. -/
def Causes.within (p q : Causes) : Prop :=
  (p.wakeOut → q.wakeOut) ∧ (p.batteryDue → q.batteryDue) ∧ (p.stateUrgent → q.stateUrgent) ∧
    (p.statePeriodic → q.statePeriodic) ∧ (p.measureDue → q.measureDue)

/-- A drive waits for its grant in a direction for 5 s from now, or has been granted it at this instant (R51, R52, R92). -/
def Drive.Asks (now : Nat) (origin : DriveState) (dir : Dir) (homing : Bool) (d e : Drive) : Prop :=
  e.direction = some dir ∧ e.homing = homing ∧ e.forced = d.forced ∧
    ((e.state = .waitGrant ∧ e.origin = some origin ∧ e.grantTimer = some (now + 5000)) ∨
      (e.state = (match dir with | .extend => .extending | .retract => .retracting) ∧
        e.travelTimer = some (now + d.travelTime * 150) ∧ e.pulseWatch = some (now + 500)))

/-- What a warm reset makes of the node, entered and left at one instant (R148, R169). -/
def Restarted (s t : State) : Prop :=
  ∃ u, exec .warmReset s = .next u ∧
    t = { u with nc := { u.nc with
      life := .strapRead, lifeSince := s.now, rstLow := s.nc.rstLow, strapTimer := some (s.now + 20) } }

/-- The node has entered DORMANT: pumps disarmed, no normal demand, nothing measured periodically; or a wake condition held,
and it is back in RUN (R115, R131, R163, R166, R179). -/
def Sleeps (s t : State) : Prop :=
  (s.trv.reading = false → s.ownDrive = false → s.takeSettings.addressedHead = false →
    t.life = .dormant ∧ t.ts.measurePeriod = none ∧ t.ts.pending.measureDue = false ∧ t.nc.flags.dormant = true ∧
      t.wf.locks.dormant = true ∧ t.lb.applied = 0 ∧ t.lb.sEff.rank ≤ 2) ∧
    (s.trv.reading = true ∨ s.ownDrive = true ∨ s.takeSettings.addressedHead = true →
      t.life = .run ∧ (s.ownDrive = true → t.ts.pending.wakeOut = true)) ∧
    (∀ i : Fin 8, s.sw[i].fn = .pump → t.sw[i].request = false) ∧ t.ht.normalDemand = false ∧ t.od.storePending = false ∧
    Frame [.life, .inbound, .link, .answers, .causes, .scheduler, .channels, .heating, .drives, .dispatcher] s t

end Sys2Proof.Machine
end

