-- ==== Sys2Proof/Certificates/Slice0/Obligations.lean ====
section
/-! DEFINITION. The statements for the provers. A statement whose hypotheses name an invariant (InterlocksKept, LifeSound …)
takes it as a premise; each of these is stated as kept by every step in a statement of its own. -/

open Sys2Proof Sys2Proof.Machine

/-! ### The step -/

/-- A step runs the command at the front of the queue on the state with the rest of the queue (log entry 3). -/
def Obligations.StepRunsFrontCommand : Prop :=
  ∀ (c : Instr) (rest : List Instr) (s : State),
    step { s with pending := c :: rest } = exec c { s with pending := rest }

/-! ### Invariants that every step keeps -/

/-- The Inbound Queue and the Answer FIFO never hold more than 6 (R162, R165); at most 16 peer entries, of distinct stations,
none the node itself, none while the Peer Table does not run (R21); the charge count stays in its ranges and is held against
the C_nom in force (01, state table; R6, R7, R14, R18, R19); drive positions stay in 0 to travel_pulses, at the ends in RETRACTED
and EXTENDED (R86, R108). -/
def Obligations.BoundsStayKept : Prop :=
  KeptByEveryStep QueuesBounded ∧ KeptByEveryStep PeersSound ∧ (KeptByEveryStep fun s => CountSound s.cc) ∧
    KeptByEveryStep PositionsSound

/-- No drive extends against the interlock view, which is that of its inputs; forced causes stand only in a retraction
(R98 to R102, R107). It is kept together with the Peer Table's law that no two entries are of one station (R21), since the
view reads the peers. -/
def Obligations.InterlocksStayKept : Prop := KeptByEveryStep fun s => InterlocksKept s ∧ PeersSound s

/-- The first law of the device: every driven output is granted by its class, throttled, or exempt (R61). -/
def Obligations.FirstLawStaysKept : Prop := KeptByEveryStep FirstLaw

/-- Every output is what request, decision, mode and inhibit make it (R61 to R67); the flags word is always what the state of
the units makes it (10, flags table; 12, STATE); the pump lock set is what its conditions make it, and PUMP channels are
inhibited exactly while it is not empty (R116). The first is kept together with what a life without running blocks leaves of
the channels: their reset state (R59, R169, R172). -/
def Obligations.OutputsFlagsAndLocksStayCurrent : Prop :=
  (KeptByEveryStep fun s => OutputsCurrent s ∧ ChannelsAtRest s) ∧ KeptByEveryStep FlagsCurrent ∧ KeptByEveryStep LocksCurrent

/-- S is never above S_raw, which while the blocks run is that of the inputs as they stand, since no recomputation is left to make
(R39, R43); the holdoff runs only below S_raw (R43, R44); S is ALL_SHED in COMMISSIONING (R46); and the pair handed on is that of
S, f and the life state (R48, R49). That the chain of one instant ends within 8 recomputations is log entry 22. -/
def Obligations.ShedStaysSound : Prop := KeptByEveryStep ShedSound

/-- An addressed OPERATE or a busy drive never meets DORMANT; nothing runs and nothing is pending before the window ends
(R147 to R149, R178, R180); a node in RESET, STRAP_READ, STRAP_FAULT or LISTEN_ONLY sends nothing and releases the Travel line
(R105, R167, R181). -/
def Obligations.LifeStatesKeepTheirPromises : Prop := KeptByEveryStep LifeSound ∧ KeptByEveryStep Silent

/-- The state after a cold reset meets every one of these. -/
def Obligations.ResetMeetsInvariants : Prop :=
  QueuesBounded State.reset ∧ PeersSound State.reset ∧ CountSound State.reset.cc ∧ PositionsSound State.reset ∧
    InterlocksKept State.reset ∧ FirstLaw State.reset ∧ OutputsCurrent State.reset ∧ ChannelsAtRest State.reset ∧ Silent State.reset ∧
    FlagsCurrent State.reset ∧ LocksCurrent State.reset ∧ ShedSound State.reset ∧ LifeSound State.reset

/-! ### Resets, straps and the window (10) -/

/-- COLD_RESET, WARM_RESET and RESET_CAUSE_ENDS. Both resets leave RESET with the flags word clear but for HELLO and nothing
pending; a cold reset leaves every block as after power-on; a warm one keeps the charge count, the volume count and the drives
at rest; the node leaves RESET for the 20 ms of STRAP_READ when no cause lasts any more (R19, R108, R169, R170, R182). -/
def Obligations.ResetsKeepWhatTheyKeep : Prop :=
  (∀ s : State,
    (∃ t, exec .coldReset s = .next t ∧ t.nc.kind = .cold ∧
      t = { State.reset with now := s.now, nc := t.nc, pending := s.pending } ∧
      t.nc = { State.reset.nc with lifeSince := s.now, rstLow := s.nc.rstLow }) ∧
    (¬ (s.life = .reset ∧ s.nc.kind = .cold) →
      ∃ t, exec .warmReset s = .next t ∧ t.nc.kind = .warm ∧
        t = { State.reset with
          now := s.now, nc := t.nc, cc := t.cc, ma := t.ma, mb := t.mb, pending := s.pending,
          wf := { State.reset.wf with volume := s.wf.volume, remainder := s.wf.remainder } } ∧
        t.nc = { State.reset.nc with
          lifeSince := s.now, kind := .warm, supplyLow := s.nc.supplyLow, rstLow := true } ∧
        t.cc = { ChargeCounter.atReset with
          count := s.cc.count.map fun n => ⟨n.q * 100 / n.capacity, n.f, 100⟩
          estimated := s.cc.estimated, cutRun := s.cc.cutRun, clearRun := s.cc.clearRun, syncRun := s.cc.syncRun,
          cut := s.cc.cut, emptyCount := s.cc.emptyCount } ∧
        ∀ i, ∀ d, d = s.drive i → ∀ b, b = Drive.blank d.fn →
          ((d.state = .retracted ∨ (d.state = .waitGrant ∧ d.origin = some .retracted)) →
            t.drive i = { b with state := .retracted, position := 0 }) ∧
          ((d.state = .extended ∨ (d.state = .waitGrant ∧ d.origin = some .extended)) →
            t.drive i = { b with state := .extended, position := b.travelPulses }) ∧
          ((d.state = .parked ∨ (d.state = .waitGrant ∧ d.origin = some .parked)) →
            t.drive i = { b with state := .parked, position := min d.position b.travelPulses }) ∧
          ((d.state = .unknown ∨ d.state = .extending ∨ d.state = .retracting ∨ d.state = .braking ∨
              d.state = .jammed ∨ (d.state = .waitGrant ∧ (d.origin = some .unknown ∨ d.origin = some .jammed))) →
            t.drive i = { b with state := .unknown, position := 0 }))) ∧
  ∀ s : State, s.life = .reset →
    (∀ c, ((c = .supply ∧ s.nc.rstLow = false) ∨ (c = .rstPin ∧ s.nc.supplyLow = false)) →
      ∃ t, exec (.resetCauseEnds c) s = .next t ∧ t = { s with nc := t.nc } ∧
        t.nc = { s.nc with
          supplyLow := false, rstLow := false, life := .strapRead, lifeSince := s.now, strapTimer := some (s.now + 20) }) ∧
    (s.nc.rstLow = true →
      exec (.resetCauseEnds .supply) s = .next { s with nc := { s.nc with supplyLow := false } }) ∧
    (s.nc.supplyLow = true →
      exec (.resetCauseEnds .rstPin) s = .next { s with nc := { s.nc with rstLow := false } })

/-- STRAP_READ_END. Valid straps give address and role, and COMMISSIONING with the configuration of the role; straps that are
not valid give STRAP_FAULT (R171, with R173 and R175 for what comes with it). -/
def Obligations.StrapsDecideTheNode : Prop :=
  ∀ (s : State) (a b : Nat) (an : Analog) (shunt vbat : Int) (e : Nat), s.life = .strapRead → s.nc.strapTimer = some e →
    (∀ n m r, bandOf a = some n → bandOf b = some m → roleOfBand m = some r →
      ∃ t, exec (.strapReadEnd a b an shunt vbat) s = .next t ∧ t.now = max s.now e ∧ t.life = .commissioning ∧
        t.nc.strap = .valid (addrOfBand n) r ∧ (addrOfBand n).val = n + 1 ∧ m = 2 * r.code ∧
        t.nc.closing = some (max s.now e + 20000) ∧ t.nc.limit = some (max s.now e + 60000) ∧
        (∀ i : Fin 8, t.sw[i].record = r.channels[i].record) ∧ t.ma.fn = r.maFunction ∧ t.mb.fn = .none ∧
        t.sfe.routes = r.routes ∧ t.trv.maskIgnition = r.selectsTravelLine ∧ t.trv.maskSpeed = r.selectsTravelLine ∧
        t.ts.pending.stateUrgent = true ∧ t.wf.volume = s.wf.volume ∧ t.pending = s.pending ∧
        t.sfe.next = some (max s.now e + 100) ∧ t.wf.next = some (max s.now e + 1000) ∧
        t.gust.windowEnd = some (max s.now e + 3000) ∧
        (r = .battery → t.cc.count.isSome = true ∧ t.cc.next = some (max s.now e + 100)) ∧
        (r ≠ .battery → t.cc = ChargeCounter.atReset)) ∧
    ((bandOf a = none ∨ bandOf b = none ∨ ∃ m, bandOf b = some m ∧ m % 2 = 1) →
      ∃ t, exec (.strapReadEnd a b an shunt vbat) s = .next t ∧ t.now = max s.now e ∧ t.life = .strapFault ∧
        t.nc.strap = .fault ∧ t.ownAddr = none ∧ t.role = none ∧ t.cc = ChargeCounter.atReset ∧
        t.ma = Drive.blank .none ∧ t.mb = Drive.blank .none ∧
        Changes [.clock, .life, .node, .charge, .driveRecords, .drives] s t)

/-- CLOSING_TIMER_EXPIRY, LIMIT_TIMER_EXPIRY and CLOSE_RECORD end the window alike: both timers stop, what is left of the
settings is discarded, and the node is in RUN with its units started, or in LISTEN_ONLY where CLASH is set (R141, R176,
R178, R181). -/
def Obligations.WindowEndsInRunOrListenOnly : Prop :=
  ∀ (s : State) (c : Instr) (at_ : Nat), s.life = .commissioning → LifeSound s →
    ((∃ e, c = .closingTimerExpiry ∧ s.nc.closing = some e ∧ at_ = max s.now e) ∨
      (∃ e, c = .limitTimerExpiry ∧ s.nc.limit = some e ∧ at_ = max s.now e) ∨
      (∃ p, c = .closeRecord ∧ s.od.inHand = some p ∧ p ≠ [] ∧ byteAt p 0 = 14 ∧ at_ = s.now)) →
    ∃ t, exec c s = .next t ∧ t.now = at_ ∧ t.nc.closing = none ∧ t.nc.limit = none ∧ t.nc.started = true ∧
      t.od.inHand = none ∧ t.od.iq = dropSettings s.od.iq ∧
      (s.pt.clash = false → t.life = .run ∧ t.ts.measurePeriod = some (at_ + 5000)) ∧
      (s.pt.clash = true → t.life = .listenOnly ∧ t.sending = false ∧ t.trvDriven = false) ∧
      t.ht.heaterEnabled = s.ht.params.heaterEnable ∧ t.ht.frostHoldEnabled = s.ht.params.frostHoldEnable ∧
      t.ht.next = some (at_ + 1000) ∧
      t.nc.strap = s.nc.strap ∧ Frame [.clock, .life, .node, .inbound, .heating, .channels, .drives, .scheduler] s t

/-! ### Charge Counter (01) -/

/-- CC_SAMPLE. One sample reads the shunt voltage (in nV) in proportion, 20000 at 50 mV, clamped with SHUNT_RANGE beyond either
end, and the clamped battery voltage, hands its results on, raises BATTERY_DUE where R16 says, and makes the
node's own figures its view where no battery node is heard (R1 to R4, R15, R16, R33). A discharging one takes its charge from Q at
full value, down to 0, where it sets EMPTY_COUNT (R7); the first one without a count estimates it from its voltage, without its own
charge, and is the first of its runs (R5). -/
def Obligations.ChargeCounterSamples : Prop :=
  ∀ (s : State) (shunt vbat : Int) (e : Nat), s.life.active = true → s.isBattery = true → s.cc.next = some e →
    ∃ t, exec (.ccSample shunt vbat) s = .next t ∧ t.now = max s.now e ∧
      t.cc = { s.cc.sample shunt vbat (s.temperature .batteryT) with next := some (max s.now e + 100) } ∧
      t.cc.iS = clampInt (-20000) 20000 (shunt * 20000 / 50000000) ∧ (t.cc.v : Int) = clampInt 0 20000 vbat ∧
      t.cc.tb = s.temperature .batteryT ∧ t.cc.shuntRange = decide (shunt < -50000000 ∨ 50000000 < shunt) ∧
      t.cc.cold = (match s.temperature .batteryT with | none => true | some x => decide (x < 0)) ∧
      t.cc.handed = some ⟨t.cc.soc, t.cc.l, t.cc.flags⟩ ∧
      (t.cc.conflict = false →
        (s.cc.sent = none ∨
          ∃ l f, s.cc.sent = some (l, f) ∧ (l + 16 ≤ t.cc.l ∨ t.cc.l + 16 ≤ l ∨ t.cc.flags ≠ f)) →
        t.ts.pending.batteryDue = true) ∧
      (∀ own, s.ownAddr = some own → s.pt.candidates = [] →
        t.pt = { s.pt with view := some ⟨own, ⟨t.cc.soc, t.cc.l, t.cc.flags⟩⟩ }) ∧
      (∀ (n : Count) (x : Nat), s.cc.count = some n → t.cc.iS = -(x : Int) → 0 < x ∨ s.cc.syncRun < 1199 →
        (x ≤ n.q → t.cc.count = some { n with q := n.q - x } ∧ t.cc.emptyCount = s.cc.emptyCount) ∧
        (n.q < x → t.cc.count = some { n with q := 0 } ∧ t.cc.emptyCount = true)) ∧
      (∀ est : Nat, s.cc.count = none → s.cc.syncRun = 0 → s.cc.params.vEmpty < s.cc.params.vFull →
        (est : Int) = clampInt 0 100
          (((t.cc.v : Int) - s.cc.params.vEmpty) * 100 / (s.cc.params.vFull - s.cc.params.vEmpty : Int)) →
        t.cc.count = some ⟨s.cc.params.cNom * 3600000 * est / 100, 0, s.cc.params.cNom⟩ ∧ t.cc.estimated = true ∧
          t.cc.estimatedSinceReset = true ∧ t.cc.emptyCount = false ∧
          t.cc.syncRun =
            (if s.cc.params.vFull ≤ t.cc.v ∧ 0 ≤ t.cc.iS ∧ t.cc.iS ≤ s.cc.params.iTail then 1 else 0) ∧
          (s.cc.cut = false → s.cc.cutRun = 0 →
            t.cc.cut = false ∧ t.cc.cutRun = if t.cc.v < s.cc.params.vCut then 1 else 0) ∧
          (s.cc.cut = true → s.cc.clearRun = 0 →
            t.cc.cut = true ∧ t.cc.clearRun = if s.cc.params.vCut + 400 ≤ t.cc.v then 1 else 0)) ∧
      Changes [.clock, .charge, .peers] s t

/-- A charging sample adds through the efficiency remainder, up to Q_full; over a run of charging samples below Q_full the
charge is counted at exactly eta percent (R6). -/
def Obligations.ChargingCountsAtEtaPercent : Prop :=
  (∀ (c : ChargeCounter) (n : Count), c.count = some n → 0 < c.iS → n.q ≤ c.params.qFull →
    ∃ m, c.update.count = some m ∧ m.capacity = n.capacity ∧
      (n.q + (c.iS.toNat * c.params.eta + n.f) / 100 ≤ c.params.qFull →
        m.q = n.q + (c.iS.toNat * c.params.eta + n.f) / 100 ∧ m.f = (c.iS.toNat * c.params.eta + n.f) % 100) ∧
      (c.params.qFull < n.q + (c.iS.toNat * c.params.eta + n.f) / 100 → m.q = c.params.qFull ∧ m.f = 0) ∧
      (n.q + 1 ≤ m.q → c.update.emptyCount = false) ∧ (m.q = n.q → c.update.emptyCount = c.emptyCount)) ∧
  (∀ (xs : List Nat) (c : ChargeCounter) (n : Count), c.count = some n → n.f < 100 → (∀ x ∈ xs, 0 < x) →
    100 * n.q + n.f + c.params.eta * xs.sum ≤ 100 * c.params.qFull →
    ∃ m, (xs.foldl (fun (c : ChargeCounter) (x : Nat) => ({ c with iS := x } : ChargeCounter).update) c).count = some m ∧
      100 * m.q + m.f = 100 * n.q + n.f + c.params.eta * xs.sum ∧ m.f < 100)

/-- The usable capacity by the battery temperature, SoC and SoC_used from it, the discharge limit by SoC_used and CUT, its
derate below 0.0 °C or without a temperature, and its range (R9 to R12); the limit never falls as SoC_used rises. -/
def Obligations.LimitFollowsItsTable : Prop :=
  ∀ p : CcParams, p.iEss ≤ p.iMax → p.rLo < p.rHi → ∀ (cut cold : Bool) (used : Nat), ∀ l, l = p.limit cut used →
    (cut = true → l = 0 ∧ p.derate cut cold l = 0) ∧
    (cut = false → p.rHi ≤ used → l = p.iMax) ∧
    (cut = false → used ≤ p.rLo → l = p.iEss) ∧
    (cut = false → p.rLo < used → used < p.rHi →
      l = p.iEss + (p.iMax - p.iEss) * (used - p.rLo) / (p.rHi - p.rLo)) ∧
    (cut = false → cold = true → p.derate cut cold l = max p.iEss (l * 3 / 4)) ∧
    (cold = false → p.derate cut cold l = l) ∧
    (cut = false → p.iEss ≤ p.derate cut cold l ∧ p.derate cut cold l ≤ p.iMax) ∧
    (∀ more, used ≤ more → p.derate cut cold l ≤ p.derate cut cold (p.limit cut more)) ∧
    (∀ (c : ChargeCounter) (n : Count), c.count = some n →
      c.results.l = c.params.derate c.cut c.cold (c.params.limit c.cut c.results.socUsed)) ∧
    (∀ (c : ChargeCounter) (n : Count) (k qEff : Nat), c.count = some n →
      k = (match c.tb with
        | none => 154
        | some x => if 250 ≤ x then 256 else if 100 ≤ x then 243 else if 0 ≤ x then 218 else if -100 ≤ x then 186 else 154) →
      qEff = c.params.cNom * 3600000 * k / 256 →
      c.params.qFull = c.params.cNom * 3600000 ∧ (20 ≤ c.params.cNom → 20 * 3600000 * 154 / 256 ≤ qEff) ∧
      c.results.soc = min 100 (100 * n.q / qEff) ∧
      c.results.socUsed = if c.estimated then c.results.soc - 10 else c.results.soc) ∧
    (∀ (c : ChargeCounter) (shunt vbat : Int) (tb : Option Int),
      (c.take shunt vbat tb).cold = true ↔ (tb = none ∨ ∃ x : Int, tb = some x ∧ x < 0))

/-- CUT is set at the hundredth consecutive sample below V_cut and no earlier, cleared at the six hundredth at or above
V_cut + 400 and no earlier, and one other sample starts the run again (R13). 1200 samples in a row at V_full or above with a
current from 0 to I_tail synchronise at the last of them and not before, whatever CUT and the temperature, and one other sample
starts that run again (R14). -/
def Obligations.CutIsQualifiedByRuns : Prop :=
  (∀ (c : ChargeCounter) (n : Count) (xs : List (Nat × Int)) (run : ChargeCounter), c.count = some n → c.syncRun = 0 →
    (∀ x ∈ xs, c.params.vFull ≤ x.1 ∧ 0 ≤ x.2 ∧ x.2 ≤ c.params.iTail) →
    run = xs.foldl (fun (c : ChargeCounter) x => ({ c with v := x.1, iS := x.2 } : ChargeCounter).advanceSync) c →
    (xs.length < 1200 → run = { c with v := run.v, iS := run.iS, syncRun := xs.length }) ∧
    (xs.length = 1200 →
      run = { c with
        v := run.v, iS := run.iS, syncRun := 0, count := some { n with q := c.params.cNom * 3600000, f := 0 },
        estimated := false, emptyCount := false, estimatedSinceReset := false })) ∧
  (∀ c : ChargeCounter, (c.v < c.params.vFull ∨ c.iS < 0 ∨ c.params.iTail < c.iS) →
    c.advanceSync = { c with syncRun := 0 }) ∧
  ∀ (c : ChargeCounter) (vs : List Nat) (run : ChargeCounter),
    run = vs.foldl (fun (c : ChargeCounter) (v : Nat) => ({ c with v := v } : ChargeCounter).advanceCut) c →
    (c.cut = false → c.cutRun = 0 → (∀ v ∈ vs, v < c.params.vCut) →
      (vs.length < 100 → run.cut = false ∧ run.cutRun = vs.length) ∧ (vs.length = 100 → run.cut = true)) ∧
    (c.cut = true → c.clearRun = 0 → (∀ v ∈ vs, c.params.vCut + 400 ≤ v) →
      (vs.length < 600 → run.cut = true ∧ run.clearRun = vs.length) ∧ (vs.length = 600 → run.cut = false)) ∧
    (∀ v, (c.cut = false → c.params.vCut ≤ v →
        (({ c with v := v } : ChargeCounter).advanceCut).cut = false ∧
          (({ c with v := v } : ChargeCounter).advanceCut).cutRun = 0) ∧
      (c.cut = true → v < c.params.vCut + 400 →
        (({ c with v := v } : ChargeCounter).advanceCut).cut = true ∧
          (({ c with v := v } : ChargeCounter).advanceCut).clearRun = 0))

/-! ### Peer Table (02) -/

/-- STATE_RECEIVED. A known station's entry is refreshed, keeping its cabin temperature unless HELLO or another role makes it
anew; a newcomer takes a free place, or that of the LOST entry silent longest, or is refused and seen as a stranger; the
node drives HEARD (R22 to R26, R157). -/
def Obligations.StateMakesAnEntry : Prop :=
  ∀ (s : State) (src tgt : Addr) (pr : Fin 8) (p : List Byte) (new : Peer), Handles src tgt s → p.length = 12 →
    new = peerOf src s.now p →
    ∃ t, exec (.stateReceived src tgt (sent pr kindState src tgt p)) s = .next t ∧ Heard false s t ∧
      t.pt = { s.pt with entries := t.pt.entries, stranger := t.pt.stranger } ∧
      (∀ old, s.entry src = some old →
        t.pt.entries = s.pt.entries.filter (fun e => e.addr ≠ src) ++
          [{ new with cabin := if new.flags.hello = true ∨ new.role ≠ old.role then none else old.cabin }] ∧
        t.pt.stranger = s.pt.stranger) ∧
      (s.entry src = none → s.pt.entries.length < 16 →
        t.pt.entries = s.pt.entries ++ [new] ∧ t.pt.stranger = s.pt.stranger) ∧
      (s.entry src = none → 16 ≤ s.pt.entries.length → (∃ e ∈ s.pt.entries, e.status = .lost) →
        ∃ gone ∈ s.pt.entries, gone.status = .lost ∧
          (∀ e ∈ s.pt.entries, e.status = .lost → gone.heardAt ≤ e.heardAt) ∧
          t.pt.entries = s.pt.entries.filter (fun e => e.addr ≠ gone.addr) ++ [new] ∧
          t.pt.stranger = s.pt.stranger) ∧
      (s.entry src = none → 16 ≤ s.pt.entries.length → (∀ e ∈ s.pt.entries, e.status ≠ .lost) →
        t.pt.entries = s.pt.entries ∧ t.pt.stranger = some (s.now + 60000)) ∧
      new.status = .present ∧ new.heardAt = s.now ∧ new.cabin = none ∧ new.dormantAging = new.flags.dormant ∧
      Changes [.peers, .link, .interlock, .drives] s t

/-- PEER_STALE, PEER_LOST and STRANGER_SEEN_TIMER_EXPIRY. Silence of 6 s and 20 s, or 90 s and 300 s under dormant aging,
moves an entry on; the stranger-seen timer stops at its end (R24, R27). -/
def Obligations.SilenceAgesAnEntry : Prop :=
  ∀ (s : State) (a : Addr),
    (∀ p, s.entry a = some p → p.status = .present →
      ∃ t, exec (.peerStale a) s = .next t ∧
        t.now = max s.now (p.heardAt + if p.dormantAging then 90000 else 6000) ∧
        t.pt = { s.pt with
          entries := s.pt.entries.map fun e => if e.addr = a then { e with status := .stale } else e } ∧
        Changes [.clock, .peers, .interlock, .drives] s t) ∧
    (∀ p, s.entry a = some p → p.status = .stale →
      ∃ t, exec (.peerLost a) s = .next t ∧
        t.now = max s.now (p.heardAt + if p.dormantAging then 300000 else 20000) ∧
        t.pt = { s.pt with
          entries := s.pt.entries.map fun e => if e.addr = a then { e with status := .lost } else e } ∧
        Changes [.clock, .peers, .interlock, .drives] s t) ∧
    (∀ e, s.pt.stranger = some e →
      ∃ t, exec .strangerSeenTimerExpiry s = .next t ∧ t.now = max s.now e ∧ t.pt = { s.pt with stranger := none } ∧
        Changes [.clock, .peers] s t)

/-- MEASURE_RECEIVED and PEER_CABIN_T_EXPIRY. A CABIN_T reading of a known station is taken, the invalid marker removes
it, and 30 s after it was taken it is absent (R29). -/
def Obligations.MeasureFeedsCabinTemperature : Prop :=
  ∀ s : State,
    (∀ (src tgt : Addr) (pr : Fin 8) (p : List Byte), Handles src tgt s → p.length = 12 →
      ∃ t, exec (.measureReceived src tgt (sent pr kindMeasure src tgt p)) s = .next t ∧ Heard false s t ∧
        t.pt = { s.pt with entries := t.pt.entries } ∧ t.pt.entries.length = s.pt.entries.length ∧
        (∀ (k : Nat) (e f : Peer), s.pt.entries[k]? = some e → t.pt.entries[k]? = some f →
          f = { e with cabin := f.cabin } ∧ (e.addr ≠ src → f = e) ∧
          (e.addr = src →
            (∀ x ∈ readingsOf p, x.1 ≠ 1) → f.cabin = e.cabin) ∧
          (e.addr = src →
            ∀ v, (readingsOf p).filter (fun x => x.1 = 1) = [(1, v)] →
              f.cabin = if v = -32768 then none else some ⟨v, s.now⟩)) ∧
        Changes [.peers, .link] s t) ∧
    (∀ (a : Addr) (p : Peer) (r : CabinReading), s.entry a = some p → p.cabin = some r →
      ∃ t, exec (.peerCabinTExpiry a) s = .next t ∧
        t = { s with
          now := max s.now (r.since + 30000)
          pt := { s.pt with
            entries := s.pt.entries.map fun e => if e.addr = a then { e with cabin := none } else e } })

/-- BATTERY_RECEIVED and BATTERY_CANDIDATE_EXPIRY. A BATTERY makes or renews the candidate of its source for 5 s, and 5 s
after the last one the candidate is removed. Either way the source is chosen anew: the lowest address among the candidates and,
in the BATTERY role after its first sample, the node itself; and a battery node is in CONFLICT exactly while there is a lower
candidate (R16, R32 to R34). -/
def Obligations.LowestCandidateIsTheSource : Prop :=
  ∀ (s : State) (cs : List Candidate),
    (∀ (src tgt : Addr) (pr : Fin 8) (p : List Byte), Handles src tgt s → p.length = 9 →
      cs = s.pt.candidates.filter (fun c => c.addr ≠ src) ++ [⟨src, battValsOf p, s.now + 5000⟩] →
      ∃ t, exec (.batteryReceived src tgt (sent pr kindBattery src tgt p)) s = .next t ∧ Heard false s t ∧
        t.pt = { s.pt with candidates := cs, view := t.pt.view } ∧ SourceChosen cs s t ∧ ConflictFollows s.now cs s t ∧
        Changes [.peers, .link, .charge] s t) ∧
    (∀ (a : Addr) (c : Candidate), s.pt.candidates.find? (fun c => c.addr = a) = some c →
      cs = s.pt.candidates.filter (fun c => c.addr ≠ a) →
      ∃ t, exec (.batteryCandidateExpiry a) s = .next t ∧ t.now = max s.now c.expires ∧
        t.pt = { s.pt with candidates := cs, view := t.pt.view } ∧ SourceChosen cs s t ∧
        ConflictFollows (max s.now c.expires) cs s t ∧ Changes [.clock, .peers, .charge] s t)

/-! ### Load Budget (03) -/

/-- S_raw and OVERDRAW of a recomputation (R42). -/
def Obligations.RawShedIsTheHighestThatFits : Prop :=
  ∀ (s : State) (b : LoadBudget) (l : Nat) (cut : Bool), b = s.budget → s.limitUsed = (l, cut) →
    (cut = true → b.sRaw = some .allShed ∧ b.overdraw = false) ∧
    (cut = false → b.t0 ≤ l →
      b.overdraw = false ∧ ∃ k : Fin 4, b.sRaw = some (.upTo k) ∧ b.sum k ≤ l ∧ ∀ j : Fin 4, k < j → l < b.sum j) ∧
    (cut = false → l < b.t0 → b.sRaw = some (.upTo 0) ∧ b.overdraw = true)

/-- The test of the restore condition and the holdoff it starts, lets run or cancels (R44). -/
def Obligations.RestoreTestRunsTheHoldoff : Prop :=
  ∀ (s : State) (b : LoadBudget) (raw : Shed) (above : Nat), b = s.budget → s.life ≠ .commissioning →
    s.lb.firstPending = false → b.sRaw = some raw → s.lb.s.rank < raw.rank →
    (above = match s.lb.s with
      | .allShed => b.t0
      | .upTo 0 => b.t1
      | .upTo 1 => b.t2
      | .upTo _ => b.t3) →
    b.s = s.lb.s ∧
    (above ≤ b.lU - b.lU / 16 → s.lb.holdoff = none → b.holdoff = some (s.now + 10000)) ∧
    (above ≤ b.lU - b.lU / 16 → ∀ e, s.lb.holdoff = some e → b.holdoff = some e) ∧
    (¬ above ≤ b.lU - b.lU / 16 → b.holdoff = none)

/-- What S and the throttle let run fits the limit: the classes within S do, and with them the throttled share of the class
above; under CUT nothing is let run. The pair handed on is S with f, 0 below 32; in DORMANT never above class 1 and without a
throttle; in COMMISSIONING ALL_SHED with 0. S takes S_raw at once at the first recomputation after the window and at each fall,
and a recomputation that finds S_raw not above S leaves no holdoff; f is the share of class S + 1 that the headroom covers (R42, R43,
R46 to R49). -/
def Obligations.GrantedLoadFitsTheLimit : Prop :=
  (∀ (s : State) (b : LoadBudget), b = s.budget →
    (s.life = .commissioning → b.s = .allShed ∧ b.sEff = .allShed ∧ b.f = 0 ∧ b.applied = 0 ∧ b.holdoff = none ∧
      b.firstPending = s.lb.firstPending) ∧
    (s.life = .run ∨ s.life = .listenOnly → b.sEff = b.s ∧ b.applied = if b.f < 32 then 0 else b.f) ∧
    (s.life = .dormant →
      b.applied = 0 ∧ b.sEff = match b.s with | .allShed => .allShed | .upTo 0 => .upTo 0 | .upTo _ => .upTo 1)) ∧
  ∀ (s : State) (b : LoadBudget), b = s.budget → s.life ≠ .commissioning →
    b.firstPending = false ∧
    (∀ raw, b.sRaw = some raw →
      b.s.rank ≤ raw.rank ∧ (s.lb.firstPending = true → b.s = raw ∧ b.holdoff = none) ∧
      (raw.rank < s.lb.s.rank → b.s = raw ∧ b.holdoff = none) ∧
      (raw.rank = s.lb.s.rank → b.s = s.lb.s ∧ b.holdoff = none) ∧
      (s.lb.s.rank < raw.rank → s.lb.firstPending = false → b.s = s.lb.s)) ∧
    (b.s = .allShed → b.f = 0) ∧ (b.s = .upTo 3 → b.f = 256) ∧
    (∀ (k : Fin 4) (above : Nat), b.s = .upTo k → k ≠ 3 →
      above = (match k with | 0 => b.w.w1 | 1 => b.w.w2 | 2 => b.w.w3 | 3 => 0) →
      b.f = if above = 0 then 256 else min 256 (256 * (b.lU - b.sum k) / above)) ∧
    (b.cutUsed = true → b.s = .allShed ∧ b.f = 0) ∧
    (∀ k : Fin 4, b.s = .upTo k → 0 < k.val → b.sum k ≤ b.lU) ∧
    b.f ≤ 256 ∧
    (∀ k : Fin 4, b.s = .upTo k → b.sum k ≤ b.lU →
      256 * b.sum k + b.f * (match k with | 0 => b.w.w1 | 1 => b.w.w2 | 2 => b.w.w3 | 3 => 0) ≤ 256 * b.lU)

/-- A recomputation in RUN grants every waiting drive where S is not ALL_SHED and T_1 is within the limit, and none where
that fails: a granted drive leaves the list and starts its travel for 1.5 times travel_time, and one whose extension the view
refuses leaves the list and the wait without a travel out (R52, R89, R92, R99). -/
def Obligations.GrantsFollowTheLimit : Prop :=
  ∀ (s : State) (i : DriveId) (dir : Dir), s.life = .run → (s.drive i).state = .waitGrant →
    (s.drive i).direction = some dir → (∃ g ∈ s.lb.grants, g.drive = i) →
    (s.budget.s ≠ .allShed → s.budget.t1 ≤ s.budget.lU →
      (∀ g ∈ s.recompute.lb.grants, g.drive ≠ i) ∧
        ((dir = .extend → extendRefusal (s.drive i).fn s.interlock = none) →
          (s.recompute.drive i).state = (match dir with | .extend => .extending | .retract => .retracting) ∧
            (s.recompute.drive i).travelTimer = some (s.now + (s.drive i).travelTime * 150) ∧
            (s.recompute.drive i).pulseWatch = some (s.now + 500)) ∧
        (dir = .extend → extendRefusal (s.drive i).fn s.interlock ≠ none →
          (s.drive i).origin = some .retracted ∨ (s.drive i).origin = some .parked →
          (s.recompute.drive i).state ≠ .waitGrant ∧ (s.recompute.drive i).state ≠ .extending)) ∧
    (s.budget.s = .allShed ∨ s.budget.lU < s.budget.t1 → s.recompute.drive i = s.drive i)

/-- RESTORE_HOLDOFF_EXPIRY. S rises by exactly one class, but never above the S_raw of the recomputation that the expiry
calls for; where S_raw is still higher the next holdoff starts if the class above fits with the margin (R44, R45). The
premises keep other changes of the same instant away. -/
def Obligations.HoldoffExpiryRaisesOneClass : Prop :=
  ∀ (s : State) (e : Nat) (raw : Shed), (s.life = .run ∨ s.life = .listenOnly ∨ s.life = .dormant) →
    s.lb.holdoff = some e → s.lb.firstPending = false → s.lb.grants = [] → s.ht.burner ≠ .firing → LocksCurrent s →
    (s.life = .dormant → s.takeSettings.addressedHead = false) → s.budget.sRaw = some raw →
    ∃ t, exec .restoreHoldoffExpiry s = .next t ∧ t.now = max s.now e ∧
      t.lb.s = (if raw.rank ≤ s.lb.s.up.rank then raw else s.lb.s.up) ∧
      (s.lb.s.rank < 4 → s.lb.s.up.rank = s.lb.s.rank + 1) ∧
      (raw.rank ≤ s.lb.s.up.rank → t.lb.holdoff = none) ∧
      (s.lb.s.up.rank < raw.rank →
        t.lb.holdoff = if restoreHolds s.lb.s.up t.lb.lU t.lb.t0 t.lb.t1 t.lb.t2 t.lb.t3
          then some (max s.now e + 10000) else none) ∧
      Changes [.clock] s t

/-! ### Switched channels (04) -/

/-- CHANNEL_END_TIMER_EXPIRY is as an OFF. A channel that is not dimmable loses its request: ON and HELD go OFF, TRIPPED and
FAULT last, and the output is off; a dimmable one fades to 0, dark where its mode condition was the timer's, and is OFF there
unless TRIPPED or in FAULT, and in TRIPPED its request ends at once; the dump valve's run and the fan's run-on end with it (R60,
R63, R64, R70, R78, R122, R136). That the fade is dark, and R70 goes before R78, is the model's reading (log entry 11). That the run is in progress while any of
several valves is exempt is the model's choice (log entry 15). -/
def Obligations.EndTimerEndsTheRequest : Prop :=
  ∀ (s : State) (ch : Fin 8) (e : Nat) (rest : ChState), s.life.active = true → s.sw[ch].endTimer = some e →
    (s.sw[ch].heater = true → s.ht.burner ≠ .firing) →
    rest = (match s.sw[ch].state with
      | .tripped => .tripped
      | .fault => .fault
      | .off | .on | .held => .off) →
    ∃ t, exec (.channelEndTimerExpiry ch) s = .next t ∧ t.now = max s.now e ∧ t.sw[ch].endTimer = none ∧
      (s.sw[ch].dimmable = false →
        t.sw[ch].request = false ∧ t.sw[ch].cycleTimer = none ∧ t.sw[ch].state = rest ∧ t.sw[ch].duty = 0) ∧
      (s.sw[ch].dimmable = true → s.sw[ch].fn ≠ .burnerFan →
        t.sw[ch].target = 0 ∧
          (s.sw[ch].mode = .timed ∨ (s.sw[ch].mode = .level ∧ s.sw[ch].timedRequest = true) → t.sw[ch].duty = 0) ∧
          (s.sw[ch].state = .tripped → t.sw[ch].state = .tripped ∧ t.sw[ch].request = false) ∧
          (s.sw[ch].fadeTimer = none → s.sw[ch].current = 0 ∨ s.sw[ch].fade = 0 →
            t.sw[ch].request = false ∧ t.sw[ch].current = 0 ∧ t.sw[ch].state = rest ∧ t.sw[ch].duty = 0) ∧
          (0 < s.sw[ch].current → 0 < s.sw[ch].fade → s.sw[ch].fadeTimer = none →
            t.sw[ch].fadeTimer = some (max s.now e + s.sw[ch].fade) ∧ t.sw[ch].current = s.sw[ch].current ∧
              (s.sw[ch].state ≠ .tripped → t.sw[ch].request = s.sw[ch].request))) ∧
      (s.sw[ch].fn = .dumpValve →
        t.sw[ch].exempt = false ∧ t.wf.valveRun = t.anyChannel fun c => c.fn = .dumpValve && c.exempt) ∧
      (s.sw[ch].fn = .burnerFan → s.ht.burner = .runOn →
        t.ht.burner = .rest ∧ t.sw[ch].exempt = false ∧ t.sw[ch].givenClass = none) ∧
      (s.sw[ch].fn ≠ .burnerFan → OtherChannels ch s t) ∧
      (s.sw[ch].fn ≠ .burnerFan → s.sw[ch].fn ≠ .dumpValve → Changes [.clock, .channels] s t) ∧
      Changes [.clock, .water, .heating, .channels] s t

/-- CYCLE_PHASE_CHANGE and FADE_STEP. A CYCLE channel goes to its off phase until B seconds of the period, or starts a period
with the A and B in force; a fade goes one level toward its target, and at a target of 0 the request ends (R65, R79, R80). -/
def Obligations.ChannelTimersAdvance : Prop :=
  ∀ (s : State) (ch : Fin 8) (e : Nat), (s.sw[ch].heater = true → s.ht.burner ≠ .firing) →
    (s.sw[ch].cycleTimer = some e →
      ∃ t, exec (.cyclePhaseChange ch) s = .next t ∧ t.now = max s.now e ∧
        (s.sw[ch].cycleOn = true →
          t.sw[ch].cycleOn = false ∧ t.sw[ch].cycleTimer = some (s.sw[ch].cycleStart + s.sw[ch].cycleB * 1000)) ∧
        (s.sw[ch].cycleOn = false →
          t.sw[ch].cycleOn = true ∧ t.sw[ch].cycleStart = max s.now e ∧ t.sw[ch].cycleB = s.sw[ch].b ∧
            t.sw[ch].cycleTimer = some (max s.now e + s.sw[ch].a * 1000)) ∧
        t.sw[ch].request = s.sw[ch].request ∧ OtherChannels ch s t ∧ Changes [.clock, .channels] s t) ∧
    (s.sw[ch].fadeTimer = some e →
      ∃ (t : State) (level : Nat), exec (.fadeStep ch) s = .next t ∧ t.now = max s.now e ∧
        level = (if s.sw[ch].current < s.sw[ch].target then s.sw[ch].current + 1 else s.sw[ch].current - 1) ∧
        t.sw[ch].current = level ∧ t.sw[ch].target = s.sw[ch].target ∧
        (level ≠ s.sw[ch].target →
          t.sw[ch].fadeTimer = some (max s.now e + s.sw[ch].fadeInterval) ∧ t.sw[ch].request = s.sw[ch].request) ∧
        (level = s.sw[ch].target →
          t.sw[ch].fadeTimer = none ∧
            t.sw[ch].request = (if s.sw[ch].target = 0 then false else s.sw[ch].request)) ∧
        OtherChannels ch s t ∧ Changes [.clock, .channels] s t)

/-- CHANNEL_TRIP and TRIP_COOLDOWN_END. A current above the threshold for 10 ms, twice the nominal or four times it within the
inrush blanking, of at least 0.5 A, turns the output off: TRIPPED for 5 s, or FAULT at the third trip within 60 s; after the
cooldown the channel is ON or HELD where its request is on, and OFF where it is not (R69 to R71, R73). That the 10 ms are one
command, and count from the turn-on at the earliest, is the model's choice (log entry 6). -/
def Obligations.OvercurrentTripsTheChannel : Prop :=
  (∀ (s : State) (ch : Fin 8) (run : TripRun) (at_ : Nat) (recent : List Nat), 0 < s.sw[ch].duty →
    (if s.sw[ch].blanking.isSome then 4 else 2) * max s.sw[ch].nominal 5 < run.current →
    (s.sw[ch].blanking = none → s.now < s.sw[ch].onSince + 210 → 4 * max s.sw[ch].nominal 5 < run.blanked) →
    at_ = max s.now (s.sw[ch].onSince + 10) → recent = s.sw[ch].trips.filter (fun x => at_ < x + 60000) →
    ∃ t, exec (.channelTrip ch run) s = .next t ∧ t.now = at_ ∧ t.sw[ch].duty = 0 ∧ t.sw[ch].trips = recent ++ [at_] ∧
      (recent.length < 2 → t.sw[ch].state = .tripped ∧ t.sw[ch].cooldown = some (at_ + 5000)) ∧
      (2 ≤ recent.length →
        t.sw[ch].state = .fault ∧ t.sw[ch].cooldown = none ∧ t.sw[ch].openLoad = false ∧
          (s.life.active = true → t.nc.flags.channelFault = true) ∧
          (s.sw[ch].heater = false →
            t.sw[ch].endTimer = none ∧ t.sw[ch].fadeTimer = none ∧ t.sw[ch].current = 0 ∧ t.sw[ch].cycleTimer = none ∧
              t.sw[ch].request = s.sw[ch].request)) ∧
      (recent.length < 2 ∨ s.sw[ch].fn ≠ .burnerFan → OtherChannels ch s t) ∧
      (recent.length < 2 ∨ (s.sw[ch].fn ≠ .burnerFan ∧ s.sw[ch].fn ≠ .dumpValve) → Changes [.clock, .channels] s t) ∧
      Changes [.clock, .channels, .water, .heating] s t) ∧
  ∀ (s : State) (ch : Fin 8) (e : Nat), s.life.active = true → s.sw[ch].state = .tripped → s.sw[ch].cooldown = some e →
    ∃ t, exec (.tripCooldownEnd ch) s = .next t ∧ t.now = max s.now e ∧ t.sw[ch].cooldown = none ∧
      ((t.sw[ch].state = .off ∧ (t.sw[ch].request = false ∨ t.sw[ch].fn = .none)) ∨
        (t.sw[ch].request = true ∧ (t.sw[ch].state = .on ∨ t.sw[ch].state = .held))) ∧
      (s.sw[ch].heater = false ∨ s.ht.burner ≠ .firing → t.sw[ch].core = s.sw[ch].core) ∧
      t.sw[ch].trips = s.sw[ch].trips ∧ OtherChannels ch s t ∧ Changes [.clock, .channels] s t

/-- INRUSH_BLANKING_END, TRIP_HISTORY_EXPIRY, OPEN_LOAD_DETECTED, and a current that is no trip: each touches its one mark of
the channel (R69, R71, R74). That the 2 s of an open load are one command, and count from the instant at which the output came
to duty 1023 at the earliest, is the model's choice (log entry 6). -/
def Obligations.ChannelMarksChangeAlone : Prop :=
  ∀ (s : State) (ch : Fin 8) (c : Channel), s.sw[ch] = c →
    (∀ e, c.blanking = some e →
      exec (.inrushBlankingEnd ch) s =
        .next { s with now := max s.now e, sw := s.sw.set ch.val { c with blanking := none } ch.isLt }) ∧
    (∀ x xs, c.trips = x :: xs → s.now ≤ x + 60000 → (∀ y ∈ xs, x < y) →
      exec (.tripHistoryExpiry ch) s =
        .next { s with now := x + 60000, sw := s.sw.set ch.val { c with trips := xs } ch.isLt }) ∧
    (∀ i, c.duty = 1023 → i < c.nominal / 8 →
      exec (.openLoadDetected ch i) s =
        .next { s with
          now := max s.now (c.fullSince + 2000), sw := s.sw.set ch.val { c with openLoad := true } ch.isLt }) ∧
    (∀ i, c.duty ≠ 1023 ∨ c.nominal / 8 ≤ i → exec (.openLoadDetected ch i) s = .next s) ∧
    (∀ run : TripRun,
      c.duty = 0 ∨ run.current ≤ (if c.blanking.isSome then 4 else 2) * max c.nominal 5 ∨
        (c.blanking = none ∧ s.now < c.onSince + 210 ∧ run.blanked ≤ 4 * max c.nominal 5) →
      exec (.channelTrip ch run) s = .next s)

/-- SCENE_RECEIVED. A valid scene number sets the target and the fade of every dimmable light that the scene lists and that
is not in FAULT, and becomes the last scene; every other channel stays as it was. At a listed level 0 the light fades to 0 at the
scene's interval and its request ends there, at once without a fade or in TRIPPED (R70, R79, R80, R82; log entries 11, 34). -/
def Obligations.SceneSetsTheLights : Prop :=
  ∀ (s : State) (src tgt : Addr) (pr : Fin 8) (b : Byte) (k : Fin 8), Handles src tgt s → s.life ≠ .commissioning →
    b.toNat = k.val + 1 →
    ∃ t, exec (.sceneReceived src tgt (sent pr kindScene src tgt [b])) s = .next t ∧ Heard false s t ∧
      t.light = { s.light with lastScene := k.val + 1 } ∧
      (∀ i : Fin 8, ∀ level, level = s.light.scenes[k].levels[i] →
        (level = 255 ∨ s.sw[i].fn ≠ .light ∨ s.sw[i].dimmable = false ∨ s.sw[i].state = .fault →
          s.sw[i].Kept (s.ht.burner = .firing) t.sw[i]) ∧
        (level ≠ 255 → s.sw[i].fn = .light → s.sw[i].dimmable = true → s.sw[i].state ≠ .fault →
          t.sw[i].target = level ∧ t.sw[i].endTimer = none ∧ t.sw[i].record = s.sw[i].record ∧
            (0 < level → t.sw[i].request = true) ∧
            (level = 0 → s.sw[i].state = .tripped → t.sw[i].request = false) ∧
            (level = 0 → 0 < s.sw[i].current → s.sw[i].target ≠ 0 ∨ s.sw[i].fadeTimer = none →
              0 < s.light.scenes[k].fade →
              t.sw[i].fadeTimer = some (s.now + s.light.scenes[k].fade) ∧
                t.sw[i].fadeInterval = s.light.scenes[k].fade ∧ t.sw[i].current = s.sw[i].current ∧
                (s.sw[i].state ≠ .tripped → t.sw[i].request = s.sw[i].request)) ∧
            (level = 0 → s.sw[i].target ≠ 0 ∨ s.sw[i].fadeTimer = none →
              s.light.scenes[k].fade = 0 ∨ s.sw[i].current = 0 →
              t.sw[i].current = 0 ∧ t.sw[i].fadeTimer = none ∧ t.sw[i].request = false ∧ t.sw[i].duty = 0 ∧
                t.sw[i].state = if s.sw[i].state = .tripped then .tripped else .off) ∧
            (0 < level → level ≠ s.sw[i].target → level ≠ s.sw[i].current →
              (0 < s.light.scenes[k].fade →
                t.sw[i].fadeTimer = some (s.now + s.light.scenes[k].fade) ∧ t.sw[i].current = s.sw[i].current) ∧
              (s.light.scenes[k].fade = 0 → t.sw[i].current = level)))) ∧
      Changes [.light, .channels, .link] s t

/-! ### Drives (05) -/

/-- HALL_PULSE. A pulse moves the position one step the way the drive travels or is being braked, within 0 to travel_pulses,
and restarts the 500 ms watch while the bridge drives; in every other state it changes nothing (R86, R87). -/
def Obligations.HallPulseMovesThePosition : Prop :=
  ∀ (s : State) (i : DriveId),
    ∃ t, exec (.hallPulse i) s = .next t ∧ t = { s with ma := t.ma, mb := t.mb } ∧ (∀ j, j ≠ i → t.drive j = s.drive j) ∧
      ∀ d, d = s.drive i →
        (d.state = .extending →
          t.drive i = { d with
            position := min d.travelPulses (d.position + 1), pulseWatch := some (s.now + 500) }) ∧
        (d.state = .retracting →
          t.drive i = { d with position := d.position - 1, pulseWatch := some (s.now + 500) }) ∧
        (d.state = .braking → d.braked = some .extend →
          t.drive i = { d with position := min d.travelPulses (d.position + 1) }) ∧
        (d.state = .braking → d.braked = some .retract → t.drive i = { d with position := d.position - 1 }) ∧
        (d.state ≠ .extending → d.state ≠ .retracting → d.state ≠ .braking → t.drive i = d)

/-- DRIVE_STALL, DRIVE_OVERCURRENT and TRAVEL_TIMER_EXPIRY. By a current above the stall current or by 500 ms without a pulse
the travel ends: at its end of travel inside the end window, or anywhere in a homing retraction; else in JAMMED with the
position kept. A current above twice the stall current, or the end of the travel timer, turns the bridge off: JAMMED, no forced
cause, every timer of the drive stopped (R87 to R90). -/
def Obligations.TravelsEndWhereTheyMay : Prop :=
  (∀ (s : State) (i : DriveId) (cause : StallCause) (at_ : Nat) (d : Drive), LifeSound s → s.life.active = true →
    d = s.drive i → (d.state = .extending ∨ d.state = .retracting) →
    ((∃ c, cause = .current c ∧ d.stall < c ∧ at_ = s.now) ∨
      (∃ w, cause = .noPulse ∧ d.pulseWatch = some w ∧ at_ = max s.now w)) →
    ∃ t, exec (.driveStall i cause) s = .next t ∧ t.now = at_ ∧
      (d.state = .retracting → d.homing = true ∨ d.position ≤ max 4 (d.travelPulses / 20) →
        (t.drive i).state = .retracted ∧ (t.drive i).position = 0 ∧ (t.drive i).jam = false ∧
          (t.drive i).homing = false ∧ (t.drive i).forced = none ∧ (t.drive i).travelTimer = none) ∧
      (d.state = .extending → d.travelPulses ≤ d.position + max 4 (d.travelPulses / 20) →
        (t.drive i).position = d.travelPulses ∧ (t.drive i).jam = d.jam ∧
          (forcedCauseOf d.fn s.interlock = none →
            (t.drive i).state = .extended ∧ (t.drive i).forced = none ∧ (t.drive i).travelTimer = none)) ∧
      ((d.state = .retracting ∧ d.homing = false ∧ max 4 (d.travelPulses / 20) < d.position) ∨
          (d.state = .extending ∧ d.position + max 4 (d.travelPulses / 20) < d.travelPulses) →
        (t.drive i).state = .jammed ∧ (t.drive i).jam = true ∧ (t.drive i).position = d.position ∧
          (t.drive i).forced = none ∧ t.nc.flags.channelFault = true) ∧
      (∀ j, j ≠ i → (t.drive j).record = (s.drive j).record) ∧ OtherDrive i s t ∧
      Changes [.clock, .driveRecords, .drives] s t) ∧
  ∀ (s : State) (i : DriveId) (c : Instr) (at_ : Nat) (d : Drive), LifeSound s → s.life.active = true → d = s.drive i →
    (d.state = .extending ∨ d.state = .retracting) →
    ((∃ x, c = .driveOvercurrent i x ∧ 2 * d.stall < x ∧ at_ = s.now) ∨
      (∃ w, c = .travelTimerExpiry i ∧ d.travelTimer = some w ∧ at_ = max s.now w)) →
    ∃ t, exec c s = .next t ∧ t.now = at_ ∧ (t.drive i).state = .jammed ∧ (t.drive i).jam = true ∧
      (t.drive i).bridge = .off ∧ (t.drive i).position = d.position ∧ (t.drive i).forced = none ∧
      (t.drive i).homing = false ∧ (t.drive i).direction = none ∧ (t.drive i).travelTimer = none ∧
      (t.drive i).brakeTimer = none ∧ (t.drive i).grantTimer = none ∧ t.nc.flags.channelFault = true ∧
      (∀ j, j ≠ i → (t.drive j).record = (s.drive j).record) ∧ OtherDrive i s t ∧
      Changes [.clock, .driveRecords, .drives] s t

/-- BRAKE_TIMER_EXPIRY. The drive enters the new direction for a full travel time; without one, or where the interlock now
refuses an extension, it is PARKED and its forced causes decide (R89, R96, R100). -/
def Obligations.BrakingEndsInItsDirection : Prop :=
  ∀ (s : State) (i : DriveId) (w at_ : Nat) (d : Drive), LifeSound s → d = s.drive i → d.state = .braking →
    d.brakeTimer = some w → at_ = max s.now w →
    ∃ t, exec (.brakeTimerExpiry i) s = .next t ∧ t.now = at_ ∧
      (d.direction = some .retract →
        (t.drive i).state = .retracting ∧ (t.drive i).forced = d.forced ∧
          (t.drive i).travelTimer = some (at_ + d.travelTime * 150) ∧ (t.drive i).pulseWatch = some (at_ + 500)) ∧
      (d.direction = some .extend → extendRefusal d.fn s.interlock = none →
        (t.drive i).state = .extending ∧ (t.drive i).travelTimer = some (at_ + d.travelTime * 150) ∧
          (t.drive i).pulseWatch = some (at_ + 500)) ∧
      (d.direction = none ∨ (d.direction = some .extend ∧ extendRefusal d.fn s.interlock ≠ none) →
        forcedCauseOf d.fn s.interlock = none → (t.drive i).state = .parked ∧ (t.drive i).travelTimer = none) ∧
      (d.direction = none ∨ (d.direction = some .extend ∧ extendRefusal d.fn s.interlock ≠ none) →
        ∀ c, forcedCauseOf d.fn s.interlock = some c → d.forced = none → s.life = .run ∨ s.life = .listenOnly →
          (t.drive i).state = .retracting ∧ (t.drive i).forced = some c ∧
            (t.drive i).travelTimer = some (at_ + d.travelTime * 150)) ∧
      OtherDrive i s t ∧ Changes [.clock, .drives] s t

/-- GRANT_WAIT_TIMER_EXPIRY. A wait without a grant for 5 s ends where it began, its answer REFUSED_LOW_POWER, and the drive
leaves the grant list; a forced cause that applies there starts its retraction (R54, R92, R100, R101). -/
def Obligations.WaitEndsAtItsOrigin : Prop :=
  ∀ (s : State) (i : DriveId) (w : Nat) (d : Drive) (o : DriveState), LifeSound s → d = s.drive i →
    d.state = .waitGrant → d.grantTimer = some w → d.origin = some o → d.forced = none →
    (o = .retracted ∨ o = .extended ∨ o = .parked ∨ o = .unknown ∨ o = .jammed) →
    ∃ t, exec (.grantWaitTimerExpiry i) s = .next t ∧ t.now = max s.now w ∧ (∀ g ∈ t.lb.grants, g.drive ≠ i) ∧
      (o = .retracted ∨ o = .jammed ∨ forcedCauseOf d.fn s.interlock = none →
        (t.drive i).state = o ∧ (t.drive i).direction = none ∧ (t.drive i).grantTimer = none) ∧
      (o = .extended ∨ o = .parked ∨ o = .unknown →
        ∀ c, forcedCauseOf d.fn s.interlock = some c → s.life = .run ∨ s.life = .listenOnly →
          (t.drive i).state = .retracting ∧ (t.drive i).forced = some c ∧
            ((t.drive i).homing = true ↔ o = .unknown)) ∧
      (∀ r, d.slot = .waiting r → s.fifoHasRoom = true → Replied (some r) .refusedLowPower s t) ∧
      OtherDrive i s t ∧ Changes [.clock, .drives] s t

/-! ### Inputs, gusts and the Travel line (05, 11) -/

/-- GUST_WINDOW_END, GUST_LOCKOUT_EXPIRY and ANEMOMETER_PULSE. A window of 3 s gives the speed; a gust at the threshold starts
the lockout, during which wind is set in the view; pulses of a routed anemometer count (R98, R103). That
the route at the window's end decides after a ROUTE record is the model's choice (log entry 52). -/
def Obligations.GustsLockTheAwning : Prop :=
  ∀ s : State, s.life.active = true →
    (∀ e, s.gust.windowEnd = some e →
      ∃ (t : State) (v : Nat), exec .gustWindowEnd s = .next t ∧ t.now = max s.now e ∧
        v = (if s.routed .anemometer then min 65535 (s.gust.pulses * s.gust.kWind) else 0) ∧
        t.gust = { s.gust with
          speed := v, pulses := 0, windowEnd := some (max s.now e + 3000),
          lockout := if s.gust.threshold ≤ v then some (max s.now e + s.gust.lockoutTime * 1000) else s.gust.lockout } ∧
        t.interlock = t.interlockNow ∧ (s.gust.threshold ≤ v → t.interlock.wind = true ∧ t.nc.flags.wind = true) ∧
        Changes [.clock, .gust, .interlock, .drives] s t) ∧
    (∀ e, s.gust.lockout = some e →
      ∃ t, exec .gustLockoutExpiry s = .next t ∧ t.now = max s.now e ∧ t.gust = { s.gust with lockout := none } ∧
        t.interlock = t.interlockNow ∧ (t.interlock.wind = true ↔ s.peerFlag (·.wind) = true) ∧
        t.nc.flags.wind = false ∧ Changes [.clock, .gust, .interlock, .drives] s t) ∧
    (s.routed .anemometer = true →
      exec .anemometerPulse s = .next { s with gust := { s.gust with pulses := s.gust.pulses + 1 } }) ∧
    (s.routed .anemometer = false → exec .anemometerPulse s = .next s)

/-- DEBOUNCED_INPUT_CHANGE, SPEED_PULSE, SPEED_TIMEOUT and SFE_SAMPLE. An input that changes changes the interlock view at
once; a SPEED input is active for 2 s from each pulse; an own IGNITION or SPEED that becomes active wakes a DORMANT node,
which raises WAKE_OUT, and raises it in RUN only for a node that another cause woke at the same instant. A thermistor's sample is
the temperature that the beta relation gives its resistance of r mΩ, in whole tenths and clamped; the reading of a function is the
floored mean of the filter of the lowest input that its routes name, and invalid without one or with an empty filter (R98, R174,
R180, R183 to R185). That commands at one value of the clock are of one instant is the model's choice (log entry 49). -/
def Obligations.InputsReachTheView : Prop :=
  ∀ s : State, s.life.active = true →
    (∀ (i : Fin 4) (b : Bool), s.sfe.inputs[i] ≠ b →
      ∃ t, exec (.debouncedInputChange i b) s = .next t ∧
        t.sfe = { s.sfe with inputs := s.sfe.inputs.set i.val b i.isLt } ∧ t.interlock = t.interlockNow ∧
        (t.ignitionActive = true → t.interlock.driveActive = true ∧ t.nc.flags.drive = true) ∧
        (t.ignitionActive = true → s.ignitionActive = false →
          s.life = .dormant ∨ (s.life = .run ∧ s.nc.quietWake = some s.now) →
          t.life = .run ∧ t.ts.pending.wakeOut = true) ∧
        (s.life = .run → s.nc.quietWake ≠ some s.now → t.ts.pending.wakeOut = s.ts.pending.wakeOut) ∧
        Changes [.sensors, .interlock, .drives] s t) ∧
    (s.routed .speed = true →
      ∃ t, exec .speedPulse s = .next t ∧ t.sfe = { s.sfe with speedTimer := some (s.now + 2000) } ∧
        t.interlock = t.interlockNow ∧ t.interlock.driveActive = true ∧ t.nc.flags.drive = true ∧
        (s.sfe.speedTimer = none → s.life = .dormant ∨ (s.life = .run ∧ s.nc.quietWake = some s.now) →
          t.life = .run ∧ t.ts.pending.wakeOut = true) ∧
        (s.life = .run → s.nc.quietWake ≠ some s.now → t.ts.pending.wakeOut = s.ts.pending.wakeOut) ∧
        Changes [.sensors, .interlock, .drives] s t) ∧
    (∀ e, s.sfe.speedTimer = some e →
      ∃ t, exec .speedTimeout s = .next t ∧ t.now = max s.now e ∧ t.sfe = { s.sfe with speedTimer := none } ∧
        t.interlock = t.interlockNow ∧ t.speedActive = false ∧
        Changes [.clock, .sensors, .interlock, .drives] s t) ∧
    (∀ (a : Analog) (e : Nat), s.sfe.next = some e →
      ∃ t, exec (.sfeSample a) s = .next t ∧
        t = { s with
          now := max s.now e
          sfe := { s.sfe with temps := t.sfe.temps, levels := t.sfe.levels, next := some (max s.now e + 100) } } ∧
        (∀ (k : Fin 4) (r : Nat), r = [a.t1, a.t2, a.t3, a.t4][k] →
          (r < 80000 ∨ 1200000000 < r → t.sfe.temps[k] = []) ∧
          (80000 ≤ r → r ≤ 1200000000 →
            t.sfe.temps[k] = (if s.sfe.temps[k].length < 10 then s.sfe.temps[k] else s.sfe.temps[k].drop 1) ++
              [max (-400) (min 850 ⌊10 * (1 / (1 / 298.15 + Real.log (r / 10 ^ 7) / 3950) - 273.15 : ℝ)⌋)])) ∧
        ∀ (k : Fin 2) (r : Nat), r = [a.l1, a.l2][k] →
          (r < 1000 ∨ 300000 < r → t.sfe.levels[k] = []) ∧
          (1000 ≤ r → r ≤ 300000 →
            t.sfe.levels[k] = (if s.sfe.levels[k].length < 10 then s.sfe.levels[k] else s.sfe.levels[k].drop 1) ++ [(min 250 (r / 1000) : Int)])) ∧
    (∀ (fn : RouteFn) (j : Fin 12) (xs : List Int), s.sfe.routes[j] = fn → (∀ i < j, s.sfe.routes[i] ≠ fn) →
      (∀ k : Fin 4, j.val = 6 + k.val → xs = s.sfe.temps[k] →
        (xs = [] → s.temperature fn = none) ∧ (xs ≠ [] → s.temperature fn = some (xs.sum / xs.length))) ∧
      (∀ k : Fin 2, j.val = 10 + k.val → xs = s.sfe.levels[k] →
        (xs = [] → s.level fn = none) ∧ (xs ≠ [] → s.level fn = some (xs.sum / xs.length)))) ∧
    ∀ fn : RouteFn, (∀ i : Fin 12, s.sfe.routes[i] ≠ fn) → s.temperature fn = none ∧ s.level fn = none

/-- TRV_READING_CHANGE. The reading goes into the view at once; an asserted line wakes a DORMANT node, and it forces a drive
that stands EXTENDED or PARKED into a retraction without a grant (R98, R100, R101, R106, R180). -/
def Obligations.TravelLineForcesRetraction : Prop :=
  ∀ s : State, s.life.active = true →
    (s.trv.reading = false →
      ∃ t, exec (.trvReadingChange true) s = .next t ∧ t.trv = { s.trv with reading := true } ∧
        t.interlock = t.interlockNow ∧ t.interlock.driveActive = true ∧ t.interlock.sourceKnown = true ∧
        (s.life = .dormant → t.life = .run) ∧ (s.life ≠ .dormant → t.life = s.life) ∧
        (s.life = .run ∨ s.life = .listenOnly → s.interlock.driveActive = false →
          ∀ i, (s.drive i).fn ≠ .none → (s.drive i).forced = none →
            (s.drive i).state = .extended ∨ (s.drive i).state = .parked →
            (t.drive i).state = .retracting ∧ (t.drive i).forced = some .drive ∧ (t.drive i).homing = false ∧
              (t.drive i).travelTimer = some (s.now + (s.drive i).travelTime * 150)) ∧
        Changes [.travelLine, .interlock, .drives] s t) ∧
    (s.trv.reading = true → s.trvDriven = false →
      ∃ t, exec (.trvReadingChange false) s = .next t ∧ t.trv = { s.trv with reading := false } ∧
        t.interlock = t.interlockNow ∧ Changes [.travelLine, .interlock, .drives] s t)

/-! ### Water and frost (06) -/

/-- WF_EVALUATION. Valid readings are converted to percent by the calibration and the level flags follow with their hysteresis; WF
holds its part of SENSOR_FAULT exactly after it finds a routed level or the temperature of an existing guard invalid; each guard heats at or below
frost_on until frost_off, and without a temperature; a fresh tank at dump_temp or below that holds water, or may, waits for the
dump while it stays within 0.5 °C of dump_temp, and a dumped one stays so; the heaters follow the guards (R110 to R112, R118 to
R121, R123, R125). -/
def Obligations.WaterEvaluates : Prop :=
  ∀ (s : State) (e : Nat), s.life.active = true → s.wf.next = some e →
    ∃ t, exec .wfEvaluation s = .next t ∧ t.now = max s.now e ∧ t.wf.next = some (max s.now e + 1000) ∧
      t.wf.params = s.wf.params ∧ t.wf.volume = s.wf.volume ∧
      (t.wf.sensorPart = true ↔
        (s.routed .freshLevel = true ∧ s.level .freshLevel = none) ∨ (s.routed .greyLevel = true ∧ s.level .greyLevel = none) ∨
          ∃ (i : Fin 8) (tank : Nat) (fn : RouteFn), (tank, fn) ∈ [(1, .freshT), (2, .greyT)] ∧ s.sw[i].fn = .tankHeat ∧
            s.sw[i].inst = tank ∧ s.temperature fn = none) ∧
      (∀ (r : Int) (pc : Nat), s.routed .freshLevel = true → s.level .freshLevel = some r →
        (pc : Int) = max 0 (min 100
          ((r - s.wf.params.freshREmpty) * 100 / (s.wf.params.freshRFull - s.wf.params.freshREmpty : Int))) →
        t.wf.freshPercent = some pc ∧
          t.wf.freshEmpty = (if pc ≤ 3 then true else if 6 ≤ pc then false else s.wf.freshEmpty)) ∧
      (∀ (r : Int) (pc : Nat), s.routed .greyLevel = true → s.level .greyLevel = some r →
        (pc : Int) = max 0 (min 100
          ((r - s.wf.params.greyREmpty) * 100 / (s.wf.params.greyRFull - s.wf.params.greyREmpty : Int))) →
        t.wf.greyPercent = some pc ∧
          t.wf.greyFull = (if 90 ≤ pc then true else if pc ≤ 85 then false else s.wf.greyFull)) ∧
      (s.routed .freshLevel = true → s.level .freshLevel = none →
        t.wf.freshPercent = s.wf.freshPercent ∧ t.wf.freshEmpty = s.wf.freshEmpty) ∧
      (s.routed .freshLevel = false → t.wf.freshPercent = none ∧ t.wf.freshEmpty = false) ∧
      (s.routed .greyLevel = true → s.level .greyLevel = none →
        t.wf.greyPercent = s.wf.greyPercent ∧ t.wf.greyFull = s.wf.greyFull) ∧
      (s.routed .greyLevel = false → t.wf.greyPercent = none ∧ t.wf.greyFull = false) ∧
      (s.nc.started = false ∨ s.guardExists 1 = false → t.wf.fresh = s.wf.fresh ∧ t.wf.dumpTimer = s.wf.dumpTimer) ∧
      (s.nc.started = false ∨ s.guardExists 2 = false → t.wf.grey = s.wf.grey) ∧
      (s.nc.started = true → s.guardExists 1 = true →
        FreshGuardMoves (max s.now e) s t ∧ HeaterFollows 1 s.wf.fresh t.wf.fresh s t) ∧
      (s.nc.started = true → s.guardExists 2 = true →
        (s.temperature .greyT = none → s.wf.grey = .idle ∨ s.wf.grey = .heating → t.wf.grey = .heating) ∧
        (∀ x, s.temperature .greyT = some x →
          (s.wf.grey = .idle → t.wf.grey = if x ≤ s.wf.params.frostOn then .heating else .idle) ∧
          (s.wf.grey = .heating → t.wf.grey = if s.wf.params.frostOff ≤ x then .idle else .heating)) ∧
        HeaterFollows 2 s.wf.grey t.wf.grey s t) ∧
      (t.nc.flags.frost = true ↔
        t.wf.fresh = .heating ∨ t.wf.fresh = .dumpPending ∨ t.wf.grey = .heating ∨ t.wf.grey = .dumpPending) ∧
      (∀ i : Fin 8, s.sw[i].fn ≠ .tankHeat → s.sw[i].Kept (s.ht.burner = .firing) t.sw[i]) ∧
      Changes [.clock, .water, .channels] s t

/-- FLOW_PULSE, DRY_TIMER_EXPIRY and DUMP_TIMER_EXPIRY. Over any run of pulses the volume rises by floor of pulses times 100
over ppl, the fraction carried, and stops at its limit; each pulse restarts the running dry timers of PUMP channels. A pump that
runs dry is in FAULT. The dump drives every valve, exempt, for 20 s, ends the fresh heating, and the guard is DUMPED (R71, R113,
R116, R117, R122). -/
def Obligations.PulsesDryRunsAndDumps : Prop :=
  ((∀ s : State, s.life.active = true → s.routed .flow = true → 0 < s.wf.params.ppl →
    ∃ t, exec .flowPulse s = .next t ∧ t = { s with wf := t.wf, sw := t.sw } ∧
      t.wf = { s.wf with
        volume := min 9999999 (s.wf.volume + (s.wf.remainder + 100) / s.wf.params.ppl),
        remainder := (s.wf.remainder + 100) % s.wf.params.ppl } ∧
      ∀ i : Fin 8,
        (s.sw[i].fn = .pump → t.sw[i] = { s.sw[i] with dry := s.sw[i].dry.map fun _ => s.now + 15000 }) ∧
        (s.sw[i].fn ≠ .pump → t.sw[i] = s.sw[i])) ∧
  (∀ (n : Nat) (w : WaterFrost), 0 < w.params.ppl → w.remainder < w.params.ppl →
    w.volume + (w.remainder + n * 100) / w.params.ppl ≤ 9999999 →
    ((List.range n).foldl (fun (w : WaterFrost) _ => w.convertPulses (w.remainder + 100)) w).volume =
        w.volume + (w.remainder + n * 100) / w.params.ppl ∧
      ((List.range n).foldl (fun (w : WaterFrost) _ => w.convertPulses (w.remainder + 100)) w).remainder =
        (w.remainder + n * 100) % w.params.ppl)) ∧
  ∀ s : State, s.life.active = true →
    (∀ (ch : Fin 8) (e : Nat), s.sw[ch].fn = .pump → s.sw[ch].dry = some e →
      ∃ t, exec (.dryTimerExpiry ch) s = .next t ∧ t.now = max s.now e ∧ t.sw[ch].state = .fault ∧
        t.sw[ch].endTimer = none ∧ t.sw[ch].trips = s.sw[ch].trips ∧ t.wf.locks.fault = true ∧
        t.nc.flags.channelFault = true ∧ OtherChannels ch s t ∧ Changes [.clock, .channels] s t) ∧
    (∀ e, s.wf.fresh = .dumpPending → s.wf.dumpTimer = some e →
      ∃ t, exec .dumpTimerExpiry s = .next t ∧ t.now = max s.now e ∧ t.wf.fresh = .dumped ∧ t.wf.dumpTimer = none ∧
        t.nc.flags.dumped = true ∧ t.wf.locks.dumped = true ∧
        (∀ i : Fin 8, s.sw[i].fn = .dumpValve →
          t.sw[i].request = true ∧ (s.sw[i].state ≠ .fault →
            t.sw[i].exempt = true ∧ t.sw[i].endTimer = some (max s.now e + 20000) ∧ t.wf.valveRun = true)) ∧
        (∀ i : Fin 8, s.sw[i].fn = .tankHeat → s.sw[i].inst = 1 → t.sw[i].request = false) ∧
        (∀ i : Fin 8, s.sw[i].fn ≠ .dumpValve → ¬ (s.sw[i].fn = .tankHeat ∧ s.sw[i].inst = 1) →
          s.sw[i].Kept (s.ht.burner = .firing) t.sw[i]) ∧
        Changes [.clock, .water, .channels] s t)

/-! ### Heating (07) -/

/-- HT_EVALUATION. The cabin source is the local input, else the lowest-addressed peer that holds a reading; normal demand and
frost hold follow their hysteresis; a burner in OFF with a demand fires, and a fired one without demand goes out after its
minimum on time; one with a demand, or within its minimum on time with a source, stays lit where the budget allows it, and a waiting
one gives up where a burner or fan is in FAULT (R129 to R135). -/
def Obligations.HeatingEvaluates : Prop :=
  ∀ (s : State) (e : Nat), s.life.active = true → s.nc.started = true → s.ht.next = some e →
    s.hasChannel .burner = true →
    ∃ t, exec .htEvaluation s = .next t ∧ t.now = max s.now e ∧ t.ht.next = some (max s.now e + 1000) ∧
      t.ht.heaterEnabled = s.ht.heaterEnabled ∧ t.ht.frostHoldEnabled = s.ht.frostHoldEnabled ∧
      t.ht.setpoint = s.ht.setpoint ∧ t.ht.params = s.ht.params ∧
      (∀ x, s.temperature .cabinT = some x → t.ht.source = .localInput ∧ t.ht.tCab = some x) ∧
      (s.temperature .cabinT = none → (∀ p ∈ s.pt.entries, p.cabin = none) →
        t.ht.source = .none ∧ t.ht.tCab = none ∧ t.ht.sensorPart = true ∧ t.ht.normalDemand = false ∧
          t.ht.frostHold = false) ∧
      (s.temperature .cabinT = none → (∃ p ∈ s.pt.entries, p.cabin ≠ none) → t.ht.source = .peer ∧
        ∃ p ∈ s.pt.entries, ∃ r, p.cabin = some r ∧ t.ht.tCab = some r.value ∧
          ∀ q ∈ s.pt.entries, q.cabin ≠ none → p.addr ≤ q.addr) ∧
      (∀ x, t.ht.tCab = some x →
        t.ht.sensorPart = false ∧
        (s.ht.heaterEnabled = false ∨ s.life = .dormant → t.ht.normalDemand = false) ∧
        (s.ht.heaterEnabled = true → s.life ≠ .dormant →
          t.ht.normalDemand =
            if x < s.ht.setpoint - s.ht.params.hyst then true
            else if s.ht.setpoint + s.ht.params.hyst ≤ x then false else s.ht.normalDemand) ∧
        (s.ht.frostHoldEnabled = false → t.ht.frostHold = false) ∧
        (s.ht.frostHoldEnabled = true →
          t.ht.frostHold =
            if x < s.ht.params.frostFloor then true
            else if s.ht.params.frostFloor + 20 ≤ x then false else s.ht.frostHold)) ∧
      (s.ht.burner = .off → t.demand = false ∨ s.hasChannel .burnerFan = false ∨ s.heaterFaulted = true →
        t.ht.burner = .off) ∧
      (s.ht.burner = .off → t.demand = true → s.hasChannel .burnerFan = true → s.heaterFaulted = false →
        t.ht.burner = .firing ∨ t.ht.burner = .runOn) ∧
      (s.ht.burner = .firing → s.ht.lit = true → (t.ht.source = .none ∨ (t.demand = false ∧ s.ht.minimumOn = none)) →
        t.ht.burner = .runOn ∧ t.ht.lit = false ∧ t.ht.rest = some (max s.now e + 180000) ∧
          ∀ i : Fin 8, s.sw[i].fn = .burnerFan →
            t.sw[i].request = true ∧ t.sw[i].exempt = true ∧ t.sw[i].givenClass = some 0 ∧
              t.sw[i].endTimer = some (max s.now e + 120000)) ∧
      (s.ht.burner = .firing → s.ht.lit = true → t.ht.source ≠ .none → t.demand = true ∨ s.ht.minimumOn ≠ none →
        ShedSound s → BurnerAllowed (fun _ => t.burnerClass) s t → BurnerLit t ∧ t.ht.minimumOn = s.ht.minimumOn) ∧
      (s.ht.burner = .firing → s.ht.lit = false → t.demand = true →
        (s.heaterFaulted = true → t.ht.burner = .off) ∧
        (s.heaterFaulted = false → t.ht.burner = .firing ∨ t.ht.burner = .runOn)) ∧
      (s.ht.burner = .firing → s.ht.lit = false → t.demand = false → t.ht.burner = .off ∧
        ∀ i : Fin 8, s.sw[i].heater = true → t.sw[i].request = false) ∧
      (s.ht.burner = .runOn ∨ s.ht.burner = .rest → t.ht.burner = s.ht.burner) ∧
      (∀ i : Fin 8, s.sw[i].heater = false → s.sw[i].Kept True t.sw[i]) ∧
      Changes [.clock, .heating, .channels] s t

/-- MINIMUM_ON_TIMER_EXPIRY and REST_TIMER_EXPIRY. A lit burner whose demand is clear goes out at the end of its minimum on
time, and with a demand it stays lit where the budget allows it; the rest ends in OFF, and where a demand is left, a fan exists and
no burner or fan is in FAULT, the burner fires at once, else it stays OFF (R133, R135, R137). -/
def Obligations.BurnerTimersEnd : Prop :=
  ∀ (s : State) (e : Nat),
    (s.ht.minimumOn = some e → s.ht.burner = .firing → s.ht.lit = true → s.demand = false →
      ∃ t, exec .minimumOnTimerExpiry s = .next t ∧ t.now = max s.now e ∧ t.ht.burner = .runOn ∧ t.ht.lit = false ∧
        t.ht.minimumOn = none ∧ t.ht.rest = some (max s.now e + 180000) ∧
        (∀ i : Fin 8, s.sw[i].fn = .burner → t.sw[i].request = false ∧ t.sw[i].givenClass = none) ∧
        (∀ i : Fin 8, s.sw[i].fn = .burnerFan →
          t.sw[i].request = true ∧ t.sw[i].exempt = true ∧ t.sw[i].endTimer = some (max s.now e + 120000)) ∧
        (∀ i : Fin 8, s.sw[i].heater = false → s.sw[i].Kept True t.sw[i]) ∧
        Changes [.clock, .heating, .channels] s t) ∧
    (s.ht.minimumOn = some e → s.ht.burner ≠ .firing ∨ s.ht.lit = false ∨ s.demand = true →
      ∃ t, exec .minimumOnTimerExpiry s = .next t ∧ t.now = max s.now e ∧
        (s.ht.burner ≠ .firing → t.ht = { s.ht with minimumOn := none }) ∧
        (s.ht.burner = .firing → s.ht.lit = true → ShedSound s → BurnerAllowed (fun i => s.sw[i].classUsed) s t →
          BurnerLit t ∧ t.ht = { s.ht with minimumOn := none }) ∧
        (∀ i : Fin 8, s.sw[i].Kept (s.ht.burner = .firing) t.sw[i]) ∧ Changes [.clock, .heating, .channels] s t) ∧
    (s.ht.burner ≠ .rest → exec .restTimerExpiry s = .next s) ∧
    (s.ht.rest = some e → s.ht.burner = .rest →
      s.demand = false ∨ s.hasChannel .burnerFan = false ∨ s.heaterFaulted = true →
      ∃ t, exec .restTimerExpiry s = .next t ∧ t.now = max s.now e ∧
        t.ht = { s.ht with burner := .off, rest := none } ∧
        (∀ i : Fin 8, s.sw[i].Kept False t.sw[i]) ∧ Changes [.clock, .heating, .channels] s t) ∧
    (s.ht.rest = some e → s.ht.burner = .rest → s.demand = true → s.hasChannel .burnerFan = true →
      s.heaterFaulted = false →
      ∃ t, exec .restTimerExpiry s = .next t ∧ t.now = max s.now e ∧ (t.ht.burner = .firing ∨ t.ht.burner = .runOn) ∧
        (∀ i : Fin 8, s.sw[i].heater = true → t.sw[i].trips = s.sw[i].trips) ∧
        (∀ i : Fin 8, s.sw[i].heater = false → s.sw[i].Kept True t.sw[i]) ∧
        Changes [.clock, .heating, .channels] s t)

/-! ### Receiving (09) -/

/-- LINK_IDLE, BREAK_DETECTED, FRAMING_ERROR, MALFORMED_LENGTH and TELEGRAM_BAD_CHECK. Idle synchronises the receiver; a break, a
framing error and a malformed length leave it discarding until then; a bad check is counted, up to 65,535. A telegram of any
kind is read no further where its length is above 12, and counted as bad where its check is not the CRC-8 of its bytes (R151 to
R153). That the node's own break ends with the idle after it is the model's choice (log entry 39). -/
def Obligations.ReceiverFollowsTheLine : Prop :=
  ∀ s : State,
    (s.life.active = true → s.sending = false →
      exec .linkIdle s =
        .next { s with lc := { s.lc with synchronised := true, idle := true, rx := .ready, breaking := false } } ∧
      exec .breakDetected s = .next { s with lc := { s.lc with rx := .discarding, idle := false } }) ∧
    (s.receivable = true →
      exec .framingError s = .next { s with lc := { s.lc with rx := .discarding, idle := false } } ∧
      exec .malformedLength s = .next { s with lc := { s.lc with rx := .discarding, idle := false } } ∧
      exec .telegramBadCheck s =
        .next { s with lc := { s.lc with
          rx := .ready, idle := false, heardSlot := false, takenSlot := false,
          badChecks := min 65535 (s.lc.badChecks + 1) } } ∧
      ∀ (src tgt : Addr) (kind : Fin 8) (a : Arrival) (c : Instr),
        c = .telegramForOtherStation ⟨src, tgt, kind, a⟩ ∨
          (kind.val, c) ∈
            [(0, .wakeReceived src tgt a), (1, .batteryReceived src tgt a), (2, .stateReceived src tgt a),
             (3, .answerReceived src tgt a), (4, .operateReceived src tgt a), (5, .sceneReceived src tgt a),
             (6, .settingsReceived src tgt a), (7, .measureReceived src tgt a)] →
        (12 < a.payload.length → exec c s = exec .malformedLength s) ∧
        (a.payload.length ≤ 12 → crc8 (telegramBody a.priority kind src tgt a.payload) ≠ a.check →
          exec c s = exec .telegramBadCheck s))

/-- A good telegram that carries the node's own address is a clash, whatever its kind and target: CLASH is set, no slot is
driven, no entry is made, and a node in RUN or DORMANT enters LISTEN_ONLY and sends nothing more (R31, R157, R160, R181). -/
def Obligations.OwnAddressIsAClash : Prop :=
  ∀ (s : State) (own tgt : Addr) (pr kind : Fin 8) (p : List Byte) (c : Instr), s.receivable = true →
    s.ownAddr = some own → own ≠ 0 → own ≠ 31 → s.od.restartPending = false → p.length ≤ 12 →
    c ∈ [.stateReceived own tgt (sent pr kindState own tgt p), .batteryReceived own tgt (sent pr kindBattery own tgt p),
      .measureReceived own tgt (sent pr kindMeasure own tgt p), .sceneReceived own tgt (sent pr kindScene own tgt p),
      .wakeReceived own tgt (sent pr kindWake own tgt p), .operateReceived own tgt (sent pr kindOperate own tgt p),
      .settingsReceived own tgt (sent pr kindSettings own tgt p), .answerReceived own tgt (sent pr kindAnswer own tgt p),
      .telegramForOtherStation ⟨own, tgt, kind, sent pr kind own tgt p⟩] →
    ∃ t, exec c s = .next t ∧ t.pt = { s.pt with clash := true } ∧ t.lc.heardSlot = false ∧ t.lc.takenSlot = false ∧
      (s.life = .run ∨ s.life = .dormant → t.life = .listenOnly ∧ t.sending = false ∧ t.trvDriven = false) ∧
      (s.life = .commissioning ∨ s.life = .listenOnly → t.life = s.life) ∧
      t.cc = s.cc ∧ t.light = s.light ∧ t.sfe = s.sfe ∧ t.now = s.now ∧ t.pending = s.pending

/-- ANSWER_RECEIVED, TELEGRAM_FOR_OTHER_STATION, a telegram whose length does not fit its kind, and one from a source that is no
station: nothing but the receiver changes, and HEARD is driven only for a telegram to the node (R157, R160, R189). -/
def Obligations.IgnoredTelegramsChangeNothing : Prop :=
  ∀ (s : State) (src tgt : Addr) (pr : Fin 8) (p : List Byte), p.length ≤ 12 →
    (Handles src tgt s → ∀ c,
      (c = .stateReceived src tgt (sent pr kindState src tgt p) ∧ p.length ≠ 12) ∨
        (c = .batteryReceived src tgt (sent pr kindBattery src tgt p) ∧ p.length ≠ 9) ∨
        (c = .measureReceived src tgt (sent pr kindMeasure src tgt p) ∧ p.length ≠ 12) ∨
        (c = .sceneReceived src tgt (sent pr kindScene src tgt p) ∧ p.length ≠ 1) ∨
        (c = .wakeReceived src tgt (sent pr kindWake src tgt p) ∧ p.length ≠ 0) ∨
        (c = .operateReceived src tgt (sent pr kindOperate src tgt p) ∧ p.length ≠ 5) ∨
        (c = .settingsReceived src tgt (sent pr kindSettings src tgt p) ∧ p.length < 2) ∨
        (c = .answerReceived src tgt (sent pr kindAnswer src tgt p) ∧ p.length ≠ 4) →
      ∃ t, exec c s = .next t ∧ t = { s with lc := t.lc } ∧ Heard false s t) ∧
    (Handles src tgt s → p.length = 4 →
      ∃ t, exec (.answerReceived src tgt (sent pr kindAnswer src tgt p)) s = .next t ∧ Heard false s t ∧
        Changes [.link] s t) ∧
    (∀ kind : Fin 8, s.receivable = true → s.ownAddr ≠ some src →
      exec (.telegramForOtherStation ⟨src, tgt, kind, sent pr kind src tgt p⟩) s =
        .next { s with lc := { s.lc with rx := .ready, idle := false, heardSlot := false, takenSlot := false } }) ∧
    (s.receivable = true → src = 0 ∨ src = 31 →
      ∀ c ∈ [Instr.stateReceived src tgt (sent pr kindState src tgt p),
        .batteryReceived src tgt (sent pr kindBattery src tgt p),
        .measureReceived src tgt (sent pr kindMeasure src tgt p),
        .sceneReceived src tgt (sent pr kindScene src tgt p), .wakeReceived src tgt (sent pr kindWake src tgt p),
        .operateReceived src tgt (sent pr kindOperate src tgt p),
        .settingsReceived src tgt (sent pr kindSettings src tgt p),
        .answerReceived src tgt (sent pr kindAnswer src tgt p)],
      exec c s =
        .next { s with lc := { s.lc with rx := .ready, idle := false, heardSlot := false, takenSlot := false } })

/-- OPERATE_RECEIVED and SETTINGS_RECEIVED. The life state and the room of the queue decide: admitted at the end of the queue,
with TAKEN for an addressed telegram; OVERFLOW for a full queue; HEARD only where the life state or, for a broadcast, the
function table refuses (R161, R162); an addressed OPERATE wakes a DORMANT node (R147, R149). That a SETTINGS is taken into hand
at once where nothing is in hand is the model's choice (log entry 5). -/
def Obligations.QueueAdmitsRequests : Prop :=
  ∀ (s : State) (src tgt : Addr) (pr : Fin 8) (p : List Byte), Handles src tgt s →
    (p.length = 5 → s.life = .run ∨ s.life = .dormant → (tgt ≠ 0 ∨ s.hasFunction (operateOf p) = true) →
      ∃ t, exec (.operateReceived src tgt (sent pr kindOperate src tgt p)) s = .next t ∧
        (s.od.iq.length < 6 →
          t.od.iq = dropSettings (s.od.iq ++ [⟨true, src, decide (tgt ≠ 0), p⟩]) ∧ Heard (decide (tgt ≠ 0)) s t) ∧
        (6 ≤ s.od.iq.length →
          t.od.iq = dropSettings s.od.iq ∧ Heard false s t ∧ (t.od.iq ≠ [] → t.nc.flags.overflow = true)) ∧
        t.od.inHand = s.od.inHand ∧ (s.life = .run → t.life = .run) ∧ Frame [.inbound, .link] s t) ∧
    (p.length = 5 → s.life = .dormant → tgt ≠ 0 → s.od.iq = [] →
      ∃ t, exec (.operateReceived src tgt (sent pr kindOperate src tgt p)) s = .next t ∧ t.life = .run ∧ t.od.iq = [⟨true, src, true, p⟩] ∧
        Heard true s t) ∧
    (p.length = 5 → (s.life = .commissioning ∨ s.life = .listenOnly ∨ (tgt = 0 ∧ s.hasFunction (operateOf p) = false)) →
      ∃ t, exec (.operateReceived src tgt (sent pr kindOperate src tgt p)) s = .next t ∧ Heard false s t ∧ Changes [.link] s t) ∧
    (2 ≤ p.length → p.length ≤ 12 → s.life = .commissioning → tgt ≠ 0 → s.od.iq.length < 6 →
      ∃ t, exec (.settingsReceived src tgt (sent pr kindSettings src tgt p)) s = .next t ∧ Heard true s t ∧
        (s.od.inHand ≠ none → t.od.iq = s.od.iq ++ [⟨false, src, true, p⟩] ∧ t.od.inHand = s.od.inHand) ∧
        (s.od.inHand = none → s.od.iq = [] → t.od.iq = [] ∧ t.od.inHand = some p) ∧
        t.life = s.life ∧ Frame [.inbound, .link] s t) ∧
    (2 ≤ p.length → p.length ≤ 12 → s.life = .commissioning → tgt ≠ 0 → 6 ≤ s.od.iq.length → s.od.inHand ≠ none →
      ∃ t, exec (.settingsReceived src tgt (sent pr kindSettings src tgt p)) s = .next t ∧ Heard false s t ∧ t.od.iq = s.od.iq ∧
        t.od.inHand = s.od.inHand ∧ t.nc.flags.overflow = true ∧ Frame [.inbound, .link] s t) ∧
    (2 ≤ p.length → p.length ≤ 12 → (s.life ≠ .commissioning ∨ tgt = 0) →
      ∃ t, exec (.settingsReceived src tgt (sent pr kindSettings src tgt p)) s = .next t ∧ Heard false s t ∧ Changes [.link] s t)

/-- WAKE_RECEIVED. It wakes a DORMANT node into RUN without a WAKE of its own, but where a drive starts a forced retraction;
in RUN it changes nothing but a pending store, and in the other life states nothing; an addressed one is TAKEN in RUN and DORMANT
(R147, R160, R180). -/
def Obligations.WakeTelegramWakes : Prop :=
  ∀ (s : State) (src tgt : Addr) (pr : Fin 8), Handles src tgt s →
    ∃ t, exec (.wakeReceived src tgt (sent pr kindWake src tgt [])) s = .next t ∧
      Heard (decide (tgt ≠ 0) && decide (s.life = .run ∨ s.life = .dormant)) s t ∧
      (s.life = .dormant → t.life = .run ∧ t.ts.measurePeriod = some (s.now + 5000)) ∧
      (s.life = .dormant → (∀ i, forcedCauseOf (s.drive i).fn s.interlock = none) →
        (∀ v, s.lc.service = some v → v.cause ≠ .wakeOut) →
        t.ts.pending.wakeOut = s.ts.pending.wakeOut ∧ t.nc.quietWake = some s.now) ∧
      (s.life ≠ .dormant → t.life = s.life ∧ t.ts.pending.wakeOut = s.ts.pending.wakeOut ∧ Changes [.link] s t) ∧
      (s.life = .run → t.od.storePending = false) ∧
      (s.life ≠ .run → s.life ≠ .dormant → t.od.storePending = s.od.storePending) ∧
      Changes [.link, .drives] s t

/-! ### Sending (09) -/

/-- CAUSE_ENTERS_SERVICE. On an idle link the first cause that is pending, unmasked in the life state and eligible is latched
with its priority and its telegram, which carries its check, and leaves the pending set; a cause held in service is assembled
anew; without a cause nothing happens (R153, R154, R163, R164). -/
def Obligations.CausesEnterServiceInOrder : Prop :=
  ∀ (s : State) (own : Addr) (p : Causes) (state : ServiceCause) (rows : List (Bool × ServiceCause × Nat)),
    p = s.ts.pending → s.life.drivesSlots = true → s.lc.synchronised = true → s.lc.idle = true → s.ownAddr = some own →
    state = .state p.stateUrgent p.statePeriodic →
    rows =
      [(s.life ≠ .commissioning && p.wakeOut, .wakeOut, 0), (p.batteryDue, .batteryDue, 1),
       (p.stateUrgent && s.ts.spacing = none && (s.life ≠ .commissioning || s.ts.hello), state, 2),
       (s.life = .run && !s.ts.fifo.isEmpty, .answerDue, 3),
       (s.life ≠ .commissioning && p.statePeriodic, state, 6), (s.life = .run && p.measureDue, .measureDue, 6)] →
    (s.lc.service = none → ∀ (c : ServiceCause) (n : Nat), (rows.find? fun r => r.1) = some (true, c, n) →
      ∃ (t : State) (v : Service), exec .causeEntersService s = .next t ∧ v.cause = c ∧ v.sending = true ∧
        v.overtaken = false ∧ v.priority = n ∧ v.wire = telegramBytes n c.kind own (s.targetOf c) (s.payload c) ∧ crc8 v.wire = 0 ∧
        v.battery = (s.cc.l, s.cc.flags) ∧ v.hello = s.nc.flags.hello ∧
        t = { s with
          lc := { s.lc with idle := false, service := some v }, ts := { s.ts with pending := t.ts.pending } } ∧
        t.ts.pending =
          { wakeOut := p.wakeOut && c ≠ .wakeOut, batteryDue := p.batteryDue && c ≠ .batteryDue,
            stateUrgent := p.stateUrgent && c ≠ state, statePeriodic := p.statePeriodic && c ≠ state,
            measureDue := p.measureDue && c ≠ .measureDue }) ∧
    (s.lc.service = none → (rows.find? fun r => r.1) = none → exec .causeEntersService s = .next s) ∧
    (∀ held, s.lc.service = some held → held.sending = false →
      ∃ (t : State) (v : Service), exec .causeEntersService s = .next t ∧
        t = { s with lc := { s.lc with idle := false, service := some v } } ∧ v.cause = held.cause ∧
        v.sending = true ∧ v.overtaken = false ∧ v.priority = held.priority ∧
        v.wire = telegramBytes held.priority held.cause.kind own (s.targetOf held.cause) (s.payload held.cause))

/-- IDLE_LOST, ARBITRATION_LOST and BIT_ERROR. A start bit that comes late leaves the cause in service, unsent, and so does one
that comes while a held cause waits; where the life state has changed since the cause entered service, it has returned, but for
MEASURE_DUE, which the entry to DORMANT removed (R163); without a cause it ends idle alone; a lost arbitration gives the cause back and counts
nothing; a bit error drives a break, gives the cause back, is counted up to 3 and sets LINK_FAULT there, whereby a node with
another battery source falls back to L_island (R35, R152, R154 to R156, R159, R163). That the change of life state is remembered
until IDLE_LOST tells that the start bit was not driven is the model's choice (log entry 51). -/
def Obligations.SetbacksKeepTheCause : Prop :=
  (∀ s : State, s.lc.idle = true →
    (s.lc.service = none → exec .idleLost s = .next { s with lc := { s.lc with idle := false, rx := .inHand } }) ∧
    (∀ v, s.lc.service = some v → v.sending = false →
      exec .idleLost s = .next { s with lc := { s.lc with idle := false, rx := .inHand } })) ∧
  ∀ (s : State) (v : Service), s.lc.service = some v → v.sending = true →
    (v.overtaken = false →
      exec .idleLost s =
        .next { s with
          lc := { s.lc with idle := false, rx := .inHand, service := some { v with sending := false } } }) ∧
    (v.overtaken = true →
      exec .idleLost s =
        .next { s with
          lc := { s.lc with idle := false, rx := .inHand, service := none }
          ts := { s.ts with
            pending := if v.cause = .measureDue then s.ts.pending else s.ts.pending.with v.cause } }) ∧
    exec .arbitrationLost s =
      .next { s with
        lc := { s.lc with rx := .inHand, service := none }
        ts := { s.ts with pending := s.ts.pending.with v.cause } } ∧
    ∃ t, exec .bitError s = .next t ∧
      t.lc = { s.lc with
        service := none, rx := .discarding, breaking := true, bitErrors := min 3 (s.lc.bitErrors + 1),
        linkFault := s.lc.linkFault || decide (2 ≤ s.lc.bitErrors) } ∧
      (s.ts.pending.with v.cause).within t.ts.pending ∧
      (s.life.active = true → s.island = false → 2 ≤ s.lc.bitErrors →
        t.nc.flags.island = true ∧ (s.ownSource = false → t.lb.lU = s.pt.lIsland)) ∧
      Changes [.link] s t

/-- OWN_TELEGRAM_OUTCOME. After a broadcast the counts follow the HEARD slot, ALONE at the fifth unheard one; a BATTERY keeps
what it has sent and restarts its period; a STATE restarts its period, and its spacing at priority 2, and ends a HELLO it
carried; a MEASURE moves its pointer on by four. The oldest answer leaves the FIFO, whatever the outcome; the DONE of a STORE
takes the node to DORMANT, that of a RESTART makes the restart; LINK_FAULT ends with TAKEN, and the broadcasts' count stays
(R16, R17, R147, R148, R156, R158, R164, R165, R179, R186). That an own drive under way at the entry to DORMANT wakes the node with
a WAKE of its own is the model's choice (log entry 28). -/
def Obligations.OutcomesEndTheCause : Prop :=
  (∀ (s : State) (v : Service) (heard taken : Bool), s.lc.service = some v → v.sending = true → v.cause ≠ .answerDue →
    ∃ t, exec (.ownTelegramOutcome heard taken) s = .next t ∧
      t.lc = { s.lc with
        service := none, rx := .ready, heardSlot := false, takenSlot := false, bitErrors := 0,
        linkFault := s.lc.linkFault && !heard,
        unheard := if heard then 0 else min 5 (s.lc.unheard + 1),
        alone := if heard then false else s.lc.alone || decide (4 ≤ s.lc.unheard) } ∧
      (s.life.active = true → t.nc.flags.island = (t.lc.linkFault || t.lc.alone)) ∧
      (v.cause = .wakeOut → Changes [.link] s t) ∧
      (v.cause = .batteryDue →
        t.cc = { s.cc with
          sent := some v.battery, period := if s.cc.conflict then none else some (s.now + 1000) } ∧
        Changes [.link, .charge] s t) ∧
      (∀ u q, v.cause = .state u q →
        t.ts.hello = (s.ts.hello && !v.hello) ∧
        t.ts.statePeriod = some (s.now + if s.life = .dormant then 30000 else 2000) ∧
        t.ts.spacing = (if v.priority = 2 then some (s.now + 100) else s.ts.spacing) ∧
        Changes [.link, .scheduler] s t) ∧
      (v.cause = .measureDue →
        t.sfe = { s.sfe with pointer := (s.sfe.pointer + 4) % s.sfe.measureList.length } ∧
        Changes [.link, .sensors] s t)) ∧
  ∀ (s : State) (v : Service) (heard taken : Bool) (a : Answer) (rest : List Answer), s.lc.service = some v →
    v.sending = true → v.cause = .answerDue → s.ts.fifo = a :: rest →
    ∃ t, exec (.ownTelegramOutcome heard taken) s = .next t ∧
      (a.ends ≠ .restart →
        t.lc = { s.lc with
          service := none, rx := .ready, heardSlot := false, takenSlot := false, bitErrors := 0,
          linkFault := s.lc.linkFault && !taken } ∧
        (rest.map fun x => (x.target, x.payload)) <+: t.answers) ∧
      (a.ends = .nothing ∨ (a.ends = .store ∧ s.od.storePending = false) → Changes [.link, .answers] s t) ∧
      (a.ends = .store → s.od.storePending = true → s.life = .run →
        (s.driveBusy = false → Sleeps s t) ∧
        (s.driveBusy = true → t.life = .run ∧ t.od.storePending = false)) ∧
      (a.ends = .restart → s.od.restartPending = true → s.life = .run → Restarted s t)

/-- BATTERY_PERIOD_, STATE_PERIOD_, URGENT_SPACING_ and MEASURE_PERIOD_TIMER_EXPIRY. The periods of BATTERY and MEASURE start
again and raise their cause; that of STATE raises STATE_PERIODIC; the end of the spacing makes STATE_URGENT eligible (R16,
R163, R164, R166). -/
def Obligations.TransmitTimersRaiseTheirCause : Prop :=
  ∀ (s : State) (e : Nat),
    (s.cc.period = some e →
      exec .batteryPeriodTimerExpiry s =
        .next { s with
          now := max s.now e
          cc := { s.cc with period := some (max s.now e + 1000) }
          ts := { s.ts with pending := { s.ts.pending with batteryDue := true } } }) ∧
    (s.ts.statePeriod = some e →
      exec .statePeriodTimerExpiry s =
        .next { s with
          now := max s.now e
          ts := { s.ts with statePeriod := none, pending := { s.ts.pending with statePeriodic := true } } }) ∧
    (s.ts.spacing = some e →
      exec .urgentSpacingTimerExpiry s = .next { s with now := max s.now e, ts := { s.ts with spacing := none } }) ∧
    (s.ts.measurePeriod = some e →
      exec .measurePeriodTimerExpiry s =
        .next { s with
          now := max s.now e
          ts := { s.ts with
            measurePeriod := some (max s.now e + 5000), pending := { s.ts.pending with measureDue := true } } })

/-! ### Requests (08) -/

/-- The OPERATE rows that put a LIGHT or AUX group on. Every channel of the function and instance that is not in FAULT takes
the request, with the end timer and the target of its action; the answer is DONE, or REFUSED_FAULT where all are in FAULT (R60,
R64, R65, R72, R78, R143, R144). -/
def Obligations.OnRequestsReachTheGroup : Prop :=
  ∀ (s : State) (e : Entry) (o : Operate) (c : Instr) (fn act : Nat) (f : ChFn), o = operateOf e.payload →
    (c, fn, act, f) ∈ [(Instr.lightOn, 2, 1, ChFn.light), (.lightLevel, 2, 3, .light), (.lightTimed, 2, 4, .light),
      (.auxOn, 3, 1, .aux), (.auxTimed, 3, 4, .aux)] →
    Takes fn act e s → s.hasFunction o = true → (c = .lightLevel → o.value ≠ 0) →
    ∃ t, exec c s = .next t ∧ Served [.channels] s t ∧
      ((∃ i : Fin 8, s.sw[i].fn = f ∧ s.sw[i].inst = o.inst.toNat ∧ s.sw[i].state ≠ .fault) →
        Replied e.requester .done s t) ∧
      ((∀ i : Fin 8, s.sw[i].fn = f → s.sw[i].inst = o.inst.toNat → s.sw[i].state = .fault) →
        Replied e.requester .refusedFault s t) ∧
      (∀ i : Fin 8, ¬ (s.sw[i].fn = f ∧ s.sw[i].inst = o.inst.toNat) ∨ s.sw[i].state = .fault →
        s.sw[i].Kept (s.ht.burner = .firing) t.sw[i]) ∧
      ∀ i : Fin 8, s.sw[i].fn = f → s.sw[i].inst = o.inst.toNat → s.sw[i].state ≠ .fault →
        t.sw[i].request = true ∧ t.sw[i].trips = s.sw[i].trips ∧ t.sw[i].timedRequest = t.sw[i].endTimer.isSome ∧
        t.sw[i].endTimer =
          (if c = .lightTimed ∨ c = .auxTimed then some (s.now + clampNat 1 3600 o.value * 1000)
          else if c ≠ .lightLevel ∧ s.sw[i].mode = .timed then some (s.now + s.sw[i].a * 1000) else none) ∧
        (s.sw[i].mode = .cycle → s.sw[i].request = false →
          t.sw[i].cycleOn = true ∧ t.sw[i].cycleStart = s.now ∧
            t.sw[i].cycleTimer = some (s.now + s.sw[i].a * 1000)) ∧
        (s.sw[i].dimmable = false ∨ f = .aux → t.sw[i].target = s.sw[i].target ∧ t.sw[i].current = s.sw[i].current) ∧
        (s.sw[i].dimmable = true → f = .light → ∀ n,
          n = (if c = .lightOn then 63 else if c = .lightLevel then min 63 o.value
            else if s.sw[i].target = 0 then 63 else s.sw[i].target) →
          t.sw[i].target = n ∧
            (n ≠ s.sw[i].target → n ≠ s.sw[i].current →
              (0 < s.sw[i].fade →
                t.sw[i].fadeTimer = some (s.now + s.sw[i].fade) ∧ t.sw[i].current = s.sw[i].current) ∧
              (s.sw[i].fade = 0 → t.sw[i].current = n)))

/-- The OPERATE rows that put a LIGHT or AUX group off, LEVEL 0 among them. The answer is DONE; a FAULT clears; a dimmable
channel fades to 0 and its request ends there, any other loses its request at once, and so does one that is TRIPPED (R63, R70,
R72, R78, R144; that R70 goes before R78 there is the model's reading, log entry 11). -/
def Obligations.OffRequestsReachTheGroup : Prop :=
  ∀ (s : State) (e : Entry) (o : Operate) (c : Instr) (fn act : Nat) (f : ChFn), o = operateOf e.payload →
    (c, fn, act, f) ∈ [(Instr.lightOff, 2, 2, ChFn.light), (.lightLevel, 2, 3, .light), (.auxOff, 3, 2, .aux)] →
    Takes fn act e s → s.hasFunction o = true → (c = .lightLevel → o.value = 0) →
    ∃ t, exec c s = .next t ∧ Served [.channels] s t ∧ Replied e.requester .done s t ∧
      (∀ i : Fin 8, ¬ (s.sw[i].fn = f ∧ s.sw[i].inst = o.inst.toNat) →
        s.sw[i].Kept (s.ht.burner = .firing) t.sw[i]) ∧
      ∀ i : Fin 8, s.sw[i].fn = f → s.sw[i].inst = o.inst.toNat →
        t.sw[i].endTimer = none ∧
        (s.sw[i].state = .fault →
          t.sw[i].state = .off ∧ t.sw[i].request = false ∧ t.sw[i].trips = [] ∧ t.sw[i].target = 0) ∧
        (s.sw[i].state ≠ .fault → s.sw[i].dimmable = false →
          t.sw[i].request = false ∧ t.sw[i].cycleTimer = none ∧
            t.sw[i].state = (if s.sw[i].state = .tripped then .tripped else .off)) ∧
        (s.sw[i].state ≠ .fault → s.sw[i].dimmable = true →
          t.sw[i].target = 0 ∧ (s.sw[i].state = .tripped → t.sw[i].state = .tripped ∧ t.sw[i].request = false) ∧
            (s.sw[i].current = 0 → s.sw[i].fadeTimer = none → t.sw[i].request = false) ∧
            (0 < s.sw[i].current → s.sw[i].fadeTimer = none →
              (0 < s.sw[i].fade →
                t.sw[i].fadeTimer = some (s.now + s.sw[i].fade) ∧ t.sw[i].current = s.sw[i].current ∧
                  (s.sw[i].state ≠ .tripped → t.sw[i].request = s.sw[i].request)) ∧
              (s.sw[i].fade = 0 → t.sw[i].current = 0 ∧ t.sw[i].request = false)))

/-- PUMP, DUMP and WATER rows. ON is refused for a FAULT first, then for any lock, and else arms every pump; OFF disarms them
and clears a FAULT; DUMP RESET is taken only from DUMPED with the fresh tank at frost_off; RESET_VOLUME clears the count (R72,
R114, R115, R116, R124). -/
def Obligations.WaterRequestsAreServed : Prop :=
  ∀ (s : State) (e : Entry), s.hasFunction (operateOf e.payload) = true →
    (Takes 4 1 e s → ∃ t, exec .pumpOn s = .next t ∧ Served [.channels] s t ∧
      (s.channelFaulted .pump = true → Replied e.requester .refusedFault s t ∧ Served [] s t) ∧
      (s.channelFaulted .pump = false → s.locksNow.any = true →
        Replied e.requester .refusedLocked s t ∧ Served [] s t) ∧
      (s.channelFaulted .pump = false → s.locksNow.any = false →
        Replied e.requester .done s t ∧
          ∀ i : Fin 8, s.sw[i].fn = .pump → t.sw[i].request = true ∧
            t.sw[i].endTimer = if s.sw[i].mode = .timed then some (s.now + s.sw[i].a * 1000) else none) ∧
      ∀ i : Fin 8, s.sw[i].fn ≠ .pump → s.sw[i].Kept (s.ht.burner = .firing) t.sw[i]) ∧
    (Takes 4 2 e s → ∃ t, exec .pumpOff s = .next t ∧ Served [.channels] s t ∧ Replied e.requester .done s t ∧
      (∀ i : Fin 8, s.sw[i].fn = .pump →
        t.sw[i].request = false ∧ t.sw[i].endTimer = none ∧ t.sw[i].duty = 0 ∧
          (s.sw[i].state = .fault → t.sw[i].state = .off ∧ t.sw[i].trips = [])) ∧
      t.wf.locks.fault = false ∧
      ∀ i : Fin 8, s.sw[i].fn ≠ .pump → s.sw[i].Kept (s.ht.burner = .firing) t.sw[i]) ∧
    (Takes 6 7 e s → ∃ t, exec .dumpReset s = .next t ∧
      (s.wf.fresh ≠ .dumped → Replied e.requester .already s t ∧ Served [] s t) ∧
      (s.wf.fresh = .dumped → (∀ x, s.temperature .freshT = some x → x < s.wf.params.frostOff) →
        Replied e.requester .refusedLocked s t ∧ Served [] s t) ∧
      (∀ x, s.wf.fresh = .dumped → s.temperature .freshT = some x → s.wf.params.frostOff ≤ x →
        Replied e.requester .done s t ∧ t.wf = { s.wf with fresh := .idle, locks := t.wf.locks } ∧
          t.wf.locks.dumped = false ∧ t.nc.flags.dumped = false ∧ Served [.water] s t)) ∧
    (Takes 7 8 e s → ∃ t, exec .waterResetVolume s = .next t ∧ Replied e.requester .done s t ∧
      t.wf = { s.wf with volume := 0, remainder := 0, locks := t.wf.locks } ∧ Served [.water] s t)

/-- HEATER rows. ON is refused for a FAULT and else enables; SET takes the clamped setpoint; OFF disables, clears the demand
and the faults of burner and fan; FROST_HOLD 0 clears frost hold; where either leaves no demand, a lit burner goes out with its
run-on and rest, and a waiting one goes OFF (R134 to R138, R143). -/
def Obligations.HeaterRequestsAreServed : Prop :=
  ∀ (s : State) (e : Entry) (o : Operate), o = operateOf e.payload → s.hasFunction o = true →
    (Takes 5 1 e s → ∃ t, exec .heaterOn s = .next t ∧
      (s.heaterFaulted = true → Replied e.requester .refusedFault s t ∧ Served [] s t) ∧
      (s.heaterFaulted = false → Replied e.requester .done s t ∧ Served [.heating] s t ∧
        t.ht = { s.ht with
          heaterEnabled := true, burner := t.ht.burner, lit := t.ht.lit, minimumOn := t.ht.minimumOn,
          rest := t.ht.rest })) ∧
    (Takes 5 5 e s → ∃ t, exec .heaterSet s = .next t ∧ Replied e.requester .done s t ∧ Served [.heating] s t ∧
      t.ht = { s.ht with
        setpoint := clampInt 50 300 o.value, burner := t.ht.burner, lit := t.ht.lit, minimumOn := t.ht.minimumOn,
        rest := t.ht.rest }) ∧
    (Takes 5 6 e s → ∃ t, exec .heaterFrostHold s = .next t ∧ Replied e.requester .done s t ∧
      Served [.heating, .channels] s t ∧
      t.ht = { s.ht with
        frostHoldEnabled := decide (o.value ≠ 0), frostHold := if o.value = 0 then false else s.ht.frostHold,
        burner := t.ht.burner, lit := t.ht.lit, minimumOn := t.ht.minimumOn, rest := t.ht.rest } ∧
      (o.value ≠ 0 ∨ s.ht.burner ≠ .firing → Served [.heating] s t) ∧
      (o.value = 0 → s.ht.burner = .firing → s.ht.normalDemand = false →
        (s.ht.lit = true → t.ht.burner = .runOn ∧ t.ht.rest = some (s.now + 180000)) ∧
        (s.ht.lit = false → t.ht.burner = .off)) ∧
      ∀ i : Fin 8, s.sw[i].heater = false → s.sw[i].Kept True t.sw[i]) ∧
    (Takes 5 2 e s → ∃ t, exec .heaterOff s = .next t ∧ Replied e.requester .done s t ∧
      Served [.heating, .channels] s t ∧
      t.ht = { s.ht with
        heaterEnabled := false, normalDemand := false, burner := t.ht.burner, lit := t.ht.lit,
        minimumOn := t.ht.minimumOn, rest := t.ht.rest } ∧
      (∀ i : Fin 8, s.sw[i].heater = true → s.sw[i].state = .fault →
        t.sw[i].trips = [] ∧ t.sw[i].state ≠ .fault) ∧
      (s.ht.burner = .firing → s.ht.frostHold = false →
        (s.ht.lit = true → t.ht.burner = .runOn ∧ t.ht.rest = some (s.now + 180000)) ∧
        (s.ht.lit = false → t.ht.burner = .off)) ∧
      (s.ht.burner ≠ .firing → t.ht.burner = s.ht.burner) ∧
      ∀ i : Fin 8, s.sw[i].heater = false → s.sw[i].Kept True t.sw[i])

/-- STEP and AWNING rows, in RUN and LISTEN_ONLY. What EXTEND, RETRACT and STOP do to each drive of the function and what the
first of them answers, by its state; a drive of another function stands. In DORMANT a broadcast EXTEND or RETRACT is discarded,
and a STOP finds nothing to stop (R51, R91 to R93, R95, R96, R99 to R102, R149). That a request after a STOP in BRAKING, with no
direction in hand, sets its direction as in any braking is the model's choice (log entry 17). -/
def Obligations.MotionRequestsFollowTheDrive : Prop :=
  ∀ (s : State) (e : Entry) (fn : Nat) (f : DriveFn) (ext ret stop : Instr),
    (fn, f, ext, ret, stop) ∈ [(8, DriveFn.step, Instr.stepExtend, Instr.stepRetract, Instr.stepStop),
      (9, .awning, .awningExtend, .awningRetract, .awningStop)] →
    s.hasFunction (operateOf e.payload) = true →
    (∀ c act, (c, act) ∈ [(ext, 9), (ret, 10)] → Takes fn act e s → s.life = .dormant →
      ∃ t, exec c s = .next t ∧ Served [] s t) ∧
    (Takes fn 11 e s → s.life = .dormant → s.driveBusy = false → e.addressed = false →
      ∃ t, exec stop s = .next t ∧ Served [] s t) ∧
    (s.life ≠ .dormant → ∀ (i lead : DriveId) (d : Drive), lead = (if s.ma.fn = f then .ma else .mb) → d = s.drive i →
      d.fn = f →
      (Takes fn 9 e s → ∃ t, exec ext s = .next t ∧ Served [.drives, .grants] s t ∧
        (∀ j, (s.drive j).fn ≠ f → t.life = s.life → (s.drive j).Stands s.interlock (t.drive j)) ∧
        (∀ code,
          (((d.state = .retracted ∨ d.state = .parked) ∧ extendRefusal f s.interlock = some code) ∨
            (d.state = .extended ∧ code = .already) ∨ (d.state = .unknown ∧ code = .refusedHomeFirst) ∨
            (d.state = .jammed ∧ code = .refusedFault) ∨
            (d.state = .waitGrant ∧ d.direction = some .extend ∧ code = .already) ∨
            (d.state = .waitGrant ∧ d.direction = some .retract ∧ d.origin = some .unknown ∧
              code = .refusedHomeFirst) ∨
            (d.state = .waitGrant ∧ d.direction = some .retract ∧ d.origin = some .jammed ∧ code = .refusedFault) ∨
            (d.state = .waitGrant ∧ d.direction = some .retract ∧ (d.origin = some .extended ∨ d.origin = some .parked) ∧
              extendRefusal f s.interlock = some code) ∨
            ((d.state = .extending ∨ d.state = .retracting ∨ d.state = .braking) ∧
              ((d.forced.isSome ∧ code = .refusedForced) ∨
                (d.forced = none ∧ d.direction = some .extend ∧ code = .already) ∨
                (d.forced = none ∧ d.direction ≠ some .extend ∧ d.homing = true ∧
                  code = if d.jam then .refusedFault else .refusedHomeFirst) ∨
                (d.forced = none ∧ d.direction ≠ some .extend ∧ d.homing = false ∧
                  extendRefusal f s.interlock = some code)))) →
          d.Stands s.interlock (t.drive i) ∧ (i = lead → Replied e.requester code s t)) ∧
        (extendRefusal f s.interlock = none →
          ((d.state = .retracted ∨ d.state = .parked) → d.Asks s.now d.state .extend false (t.drive i)) ∧
          (∀ o, d.state = .waitGrant → d.direction = some .retract → d.origin = some o →
            (o = .extended ∨ o = .parked) → d.Asks s.now o .extend false (t.drive i) ∧
              ∀ q, d.slot = .waiting q → i = lead → s.fifoHasRoom = true → Replied (some q) .cancelled s t) ∧
          (d.state = .retracting → d.forced = none → d.direction = some .retract → d.homing = false →
            (t.drive i).motion =
                { d with
                  state := .braking, braked := some .retract, direction := some .extend,
                  brakeTimer := some (s.now + 300), travelTimer := none, pulseWatch := none }.motion ∧
              (i = lead → Replied e.requester .started s t)) ∧
          (d.state = .braking → d.forced = none → d.direction ≠ some .extend → d.homing = false →
            (t.drive i).motion = { d with direction := some .extend }.motion ∧
              (i = lead → Replied e.requester .started s t)))) ∧
      (Takes fn 10 e s → ∃ t, exec ret s = .next t ∧ Served [.drives, .grants] s t ∧
        (∀ j, (s.drive j).fn ≠ f → t.life = s.life → (s.drive j).Stands s.interlock (t.drive j)) ∧
        (d.state = .retracted ∨ (d.state = .waitGrant ∧ d.direction = some .retract) ∨
            ((d.state = .extending ∨ d.state = .retracting ∨ d.state = .braking) ∧
              (d.forced.isSome ∨ d.direction = some .retract)) →
          d.Stands s.interlock (t.drive i) ∧ (i = lead → Replied e.requester .already s t)) ∧
        (∀ o, d.state = o → (o = .extended ∨ o = .parked ∨ o = .unknown ∨ o = .jammed) → d.forced = none →
          (forcedCauseOf f s.interlock = none →
            d.Asks s.now o .retract (o = .unknown || o = .jammed) (t.drive i)) ∧
          (∀ k, forcedCauseOf f s.interlock = some k →
            (t.drive i).state = .retracting ∧ (t.drive i).forced = some k ∧
              (t.drive i).homing = (o = .unknown || o = .jammed) ∧
              (t.drive i).travelTimer = some (s.now + d.travelTime * 150) ∧
              (i = lead → ∀ q, e.requester = some q → Replied (some q) .cancelled s t))) ∧
        (∀ o, d.state = .waitGrant → d.direction = some .extend → d.origin = some o → d.forced = none →
          (o = .retracted ∨ o = .parked ∨ o = .extended) → forcedCauseOf f s.interlock = none →
          d.Asks s.now o .retract false (t.drive i)) ∧
        (d.state = .extending → d.forced = none → d.direction = some .extend →
          (t.drive i).motion =
              { d with
                state := .braking, braked := some .extend, direction := some .retract,
                brakeTimer := some (s.now + 300), travelTimer := none, pulseWatch := none }.motion ∧
            (i = lead → Replied e.requester .started s t)) ∧
        (d.state = .braking → d.forced = none → d.direction ≠ some .retract →
          (t.drive i).motion = { d with direction := some .retract }.motion ∧
            (i = lead → Replied e.requester .started s t))) ∧
      (Takes fn 11 e s → ∃ t, exec stop s = .next t ∧ Served [.drives, .grants] s t ∧
        (∀ j, (s.drive j).fn ≠ f → t.life = s.life → (s.drive j).Stands s.interlock (t.drive j)) ∧
        (∀ code,
          ((d.state = .retracted ∨ d.state = .extended ∨ d.state = .parked ∨ d.state = .unknown ∨ d.state = .jammed) ∧
              code = .already) ∨
            ((d.state = .extending ∨ d.state = .retracting ∨ d.state = .braking) ∧ d.forced.isSome ∧
              code = .refusedForced) →
          d.Stands s.interlock (t.drive i) ∧ (i = lead → Replied e.requester code s t)) ∧
        (forcedCauseOf f s.interlock = none →
          (∀ o, d.state = .waitGrant → d.origin = some o →
            (t.drive i).state = o ∧ (t.drive i).direction = none ∧ (t.drive i).grantTimer = none ∧
              (∀ g ∈ t.lb.grants, g.drive ≠ i) ∧ (i = lead → Replied e.requester .done s t)) ∧
          (d.state = .extending ∨ d.state = .retracting → d.forced = none →
            (t.drive i).state = (if d.homing then (if d.jam then .jammed else .unknown) else .parked) ∧
              (t.drive i).direction = none ∧ (t.drive i).travelTimer = none ∧ (t.drive i).position = d.position ∧
              (i = lead → Replied e.requester .done s t))) ∧
        (d.state = .braking → d.forced = none →
          (t.drive i).motion = { d with direction := none }.motion ∧
            (i = lead → Replied e.requester .done s t))))

/-- NODE rows. STORE in RUN is refused while a drive is busy, else pending until its answer is sent, and a broadcast one acts at
once; in LISTEN_ONLY it is refused. RESTART is pending in the same way, and a broadcast one, or one in LISTEN_ONLY, is a warm
reset at once (R147 to R149, R179). At the entry to DORMANT a cause in service whose start bit is not driven returns to pending,
MEASURE_DUE apart, and one on its way is marked (R163; log entry 51). That an own drive under way at the entry to DORMANT wakes the node with a WAKE of its own is
the model's choice (log entry 28). -/
def Obligations.NodeRequestsAreServed : Prop :=
  ∀ (s : State) (e : Entry),
    (Takes 1 12 e s → ∃ t, exec .nodeStore s = .next t ∧
      (s.life = .run → s.driveBusy = true → Replied e.requester .refusedBusy s t ∧ Served [] s t) ∧
      (s.life = .run → s.driveBusy = false → e.addressed = true →
        Replied e.requester .done s t ∧ Served [.dispatcher] s t ∧ t.od.restartPending = s.od.restartPending ∧
          (s.popEntry.takeSettings.addressedHead = false → t.od.storePending = true)) ∧
      (s.life = .run → s.driveBusy = false → e.addressed = false →
        Sleeps s.popEntry t ∧
          (t.lc.service = s.lc.service.bind fun v => if v.sending then some { v with overtaken := true } else none) ∧
          ∀ v, s.lc.service = some v → v.sending = false → v.cause ≠ .measureDue →
            ({ s.ts.pending with measureDue := false }.with v.cause).within t.ts.pending) ∧
      (s.life = .listenOnly → Replied e.requester .refusedBusy s t ∧ Served [] s t) ∧
      (s.life = .dormant → Served [] s t)) ∧
    (Takes 1 13 e s → ∃ t, exec .nodeRestart s = .next t ∧
      (s.life = .run → e.addressed = true →
        Replied e.requester .done s t ∧ Served [.dispatcher] s t ∧ t.od.restartPending = true ∧
          t.od.storePending = s.od.storePending) ∧
      (s.life = .listenOnly ∨ e.addressed = false → Restarted s t))

/-- Every OPERATE row, and UNKNOWN_OPERATE_CODE. A function the node does not have is answered NO_FUNCTION, an action outside
its function's BAD_ACTION, and nothing else changes; an entry that the dispatcher does not take stays (R140, R142, R145). -/
def Obligations.UnknownRequestsAreAnswered : Prop :=
  ∀ (s : State) (e : Entry) (c : Instr) (fn act : Nat),
    ((c, fn, act) ∈
        [(Instr.lightOn, 2, 1), (.lightOff, 2, 2), (.lightLevel, 2, 3), (.lightTimed, 2, 4), (.auxOn, 3, 1),
         (.auxOff, 3, 2), (.auxTimed, 3, 4), (.pumpOn, 4, 1), (.pumpOff, 4, 2), (.heaterOn, 5, 1), (.heaterOff, 5, 2),
         (.heaterSet, 5, 5), (.heaterFrostHold, 5, 6), (.dumpReset, 6, 7), (.waterResetVolume, 7, 8),
         (.stepExtend, 8, 9), (.stepRetract, 8, 10), (.stepStop, 8, 11), (.awningExtend, 9, 9),
         (.awningRetract, 9, 10), (.awningStop, 9, 11)] →
      (Takes fn act e s → s.hasFunction (operateOf e.payload) = false →
        ∃ t, exec c s = .next t ∧ Replied e.requester .noFunction s t ∧ Served [] s t) ∧
      (s.od.iq.head? = some e → s.canTake e = false → exec c s = .next s)) ∧
    (s.od.iq.head? = some e → s.canTake e = true → (operateOf e.payload).known = false →
      ∃ t, exec .unknownOperateCode s = .next t ∧ Served [] s t ∧
        Replied e.requester (if s.hasFunction (operateOf e.payload) then .badAction else .noFunction) s t)

/-! ### Settings (10, 12) -/

/-- FROST, WATER, HEAT, WIND, BATTERY_A, BATTERY_V, LINK and TRV records. Each value is clamped into its range, a bound that
follows another by the value taken; a count present is rescaled, a remainder above the new ppl converted, and a new L_island
in use is the limit (R18, R20, R103, R105, R109, R113, R128, R176, R177). -/
def Obligations.ParameterRecordsAreApplied : Prop :=
  ∀ (s : State) (p : List Byte),
    (∀ on : Int, Holds 3 10 p s → on = clampInt 0 100 (wordAt p 1) →
      ∃ t, exec .frostRecord s = .next t ∧ Applied [.water] 10 p s t ∧
        t.wf = { s.wf with
          locks := t.wf.locks
          params := { s.wf.params with
            frostOn := on, frostOff := clampInt (on + 10) 150 (wordAt p 3), dumpEnable := decide (byteAt p 5 ≠ 0),
            dumpTemp := clampInt (-50) (min 50 (on - 10)) (signed16 (wordAt p 6)),
            dumpDelay := clampNat 60 3600 (wordAt p 8) } }) ∧
    (∀ fresh grey ppl, Holds 11 7 p s → fresh = min 240 (byteAt p 1) → grey = min 240 (byteAt p 3) →
      ppl = clampNat 100 5000 (wordAt p 5) →
      ∃ t, exec .waterRecord s = .next t ∧ Applied [.water] 7 p s t ∧
        t.wf = { s.wf with
          locks := t.wf.locks
          params := { s.wf.params with
            freshREmpty := fresh, freshRFull := clampNat (fresh + 10) 250 (byteAt p 2), greyREmpty := grey,
            greyRFull := clampNat (grey + 10) 250 (byteAt p 4), ppl := ppl }
          volume := if ppl < s.wf.remainder then min 9999999 (s.wf.volume + s.wf.remainder / ppl) else s.wf.volume
          remainder := if ppl < s.wf.remainder then s.wf.remainder % ppl else s.wf.remainder }) ∧
    (Holds 4 8 p s →
      ∃ t, exec .heatRecord s = .next t ∧ Applied [.heating] 8 p s t ∧
        t.ht = { s.ht with
          params :=
            { setpoint := clampInt 50 300 (wordAt p 1), hyst := clampInt 2 20 (byteAt p 3),
              heaterEnable := decide (byteAt p 4 ≠ 0), frostHoldEnable := decide (byteAt p 5 ≠ 0),
              frostFloor := clampInt 0 100 (wordAt p 6) }
          setpoint := clampInt 50 300 (wordAt p 1), burner := t.ht.burner, lit := t.ht.lit,
          minimumOn := t.ht.minimumOn, rest := t.ht.rest }) ∧
    (Holds 10 6 p s →
      ∃ t, exec .windRecord s = .next t ∧ Applied [.gust] 6 p s t ∧
        t.gust = { s.gust with
          kWind := clampNat 1 50 (byteAt p 1), threshold := clampNat 20 400 (wordAt p 2),
          lockoutTime := clampNat 60 3600 (wordAt p 4) }) ∧
    (∀ cNom iMax rLo, Holds 5 12 p s → cNom = clampNat 20 800 (wordAt p 1) → iMax = min 2000 (wordAt p 4) →
      rLo = min 98 (byteAt p 8) →
      ∃ t, exec .batteryARecord s = .next t ∧ Applied [.charge] 12 p s t ∧
        t.cc = { s.cc with
          params := { s.cc.params with
            cNom := cNom, eta := clampNat 80 100 (byteAt p 3), iMax := iMax, iEss := min iMax (wordAt p 6), rLo := rLo,
            rHi := clampNat (rLo + 1) 100 (byteAt p 9), iTail := min 1000 (wordAt p 10) }
          count := s.cc.count.map fun n => if n.capacity = cNom then n else ⟨n.q * cNom / n.capacity, n.f, cNom⟩ }) ∧
    (∀ vEmpty, Holds 6 7 p s → vEmpty = clampNat 10000 14000 (wordAt p 3) →
      ∃ t, exec .batteryVRecord s = .next t ∧ Applied [.charge] 7 p s t ∧
        t.cc.params = { s.cc.params with
          vCut := clampNat 10000 13000 (wordAt p 1), vEmpty := vEmpty,
          vFull := clampNat (vEmpty + 100) 16000 (wordAt p 5) } ∧
        (s.cc.estimatedSinceReset = false → t.cc = { s.cc with params := t.cc.params }) ∧
        (s.cc.estimatedSinceReset = true → t.cc = { s.cc with params := t.cc.params }.estimate)) ∧
    (Holds 12 5 p s →
      ∃ t, exec .linkRecord s = .next t ∧ Applied [.peers] 5 p s t ∧
        t.pt = { s.pt with lIsland := min 2000 (wordAt p 1), strangerReserve := min 500 (wordAt p 3) } ∧
        (s.pt.view = none → t.pt.lIsland ≠ s.pt.lIsland → t.lb.lU = t.pt.lIsland)) ∧
    (Holds 13 2 p s →
      ∃ t, exec .trvRecord s = .next t ∧ Applied [.travelLine] 2 p s t ∧
        t.trv = { s.trv with maskIgnition := (byteAt p 1).testBit 1, maskSpeed := (byteAt p 1).testBit 0 })

/-- CHANNEL, CHANNEL_DRIVE, ROUTE and DRIVE records. The channel, the function of the drive, the routing entry or the drive that
the record numbers takes its clamped fields; a change of function ends what the channel or drive was doing; the MEASURE list is
formed again (R59, R60, R84, R98, R174, R176, R177, R186). That SPEED loses the pulses of the input it leaves is the model's choice (log
entry 38). -/
def Obligations.AssignmentRecordsAreApplied : Prop :=
  ∀ (s : State) (p : List Byte),
    (∀ (k : Fin 8) (f : ChFn) (a ab : Nat), Holds 1 12 p s → byteAt p 1 = k.val + 1 → f = chFnOf (byteAt p 2) →
      ab = byteAt p 7 * 65536 + byteAt p 8 * 256 + byteAt p 9 → a = clampNat 1 3599 (ab / 4096) →
      ∃ t, exec .channelRecord s = .next t ∧ Applied [.channelRecords, .channels, .sensors] 12 p s t ∧
        t.sw[k].record =
          (f, (match f with
            | .light => clampNat 1 8 (byteAt p 3)
            | .aux => clampNat 1 4 (byteAt p 3)
            | .tankHeat => clampNat 1 2 (byteAt p 3)
            | _ => 0),
           byteAt p 4 / 64, min 300 (wordAt p 5),
           (if f = .burnerFan then .level else modeOf (byteAt p 4 / 16 % 4)),
           decide (f = .light) && (byteAt p 4).testBit 3, a, clampNat (a + 1) 3600 (ab % 4096), gateOf (byteAt p 10),
           byteAt p 11) ∧
        (f ≠ s.sw[k].fn → (f = .burnerFan → s.ht.burner ≠ .firing) →
          t.sw[k].request = false ∧ t.sw[k].endTimer = none ∧ t.sw[k].target = 0 ∧ t.sw[k].current = 0 ∧
            t.sw[k].exempt = false ∧ t.sw[k].state = .off ∧ t.sw[k].duty = 0 ∧ t.sw[k].fadeTimer = none ∧
            t.sw[k].cycleTimer = none) ∧
        (f = s.sw[k].fn → s.sw[k].heater = false → t.sw[k].core = s.sw[k].core) ∧
        (∀ i : Fin 8, i ≠ k → s.sw[i].Kept (s.ht.burner = .firing) t.sw[i]) ∧
        t.sfe = { s.sfe with measureList := t.measureListNow, pointer := 0 }) ∧
    (∀ (i : DriveId) (f : DriveFn), Holds 1 12 p s → byteAt p 1 = (match i with | .ma => 9 | .mb => 10) →
      f = (if byteAt p 2 = 8 then .step else if byteAt p 2 = 9 then .awning else .none) →
      ∃ t, exec .channelRecordDrive s = .next t ∧ Applied [.driveRecords, .drives, .sensors] 12 p s t ∧
        (f = (s.drive i).fn → (t.drive i).record = (s.drive i).record ∧ (t.drive i).motion = (s.drive i).motion) ∧
        (f ≠ (s.drive i).fn → t.drive i = Drive.blank f) ∧
        (∀ j, j ≠ i → (t.drive j).record = (s.drive j).record ∧ (t.drive j).motion = (s.drive j).motion) ∧
        t.sfe = { s.sfe with measureList := t.measureListNow, pointer := 0 }) ∧
    (∀ (k : Fin 12), Holds 2 3 p s → byteAt p 1 = k.val + 1 →
      ∃ t, exec .routeRecord s = .next t ∧ Applied [.sensors, .interlock, .drives] 3 p s t ∧
        t.sfe = { s.sfe with
          routes := s.sfe.routes.set k.val (routeFnOf k.val (byteAt p 2)) k.isLt, measureList := t.measureListNow,
          pointer := 0, speedTimer := if t.entryOf .speed = s.entryOf .speed then s.sfe.speedTimer else none } ∧
        t.interlock = t.interlockNow) ∧
    (∀ (i : DriveId) (tp : Nat), Holds 7 10 p s → byteAt p 1 = (match i with | .ma => 1 | .mb => 2) →
      tp = clampNat 50 20000 (wordAt p 2) →
      ∃ t, exec .driveRecord s = .next t ∧ Applied [.driveRecords, .sensors] 10 p s t ∧
        (t.drive i).record =
          ((s.drive i).fn, tp, clampNat 10 1200 (wordAt p 4), clampNat 10 300 (wordAt p 6), min 300 (wordAt p 8),
           (if (s.drive i).state = .extended then tp
            else if (s.drive i).state = .parked then min (s.drive i).position tp else (s.drive i).position),
           (s.drive i).jam) ∧
        (∀ j, j ≠ i → (t.drive j).record = (s.drive j).record) ∧
        t.sfe = { s.sfe with measureList := t.measureListNow, pointer := 0 })

/-- CURVE and SCENE records, the default curve and scenes, and records that are not applied: one whose number lies outside its range is
skipped, one cut by the end of the payload or of an unknown type ends the payload; none of these moves the closing timer (R77,
R81, R176, R177). -/
def Obligations.OtherRecordsAreApplied : Prop :=
  (∀ i : Fin 64, levelDuty LightUnit.defaultCurve i.val = 1023 * i.val ^ 2 / 3969) ∧
  (∀ k i : Fin 8, State.reset.light.scenes[k].levels[i] = 255 ∧ State.reset.light.scenes[k].fade = 20) ∧
  ∀ (s : State) (p : List Byte),
    (∀ k : Fin 8, Holds 8 12 p s → byteAt p 1 = k.val →
      ∃ t, exec .curveRecord s = .next t ∧ Applied [.light] 12 p s t ∧
        t.light = { s.light with curve := t.light.curve } ∧
        ∀ i : Fin 64, t.light.curve[i] =
          if i.val / 8 = k.val then bytesNat ((p.drop 2).take 10) / 2 ^ (70 - 10 * (i.val % 8)) % 1024
          else s.light.curve[i]) ∧
    (∀ k : Fin 8, Holds 9 11 p s → byteAt p 1 = k.val + 1 →
      ∃ (t : State) (sc : Scene), exec .sceneRecord s = .next t ∧ Applied [.light] 11 p s t ∧
        t.light = { s.light with scenes := s.light.scenes.set k.val sc k.isLt } ∧ sc.fade = byteAt p 10 ∧
        ∀ i : Fin 8, sc.levels[i] = if byteAt p (i.val + 2) ≤ 63 then byteAt p (i.val + 2) else 255) ∧
    (∀ (c : Instr) (type n : Nat) (out : Bool), Holds type n p s →
      (c, type, out) ∈
        [(Instr.channelRecord, 1, decide (byteAt p 1 = 0 ∨ 10 < byteAt p 1)),
         (.routeRecord, 2, decide (byteAt p 1 = 0 ∨ 12 < byteAt p 1)),
         (.driveRecord, 7, decide (byteAt p 1 = 0 ∨ 2 < byteAt p 1)), (.curveRecord, 8, decide (7 < byteAt p 1)),
         (.sceneRecord, 9, decide (byteAt p 1 = 0 ∨ 8 < byteAt p 1))] → out = true →
      ∃ t, exec c s = .next t ∧ Frame [.inbound] s t ∧ Handed (s.setInHand (leftOf (p.drop n))) t) ∧
    (∀ (c : Instr) (type n : Nat), s.life = .commissioning → s.od.inHand = some p → p ≠ [] → byteAt p 0 = type →
      recordLength type = some n → p.length < n →
      (c, type) ∈
        [(if byteAt p 1 = 9 ∨ byteAt p 1 = 10 then Instr.channelRecordDrive else .channelRecord, 1), (.routeRecord, 2),
         (.frostRecord, 3), (.heatRecord, 4), (.batteryARecord, 5), (.batteryVRecord, 6), (.driveRecord, 7),
         (.curveRecord, 8), (.sceneRecord, 9), (.windRecord, 10), (.waterRecord, 11), (.linkRecord, 12),
         (.trvRecord, 13)] →
      ∃ t, exec c s = .next t ∧ Frame [.inbound] s t ∧ Handed (s.setInHand none) t) ∧
    (s.life = .commissioning → s.od.inHand = some p → recordLength (byteAt p 0) = none →
      ∃ t, exec .unknownRecordType s = .next t ∧ Frame [.inbound] s t ∧ Handed (s.setInHand none) t)

/-! ### What leaves the node (09, 11, 12) -/

/-- What the telegrams and the STATUS pin carry. A STATE read back gives the role, S, the wants up to 4095, the flags word, the
motion codes and the last scene; a BATTERY its SoC, L, battery flags, voltage, temperature in whole degrees and the net current,
the mean of the ring of samples; a MEASURE the four quantities at its pointer with their values, each that of the unit that has
it; the list holds the quantities that the node has; the node drives TRV while an input that its mask selects is active; the STATUS pin shows the life state by its pattern
(R8, R17, R22, R32, R57, R104, R105, R186 to R188; log entry 30 for the double flash). -/
def Obligations.OutputsCarryTheState : Prop :=
  ∀ (s : State) (src : Addr) (now : Nat),
    (∀ p, p = peerOf src now s.statePayload →
      s.statePayload.length = 12 ∧ p.addr = src ∧ p.shed = s.lb.s ∧ p.flags = s.nc.flags ∧
      p.role = (match s.role with | some r => .node r | none => .panel) ∧
      p.wants = ⟨min 4095 s.lb.wOwn.w0, min 4095 s.lb.wOwn.w1, min 4095 s.lb.wOwn.w2, min 4095 s.lb.wOwn.w3⟩ ∧
      (s.ma.fn = .none → p.motionA = 1) ∧ (s.ma.fn ≠ .none → p.motionA = s.ma.state.code) ∧
      (s.mb.fn = .none → p.motionB = 1) ∧ (s.mb.fn ≠ .none → p.motionB = s.mb.state.code) ∧
      (s.light.lastScene ≤ 8 → p.scene = s.light.lastScene)) ∧
    (s.cc.payload.length = 9 ∧
      (s.cc.soc ≤ 100 → s.cc.l ≤ 2000 → battValsOf s.cc.payload = ⟨s.cc.soc, s.cc.l, s.cc.flags⟩) ∧
      (∀ x : Int, x = s.cc.ring.sum.tdiv 100 → -2000 ≤ x → x ≤ 2000 → signed16 (wordAt s.cc.payload 3) = x) ∧
      (s.cc.v ≤ 20000 → wordAt s.cc.payload 5 = s.cc.v) ∧
      (s.cc.tb = none → (s.cc.payload.getD 7 0).toInt = -128) ∧
      (∀ x : Int, s.cc.tb = some x → -400 ≤ x → x ≤ 850 → (s.cc.payload.getD 7 0).toInt = x.tdiv 10) ∧
      ∀ (shunt vbat : Int) (tb : Option Int) (c : ChargeCounter), c = s.cc.sample shunt vbat tb →
        c.ring = if s.cc.ring = [] then List.replicate 10 c.iS else s.cc.ring.drop 1 ++ [c.iS]) ∧
    (s.measurePayload.length = 12 ∧
      ∀ (k : Fin 4) (q : Nat) (x : Int), q = s.sfe.quantityAt k → x = s.quantity q →
        (s.sfe.measureList ≠ [] → s.sfe.measureList[(s.sfe.pointer + k.val) % s.sfe.measureList.length]? = some q) ∧
        (q < 256 → -32768 ≤ x → x ≤ 32767 → (readingsOf s.measurePayload)[k.val]? = some (q, x)) ∧
        (q < 256 → 0 ≤ x → x ≤ 65535 →
          byteAt s.measurePayload (3 * k.val) = q ∧ (wordAt s.measurePayload (3 * k.val + 1) : Int) = x)) ∧
    ((∀ (q : Nat) (fn : RouteFn), (q, fn) ∈ [(1, .cabinT), (2, .outsideT), (3, .freshT), (4, .greyT), (5, .batteryT)] →
        (s.temperature fn = none → s.quantity q = -32768) ∧ ∀ x, s.temperature fn = some x → s.quantity q = x) ∧
      (s.wf.freshPercent = none → s.quantity 6 = -32768) ∧ (∀ pc : Nat, s.wf.freshPercent = some pc → s.quantity 6 = pc) ∧
      (s.wf.greyPercent = none → s.quantity 7 = -32768) ∧ (∀ pc : Nat, s.wf.greyPercent = some pc → s.quantity 7 = pc) ∧
      s.quantity 8 = (min 65535 (s.wf.volume / 100) : Nat) ∧ s.quantity 9 = s.gust.speed ∧ s.quantity 10 = s.ht.setpoint ∧
      (∃ n : Nat, s.quantity 11 = n ∧ n < 1024 ∧
        (∀ i : Fin 8, n.testBit (9 - i.val) = (decide (s.sw[i].state = .fault) || s.sw[i].openLoad)) ∧
        n.testBit 1 = s.ma.jam ∧ n.testBit 0 = s.mb.jam) ∧
      s.quantity 12 = s.lc.badChecks ∧
      s.measureListNow.Pairwise (· < ·) ∧
      ∀ q : Nat, q ∈ s.measureListNow ↔
        (∃ fn : RouteFn, s.routed fn = true ∧
          (q, fn) ∈ [(1, .cabinT), (2, .outsideT), (3, .freshT), (4, .greyT), (5, .batteryT), (6, .freshLevel),
            (7, .greyLevel), (8, .flow), (9, .anemometer)]) ∨
          (q = 10 ∧ ∃ i : Fin 8, s.sw[i].fn = .burner) ∨ q = 11 ∨ q = 12) ∧
    (s.trvDriven = true ↔
      (s.life = .commissioning ∨ s.life = .run ∨ s.life = .dormant) ∧
        ((s.trv.maskIgnition = true ∧ s.ignitionActive = true) ∨ (s.trv.maskSpeed = true ∧ s.speedActive = true))) ∧
    (∀ on : Nat, on = s.now - s.nc.lifeSince →
      s.statusPin = match s.life with
        | .reset | .strapRead | .dormant => false
        | .strapFault => decide (on % 500 < 250)
        | .commissioning => decide (on % 1000 < 100)
        | .run => true
        | .listenOnly => decide (on % 1000 < 100 ∨ (200 ≤ on % 1000 ∧ on % 1000 < 300)))
end

