-- ==== Sys2Proof/Laws/Commands.lean ====
section
/-! SUPPORT. What the shared forms of a command do: the end of a timer, an OPERATE row, a record row, a telegram. Each says
once everything the form can do, under the premises of the statements. -/

namespace Sys2Proof.Machine

variable {s : State}

/-! ### Timers -/

@[simp] theorem State.onExpiry_none (f : State → State) : s.onExpiry none f = s := rfl

@[simp] theorem State.onExpiry_some (e : Nat) (f : State → State) : s.onExpiry (some e) f = f (s.reach e) := rfl

/-! ### OPERATE rows (R140, R142) -/

theorem State.takable_eq_some {p : Operate → Bool} {e : Entry} :
    s.takable p = some e ↔ s.od.iq.head? = some e ∧ s.canTake e = true ∧ p (operateOf e.payload) = true := by
  unfold State.takable
  cases q : s.od.iq with
  | nil => simp
  | cons x xs =>
    simp only [List.head?_cons, Option.some.injEq]
    constructor
    · intro h
      split at h
      · next c => cases h; exact ⟨rfl, c⟩
      · cases h
    · rintro ⟨rfl, c⟩
      exact if_pos c

theorem State.takable_eq_none {p : Operate → Bool} :
    s.takable p = none ↔
      ∀ e, s.od.iq.head? = some e → s.canTake e = true → p (operateOf e.payload) = false := by
  constructor
  · intro h e q c
    cases k : p (operateOf e.payload)
    · rfl
    · rw [State.takable_eq_some.mpr ⟨q, c, k⟩] at h; cases h
  · intro h
    cases k : s.takable p
    · rfl
    · obtain ⟨q, c, r⟩ := State.takable_eq_some.mp k
      rw [h _ q c] at r; cases r

/-- An OPERATE row whose entry is taken: the entry leaves the queue, and the request is handed on or answered NO_FUNCTION. -/
theorem State.operate_taken {fn act : Nat} {body : Operate → Option Requester → State → State} {e : Entry}
    (h : Takes fn act e s) :
    s.operate fn act body =
      (if s.popEntry.hasFunction (operateOf e.payload) then body (operateOf e.payload) e.requester s.popEntry
        else s.popEntry.reply e.requester .noFunction).finish := by
  obtain ⟨q, c, f, a⟩ := h
  unfold State.operate
  rw [State.takable_eq_some.mpr ⟨q, c, by simp [f, a]⟩]

/-- An OPERATE row whose entry is not taken does nothing. -/
theorem State.operate_left {fn act : Nat} {body : Operate → Option Requester → State → State}
    (h : ∀ e, ¬ Takes fn act e s) : s.operate fn act body = s := by
  unfold State.operate
  rw [State.takable_eq_none.mpr]
  intro e q c
  have := h e
  simp only [Takes, q, c, true_and, not_and] at this
  by_cases f : (operateOf e.payload).fn.toNat = fn
  · simp [f, this f]
  · simp [f]

@[simp] theorem State.popEntry_hasFunction (o : Operate) : s.popEntry.hasFunction o = s.hasFunction o := rfl

/-! ### Record rows (R176, R177) -/

theorem State.nextRecord_eq_some {type : Nat} {mine : List Byte → Bool} {p : List Byte} :
    s.nextRecord type mine = some p ↔
      s.life = .commissioning ∧ s.od.inHand = some p ∧ p ≠ [] ∧ byteAt p 0 = type ∧ mine p = true := by
  unfold State.nextRecord
  split
  · next q l h =>
    rw [l, h]
    constructor
    · intro k
      split at k
      · next c => cases k; exact ⟨rfl, rfl, c⟩
      · cases k
    · rintro ⟨-, k, c⟩
      cases k
      exact if_pos c
  · next n =>
    constructor
    · intro k; cases k
    · rintro ⟨l, h, -⟩
      exact absurd h (n p l)

/-- A whole record of the row that is in range is applied to the node with the payload at its next record. -/
theorem State.record_applied {type n : Nat} {mine inRange : List Byte → Bool} {apply : List Byte → State → State}
    {p : List Byte} (h : Holds type n p s) (m : mine p = true) (r : inRange p = true) :
    s.record type mine inRange apply = ((apply (p.take n) (s.setInHand (leftOf (p.drop n)))).moveClosing).finish := by
  obtain ⟨l, i, e, t, k, w⟩ := h
  unfold State.record
  rw [State.nextRecord_eq_some.mpr ⟨l, i, e, t, m⟩]
  have : ¬ p.length < n := by omega
  simp [k, this, r]

/-- A whole record of the row that is out of range is skipped. -/
theorem State.record_skipped {type n : Nat} {mine inRange : List Byte → Bool} {apply : List Byte → State → State}
    {p : List Byte} (h : Holds type n p s) (m : mine p = true) (r : inRange p = false) :
    s.record type mine inRange apply = (s.setInHand (leftOf (p.drop n))).finish := by
  obtain ⟨l, i, e, t, k, w⟩ := h
  unfold State.record
  rw [State.nextRecord_eq_some.mpr ⟨l, i, e, t, m⟩]
  have : ¬ p.length < n := by omega
  simp [k, this, r]

/-- A record that the end of the payload cuts is discarded. -/
theorem State.record_cut {type n : Nat} {mine inRange : List Byte → Bool} {apply : List Byte → State → State}
    {p : List Byte} (l : s.life = .commissioning) (i : s.od.inHand = some p) (e : p ≠ []) (t : byteAt p 0 = type)
    (k : recordLength type = some n) (w : p.length < n) (m : mine p = true) :
    s.record type mine inRange apply = (s.setInHand none).finish := by
  unfold State.record
  rw [State.nextRecord_eq_some.mpr ⟨l, i, e, t, m⟩]
  simp [k, w]

/-! ### Telegrams (R160, R189) -/

theorem State.verdict_handled {src tgt : Addr} (h : Handles src tgt s) :
    (s.onLink LinkController.readTelegram).verdict src tgt = .handled (decide (tgt ≠ 0)) := by
  obtain ⟨-, z, o, n, t⟩ := h
  unfold State.verdict
  have a : (s.onLink LinkController.readTelegram).ownAddr = s.ownAddr := rfl
  rw [a]
  by_cases b : tgt = 0
  · simp [z, o, n, b]
  · have t' : s.ownAddr = some tgt := t.resolve_left b
    have d : some tgt ≠ some src := t' ▸ n
    simp [z, o, b, t'] at d ⊢
    exact d

@[simp] theorem goodCheck_sent (pr : Fin 8) (kind : Nat) (src tgt : Addr) (p : List Byte) :
    goodCheck kind src tgt (sent pr kind src tgt p) = true := by simp [goodCheck, sent]

/-- A good telegram of at most 12 bytes goes to the filter. -/
theorem State.readIn_sent {pr : Fin 8} {kind : Nat} {src tgt : Addr} {p : List Byte} {filter : State → State}
    (r : s.receivable = true) (w : p.length ≤ 12) :
    s.readIn kind src tgt (sent pr kind src tgt p) filter = filter (s.onLink LinkController.readTelegram) := by
  unfold State.readIn
  rw [if_pos r, if_neg (show ¬ 12 < (sent pr kind src tgt p).payload.length from Nat.not_lt.mpr w), goodCheck_sent]
  rfl

/-- A telegram whose check is not the computed one is counted, whatever its kind. -/
theorem State.readIn_bad {kind : Nat} {src tgt : Addr} {a : Arrival} {filter : State → State} (r : s.receivable = true)
    (w : a.payload.length ≤ 12) (b : goodCheck kind src tgt a = false) :
    s.readIn kind src tgt a filter = s.onLink LinkController.countBadCheck := by
  unfold State.readIn
  rw [if_pos r, if_neg (Nat.not_lt.mpr w), b]
  rfl

/-- A telegram longer than any is dropped at its length. -/
theorem State.readIn_long {kind : Nat} {src tgt : Addr} {a : Arrival} {filter : State → State} (r : s.receivable = true)
    (w : 12 < a.payload.length) : s.readIn kind src tgt a filter = s.onLink LinkController.discard := by
  unfold State.readIn
  rw [if_pos r, if_pos w]

/-- A handled telegram whose length fits: HEARD is driven, then the kind's own handling, told whether it was addressed. -/
theorem State.receive_handled {pr : Fin 8} {kind : Nat} {src tgt : Addr} {p : List Byte} {handle : Bool → State → State}
    (h : Handles src tgt s) (w : p.length ≤ 12) :
    s.receive kind src tgt (sent pr kind src tgt p) true handle =
      (handle (decide (tgt ≠ 0)) (s.onLink LinkController.readTelegram).driveHeard).finish := by
  unfold State.receive State.filter
  rw [State.readIn_sent h.1 w, State.verdict_handled h]
  rfl

/-- A handled telegram whose length does not fit its kind: HEARD and nothing else. -/
theorem State.receive_unfit {pr : Fin 8} {kind : Nat} {src tgt : Addr} {p : List Byte} {handle : Bool → State → State}
    (h : Handles src tgt s) (w : p.length ≤ 12) :
    s.receive kind src tgt (sent pr kind src tgt p) false handle =
      (s.onLink LinkController.readTelegram).driveHeard := by
  unfold State.receive State.filter
  rw [State.readIn_sent h.1 w, State.verdict_handled h]
  rfl

end Sys2Proof.Machine
end

