-- ==== Sys2Proof/Laws/State.lean ====
section
/-! SUPPORT. One lemma per field for each shared update of the state, so that no proof unfolds a record update. -/

namespace Sys2Proof.Machine

variable (s : State)

/-! ### reach -/

@[simp] theorem State.reach_now (e : Nat) : (s.reach e).now = max s.now e := rfl
@[simp] theorem State.reach_nc (e : Nat) : (s.reach e).nc = s.nc := rfl
@[simp] theorem State.reach_cc (e : Nat) : (s.reach e).cc = s.cc := rfl
@[simp] theorem State.reach_pt (e : Nat) : (s.reach e).pt = s.pt := rfl
@[simp] theorem State.reach_lb (e : Nat) : (s.reach e).lb = s.lb := rfl
@[simp] theorem State.reach_sw (e : Nat) : (s.reach e).sw = s.sw := rfl
@[simp] theorem State.reach_light (e : Nat) : (s.reach e).light = s.light := rfl
@[simp] theorem State.reach_ma (e : Nat) : (s.reach e).ma = s.ma := rfl
@[simp] theorem State.reach_mb (e : Nat) : (s.reach e).mb = s.mb := rfl
@[simp] theorem State.reach_interlock (e : Nat) : (s.reach e).interlock = s.interlock := rfl
@[simp] theorem State.reach_gust (e : Nat) : (s.reach e).gust = s.gust := rfl
@[simp] theorem State.reach_trv (e : Nat) : (s.reach e).trv = s.trv := rfl
@[simp] theorem State.reach_wf (e : Nat) : (s.reach e).wf = s.wf := rfl
@[simp] theorem State.reach_ht (e : Nat) : (s.reach e).ht = s.ht := rfl
@[simp] theorem State.reach_od (e : Nat) : (s.reach e).od = s.od := rfl
@[simp] theorem State.reach_lc (e : Nat) : (s.reach e).lc = s.lc := rfl
@[simp] theorem State.reach_ts (e : Nat) : (s.reach e).ts = s.ts := rfl
@[simp] theorem State.reach_sfe (e : Nat) : (s.reach e).sfe = s.sfe := rfl
@[simp] theorem State.reach_pending (e : Nat) : (s.reach e).pending = s.pending := rfl

/-! ### onChannels -/

@[simp] theorem State.onChannels_now (f : Channel → Channel) : (s.onChannels f).now = s.now := rfl
@[simp] theorem State.onChannels_nc (f : Channel → Channel) : (s.onChannels f).nc = s.nc := rfl
@[simp] theorem State.onChannels_cc (f : Channel → Channel) : (s.onChannels f).cc = s.cc := rfl
@[simp] theorem State.onChannels_pt (f : Channel → Channel) : (s.onChannels f).pt = s.pt := rfl
@[simp] theorem State.onChannels_lb (f : Channel → Channel) : (s.onChannels f).lb = s.lb := rfl
@[simp] theorem State.onChannels_sw (f : Channel → Channel) : (s.onChannels f).sw = mapChannels f s.sw := rfl
@[simp] theorem State.onChannels_light (f : Channel → Channel) : (s.onChannels f).light = s.light := rfl
@[simp] theorem State.onChannels_ma (f : Channel → Channel) : (s.onChannels f).ma = s.ma := rfl
@[simp] theorem State.onChannels_mb (f : Channel → Channel) : (s.onChannels f).mb = s.mb := rfl
@[simp] theorem State.onChannels_interlock (f : Channel → Channel) : (s.onChannels f).interlock = s.interlock := rfl
@[simp] theorem State.onChannels_gust (f : Channel → Channel) : (s.onChannels f).gust = s.gust := rfl
@[simp] theorem State.onChannels_trv (f : Channel → Channel) : (s.onChannels f).trv = s.trv := rfl
@[simp] theorem State.onChannels_wf (f : Channel → Channel) : (s.onChannels f).wf = s.wf := rfl
@[simp] theorem State.onChannels_ht (f : Channel → Channel) : (s.onChannels f).ht = s.ht := rfl
@[simp] theorem State.onChannels_od (f : Channel → Channel) : (s.onChannels f).od = s.od := rfl
@[simp] theorem State.onChannels_lc (f : Channel → Channel) : (s.onChannels f).lc = s.lc := rfl
@[simp] theorem State.onChannels_ts (f : Channel → Channel) : (s.onChannels f).ts = s.ts := rfl
@[simp] theorem State.onChannels_sfe (f : Channel → Channel) : (s.onChannels f).sfe = s.sfe := rfl
@[simp] theorem State.onChannels_pending (f : Channel → Channel) : (s.onChannels f).pending = s.pending := rfl

/-! ### onHeating -/

@[simp] theorem State.onHeating_now (f : Heating → Heating) : (s.onHeating f).now = s.now := rfl
@[simp] theorem State.onHeating_nc (f : Heating → Heating) : (s.onHeating f).nc = s.nc := rfl
@[simp] theorem State.onHeating_cc (f : Heating → Heating) : (s.onHeating f).cc = s.cc := rfl
@[simp] theorem State.onHeating_pt (f : Heating → Heating) : (s.onHeating f).pt = s.pt := rfl
@[simp] theorem State.onHeating_lb (f : Heating → Heating) : (s.onHeating f).lb = s.lb := rfl
@[simp] theorem State.onHeating_sw (f : Heating → Heating) : (s.onHeating f).sw = s.sw := rfl
@[simp] theorem State.onHeating_light (f : Heating → Heating) : (s.onHeating f).light = s.light := rfl
@[simp] theorem State.onHeating_ma (f : Heating → Heating) : (s.onHeating f).ma = s.ma := rfl
@[simp] theorem State.onHeating_mb (f : Heating → Heating) : (s.onHeating f).mb = s.mb := rfl
@[simp] theorem State.onHeating_interlock (f : Heating → Heating) : (s.onHeating f).interlock = s.interlock := rfl
@[simp] theorem State.onHeating_gust (f : Heating → Heating) : (s.onHeating f).gust = s.gust := rfl
@[simp] theorem State.onHeating_trv (f : Heating → Heating) : (s.onHeating f).trv = s.trv := rfl
@[simp] theorem State.onHeating_wf (f : Heating → Heating) : (s.onHeating f).wf = s.wf := rfl
@[simp] theorem State.onHeating_ht (f : Heating → Heating) : (s.onHeating f).ht = f s.ht := rfl
@[simp] theorem State.onHeating_od (f : Heating → Heating) : (s.onHeating f).od = s.od := rfl
@[simp] theorem State.onHeating_lc (f : Heating → Heating) : (s.onHeating f).lc = s.lc := rfl
@[simp] theorem State.onHeating_ts (f : Heating → Heating) : (s.onHeating f).ts = s.ts := rfl
@[simp] theorem State.onHeating_sfe (f : Heating → Heating) : (s.onHeating f).sfe = s.sfe := rfl
@[simp] theorem State.onHeating_pending (f : Heating → Heating) : (s.onHeating f).pending = s.pending := rfl

/-! ### onWater -/

@[simp] theorem State.onWater_now (f : WaterFrost → WaterFrost) : (s.onWater f).now = s.now := rfl
@[simp] theorem State.onWater_nc (f : WaterFrost → WaterFrost) : (s.onWater f).nc = s.nc := rfl
@[simp] theorem State.onWater_cc (f : WaterFrost → WaterFrost) : (s.onWater f).cc = s.cc := rfl
@[simp] theorem State.onWater_pt (f : WaterFrost → WaterFrost) : (s.onWater f).pt = s.pt := rfl
@[simp] theorem State.onWater_lb (f : WaterFrost → WaterFrost) : (s.onWater f).lb = s.lb := rfl
@[simp] theorem State.onWater_sw (f : WaterFrost → WaterFrost) : (s.onWater f).sw = s.sw := rfl
@[simp] theorem State.onWater_light (f : WaterFrost → WaterFrost) : (s.onWater f).light = s.light := rfl
@[simp] theorem State.onWater_ma (f : WaterFrost → WaterFrost) : (s.onWater f).ma = s.ma := rfl
@[simp] theorem State.onWater_mb (f : WaterFrost → WaterFrost) : (s.onWater f).mb = s.mb := rfl
@[simp] theorem State.onWater_interlock (f : WaterFrost → WaterFrost) : (s.onWater f).interlock = s.interlock := rfl
@[simp] theorem State.onWater_gust (f : WaterFrost → WaterFrost) : (s.onWater f).gust = s.gust := rfl
@[simp] theorem State.onWater_trv (f : WaterFrost → WaterFrost) : (s.onWater f).trv = s.trv := rfl
@[simp] theorem State.onWater_wf (f : WaterFrost → WaterFrost) : (s.onWater f).wf = f s.wf := rfl
@[simp] theorem State.onWater_ht (f : WaterFrost → WaterFrost) : (s.onWater f).ht = s.ht := rfl
@[simp] theorem State.onWater_od (f : WaterFrost → WaterFrost) : (s.onWater f).od = s.od := rfl
@[simp] theorem State.onWater_lc (f : WaterFrost → WaterFrost) : (s.onWater f).lc = s.lc := rfl
@[simp] theorem State.onWater_ts (f : WaterFrost → WaterFrost) : (s.onWater f).ts = s.ts := rfl
@[simp] theorem State.onWater_sfe (f : WaterFrost → WaterFrost) : (s.onWater f).sfe = s.sfe := rfl
@[simp] theorem State.onWater_pending (f : WaterFrost → WaterFrost) : (s.onWater f).pending = s.pending := rfl

/-! ### onPeers -/

@[simp] theorem State.onPeers_now (f : PeerTable → PeerTable) : (s.onPeers f).now = s.now := rfl
@[simp] theorem State.onPeers_nc (f : PeerTable → PeerTable) : (s.onPeers f).nc = s.nc := rfl
@[simp] theorem State.onPeers_cc (f : PeerTable → PeerTable) : (s.onPeers f).cc = s.cc := rfl
@[simp] theorem State.onPeers_pt (f : PeerTable → PeerTable) : (s.onPeers f).pt = f s.pt := rfl
@[simp] theorem State.onPeers_lb (f : PeerTable → PeerTable) : (s.onPeers f).lb = s.lb := rfl
@[simp] theorem State.onPeers_sw (f : PeerTable → PeerTable) : (s.onPeers f).sw = s.sw := rfl
@[simp] theorem State.onPeers_light (f : PeerTable → PeerTable) : (s.onPeers f).light = s.light := rfl
@[simp] theorem State.onPeers_ma (f : PeerTable → PeerTable) : (s.onPeers f).ma = s.ma := rfl
@[simp] theorem State.onPeers_mb (f : PeerTable → PeerTable) : (s.onPeers f).mb = s.mb := rfl
@[simp] theorem State.onPeers_interlock (f : PeerTable → PeerTable) : (s.onPeers f).interlock = s.interlock := rfl
@[simp] theorem State.onPeers_gust (f : PeerTable → PeerTable) : (s.onPeers f).gust = s.gust := rfl
@[simp] theorem State.onPeers_trv (f : PeerTable → PeerTable) : (s.onPeers f).trv = s.trv := rfl
@[simp] theorem State.onPeers_wf (f : PeerTable → PeerTable) : (s.onPeers f).wf = s.wf := rfl
@[simp] theorem State.onPeers_ht (f : PeerTable → PeerTable) : (s.onPeers f).ht = s.ht := rfl
@[simp] theorem State.onPeers_od (f : PeerTable → PeerTable) : (s.onPeers f).od = s.od := rfl
@[simp] theorem State.onPeers_lc (f : PeerTable → PeerTable) : (s.onPeers f).lc = s.lc := rfl
@[simp] theorem State.onPeers_ts (f : PeerTable → PeerTable) : (s.onPeers f).ts = s.ts := rfl
@[simp] theorem State.onPeers_sfe (f : PeerTable → PeerTable) : (s.onPeers f).sfe = s.sfe := rfl
@[simp] theorem State.onPeers_pending (f : PeerTable → PeerTable) : (s.onPeers f).pending = s.pending := rfl

/-! ### onLink -/

@[simp] theorem State.onLink_now (f : LinkController → LinkController) : (s.onLink f).now = s.now := rfl
@[simp] theorem State.onLink_nc (f : LinkController → LinkController) : (s.onLink f).nc = s.nc := rfl
@[simp] theorem State.onLink_cc (f : LinkController → LinkController) : (s.onLink f).cc = s.cc := rfl
@[simp] theorem State.onLink_pt (f : LinkController → LinkController) : (s.onLink f).pt = s.pt := rfl
@[simp] theorem State.onLink_lb (f : LinkController → LinkController) : (s.onLink f).lb = s.lb := rfl
@[simp] theorem State.onLink_sw (f : LinkController → LinkController) : (s.onLink f).sw = s.sw := rfl
@[simp] theorem State.onLink_light (f : LinkController → LinkController) : (s.onLink f).light = s.light := rfl
@[simp] theorem State.onLink_ma (f : LinkController → LinkController) : (s.onLink f).ma = s.ma := rfl
@[simp] theorem State.onLink_mb (f : LinkController → LinkController) : (s.onLink f).mb = s.mb := rfl
@[simp] theorem State.onLink_interlock (f : LinkController → LinkController) : (s.onLink f).interlock = s.interlock := rfl
@[simp] theorem State.onLink_gust (f : LinkController → LinkController) : (s.onLink f).gust = s.gust := rfl
@[simp] theorem State.onLink_trv (f : LinkController → LinkController) : (s.onLink f).trv = s.trv := rfl
@[simp] theorem State.onLink_wf (f : LinkController → LinkController) : (s.onLink f).wf = s.wf := rfl
@[simp] theorem State.onLink_ht (f : LinkController → LinkController) : (s.onLink f).ht = s.ht := rfl
@[simp] theorem State.onLink_od (f : LinkController → LinkController) : (s.onLink f).od = s.od := rfl
@[simp] theorem State.onLink_lc (f : LinkController → LinkController) : (s.onLink f).lc = f s.lc := rfl
@[simp] theorem State.onLink_ts (f : LinkController → LinkController) : (s.onLink f).ts = s.ts := rfl
@[simp] theorem State.onLink_sfe (f : LinkController → LinkController) : (s.onLink f).sfe = s.sfe := rfl
@[simp] theorem State.onLink_pending (f : LinkController → LinkController) : (s.onLink f).pending = s.pending := rfl

/-! ### onCauses -/

@[simp] theorem State.onCauses_now (f : Causes → Causes) : (s.onCauses f).now = s.now := rfl
@[simp] theorem State.onCauses_nc (f : Causes → Causes) : (s.onCauses f).nc = s.nc := rfl
@[simp] theorem State.onCauses_cc (f : Causes → Causes) : (s.onCauses f).cc = s.cc := rfl
@[simp] theorem State.onCauses_pt (f : Causes → Causes) : (s.onCauses f).pt = s.pt := rfl
@[simp] theorem State.onCauses_lb (f : Causes → Causes) : (s.onCauses f).lb = s.lb := rfl
@[simp] theorem State.onCauses_sw (f : Causes → Causes) : (s.onCauses f).sw = s.sw := rfl
@[simp] theorem State.onCauses_light (f : Causes → Causes) : (s.onCauses f).light = s.light := rfl
@[simp] theorem State.onCauses_ma (f : Causes → Causes) : (s.onCauses f).ma = s.ma := rfl
@[simp] theorem State.onCauses_mb (f : Causes → Causes) : (s.onCauses f).mb = s.mb := rfl
@[simp] theorem State.onCauses_interlock (f : Causes → Causes) : (s.onCauses f).interlock = s.interlock := rfl
@[simp] theorem State.onCauses_gust (f : Causes → Causes) : (s.onCauses f).gust = s.gust := rfl
@[simp] theorem State.onCauses_trv (f : Causes → Causes) : (s.onCauses f).trv = s.trv := rfl
@[simp] theorem State.onCauses_wf (f : Causes → Causes) : (s.onCauses f).wf = s.wf := rfl
@[simp] theorem State.onCauses_ht (f : Causes → Causes) : (s.onCauses f).ht = s.ht := rfl
@[simp] theorem State.onCauses_od (f : Causes → Causes) : (s.onCauses f).od = s.od := rfl
@[simp] theorem State.onCauses_lc (f : Causes → Causes) : (s.onCauses f).lc = s.lc := rfl
@[simp] theorem State.onCauses_ts (f : Causes → Causes) : (s.onCauses f).ts = { s.ts with pending := f s.ts.pending } := rfl
@[simp] theorem State.onCauses_sfe (f : Causes → Causes) : (s.onCauses f).sfe = s.sfe := rfl
@[simp] theorem State.onCauses_pending (f : Causes → Causes) : (s.onCauses f).pending = s.pending := rfl

/-! ### trigger -/

@[simp] theorem State.trigger_now : s.trigger.now = s.now := rfl
@[simp] theorem State.trigger_nc : s.trigger.nc = s.nc := rfl
@[simp] theorem State.trigger_cc : s.trigger.cc = s.cc := rfl
@[simp] theorem State.trigger_pt : s.trigger.pt = s.pt := rfl
@[simp] theorem State.trigger_lb : s.trigger.lb = { s.lb with trigger := true } := rfl
@[simp] theorem State.trigger_sw : s.trigger.sw = s.sw := rfl
@[simp] theorem State.trigger_light : s.trigger.light = s.light := rfl
@[simp] theorem State.trigger_ma : s.trigger.ma = s.ma := rfl
@[simp] theorem State.trigger_mb : s.trigger.mb = s.mb := rfl
@[simp] theorem State.trigger_interlock : s.trigger.interlock = s.interlock := rfl
@[simp] theorem State.trigger_gust : s.trigger.gust = s.gust := rfl
@[simp] theorem State.trigger_trv : s.trigger.trv = s.trv := rfl
@[simp] theorem State.trigger_wf : s.trigger.wf = s.wf := rfl
@[simp] theorem State.trigger_ht : s.trigger.ht = s.ht := rfl
@[simp] theorem State.trigger_od : s.trigger.od = s.od := rfl
@[simp] theorem State.trigger_lc : s.trigger.lc = s.lc := rfl
@[simp] theorem State.trigger_ts : s.trigger.ts = s.ts := rfl
@[simp] theorem State.trigger_sfe : s.trigger.sfe = s.sfe := rfl
@[simp] theorem State.trigger_pending : s.trigger.pending = s.pending := rfl

/-! ### setInHand -/

@[simp] theorem State.setInHand_now (p : Option (List Byte)) : (s.setInHand p).now = s.now := rfl
@[simp] theorem State.setInHand_nc (p : Option (List Byte)) : (s.setInHand p).nc = s.nc := rfl
@[simp] theorem State.setInHand_cc (p : Option (List Byte)) : (s.setInHand p).cc = s.cc := rfl
@[simp] theorem State.setInHand_pt (p : Option (List Byte)) : (s.setInHand p).pt = s.pt := rfl
@[simp] theorem State.setInHand_lb (p : Option (List Byte)) : (s.setInHand p).lb = s.lb := rfl
@[simp] theorem State.setInHand_sw (p : Option (List Byte)) : (s.setInHand p).sw = s.sw := rfl
@[simp] theorem State.setInHand_light (p : Option (List Byte)) : (s.setInHand p).light = s.light := rfl
@[simp] theorem State.setInHand_ma (p : Option (List Byte)) : (s.setInHand p).ma = s.ma := rfl
@[simp] theorem State.setInHand_mb (p : Option (List Byte)) : (s.setInHand p).mb = s.mb := rfl
@[simp] theorem State.setInHand_interlock (p : Option (List Byte)) : (s.setInHand p).interlock = s.interlock := rfl
@[simp] theorem State.setInHand_gust (p : Option (List Byte)) : (s.setInHand p).gust = s.gust := rfl
@[simp] theorem State.setInHand_trv (p : Option (List Byte)) : (s.setInHand p).trv = s.trv := rfl
@[simp] theorem State.setInHand_wf (p : Option (List Byte)) : (s.setInHand p).wf = s.wf := rfl
@[simp] theorem State.setInHand_ht (p : Option (List Byte)) : (s.setInHand p).ht = s.ht := rfl
@[simp] theorem State.setInHand_od (p : Option (List Byte)) : (s.setInHand p).od = { s.od with inHand := p } := rfl
@[simp] theorem State.setInHand_lc (p : Option (List Byte)) : (s.setInHand p).lc = s.lc := rfl
@[simp] theorem State.setInHand_ts (p : Option (List Byte)) : (s.setInHand p).ts = s.ts := rfl
@[simp] theorem State.setInHand_sfe (p : Option (List Byte)) : (s.setInHand p).sfe = s.sfe := rfl
@[simp] theorem State.setInHand_pending (p : Option (List Byte)) : (s.setInHand p).pending = s.pending := rfl

/-! ### popEntry -/

@[simp] theorem State.popEntry_now : s.popEntry.now = s.now := rfl
@[simp] theorem State.popEntry_nc : s.popEntry.nc = s.nc := rfl
@[simp] theorem State.popEntry_cc : s.popEntry.cc = s.cc := rfl
@[simp] theorem State.popEntry_pt : s.popEntry.pt = s.pt := rfl
@[simp] theorem State.popEntry_lb : s.popEntry.lb = s.lb := rfl
@[simp] theorem State.popEntry_sw : s.popEntry.sw = s.sw := rfl
@[simp] theorem State.popEntry_light : s.popEntry.light = s.light := rfl
@[simp] theorem State.popEntry_ma : s.popEntry.ma = s.ma := rfl
@[simp] theorem State.popEntry_mb : s.popEntry.mb = s.mb := rfl
@[simp] theorem State.popEntry_interlock : s.popEntry.interlock = s.interlock := rfl
@[simp] theorem State.popEntry_gust : s.popEntry.gust = s.gust := rfl
@[simp] theorem State.popEntry_trv : s.popEntry.trv = s.trv := rfl
@[simp] theorem State.popEntry_wf : s.popEntry.wf = s.wf := rfl
@[simp] theorem State.popEntry_ht : s.popEntry.ht = s.ht := rfl
@[simp] theorem State.popEntry_od : s.popEntry.od = { s.od with iq := s.od.iq.tail } := rfl
@[simp] theorem State.popEntry_lc : s.popEntry.lc = s.lc := rfl
@[simp] theorem State.popEntry_ts : s.popEntry.ts = s.ts := rfl
@[simp] theorem State.popEntry_sfe : s.popEntry.sfe = s.sfe := rfl
@[simp] theorem State.popEntry_pending : s.popEntry.pending = s.pending := rfl

/-! ### setQuietWake -/

@[simp] theorem State.setQuietWake_now (x : Option Nat) : (s.setQuietWake x).now = s.now := rfl
@[simp] theorem State.setQuietWake_nc (x : Option Nat) : (s.setQuietWake x).nc = { s.nc with quietWake := x } := rfl
@[simp] theorem State.setQuietWake_cc (x : Option Nat) : (s.setQuietWake x).cc = s.cc := rfl
@[simp] theorem State.setQuietWake_pt (x : Option Nat) : (s.setQuietWake x).pt = s.pt := rfl
@[simp] theorem State.setQuietWake_lb (x : Option Nat) : (s.setQuietWake x).lb = s.lb := rfl
@[simp] theorem State.setQuietWake_sw (x : Option Nat) : (s.setQuietWake x).sw = s.sw := rfl
@[simp] theorem State.setQuietWake_light (x : Option Nat) : (s.setQuietWake x).light = s.light := rfl
@[simp] theorem State.setQuietWake_ma (x : Option Nat) : (s.setQuietWake x).ma = s.ma := rfl
@[simp] theorem State.setQuietWake_mb (x : Option Nat) : (s.setQuietWake x).mb = s.mb := rfl
@[simp] theorem State.setQuietWake_interlock (x : Option Nat) : (s.setQuietWake x).interlock = s.interlock := rfl
@[simp] theorem State.setQuietWake_gust (x : Option Nat) : (s.setQuietWake x).gust = s.gust := rfl
@[simp] theorem State.setQuietWake_trv (x : Option Nat) : (s.setQuietWake x).trv = s.trv := rfl
@[simp] theorem State.setQuietWake_wf (x : Option Nat) : (s.setQuietWake x).wf = s.wf := rfl
@[simp] theorem State.setQuietWake_ht (x : Option Nat) : (s.setQuietWake x).ht = s.ht := rfl
@[simp] theorem State.setQuietWake_od (x : Option Nat) : (s.setQuietWake x).od = s.od := rfl
@[simp] theorem State.setQuietWake_lc (x : Option Nat) : (s.setQuietWake x).lc = s.lc := rfl
@[simp] theorem State.setQuietWake_ts (x : Option Nat) : (s.setQuietWake x).ts = s.ts := rfl
@[simp] theorem State.setQuietWake_sfe (x : Option Nat) : (s.setQuietWake x).sfe = s.sfe := rfl
@[simp] theorem State.setQuietWake_pending (x : Option Nat) : (s.setQuietWake x).pending = s.pending := rfl

/-! ### onChannel and setDrive -/

@[simp] theorem State.onChannel_now (i : Fin 8) (g : Channel → Channel) : (s.onChannel i g).now = s.now := rfl
@[simp] theorem State.onChannel_nc (i : Fin 8) (g : Channel → Channel) : (s.onChannel i g).nc = s.nc := rfl
@[simp] theorem State.onChannel_cc (i : Fin 8) (g : Channel → Channel) : (s.onChannel i g).cc = s.cc := rfl
@[simp] theorem State.onChannel_pt (i : Fin 8) (g : Channel → Channel) : (s.onChannel i g).pt = s.pt := rfl
@[simp] theorem State.onChannel_lb (i : Fin 8) (g : Channel → Channel) : (s.onChannel i g).lb = s.lb := rfl
@[simp] theorem State.onChannel_sw (i : Fin 8) (g : Channel → Channel) : (s.onChannel i g).sw = s.sw.set i.val (g s.sw[i]) i.isLt := rfl
@[simp] theorem State.onChannel_light (i : Fin 8) (g : Channel → Channel) : (s.onChannel i g).light = s.light := rfl
@[simp] theorem State.onChannel_ma (i : Fin 8) (g : Channel → Channel) : (s.onChannel i g).ma = s.ma := rfl
@[simp] theorem State.onChannel_mb (i : Fin 8) (g : Channel → Channel) : (s.onChannel i g).mb = s.mb := rfl
@[simp] theorem State.onChannel_interlock (i : Fin 8) (g : Channel → Channel) : (s.onChannel i g).interlock = s.interlock := rfl
@[simp] theorem State.onChannel_gust (i : Fin 8) (g : Channel → Channel) : (s.onChannel i g).gust = s.gust := rfl
@[simp] theorem State.onChannel_trv (i : Fin 8) (g : Channel → Channel) : (s.onChannel i g).trv = s.trv := rfl
@[simp] theorem State.onChannel_wf (i : Fin 8) (g : Channel → Channel) : (s.onChannel i g).wf = s.wf := rfl
@[simp] theorem State.onChannel_ht (i : Fin 8) (g : Channel → Channel) : (s.onChannel i g).ht = s.ht := rfl
@[simp] theorem State.onChannel_od (i : Fin 8) (g : Channel → Channel) : (s.onChannel i g).od = s.od := rfl
@[simp] theorem State.onChannel_lc (i : Fin 8) (g : Channel → Channel) : (s.onChannel i g).lc = s.lc := rfl
@[simp] theorem State.onChannel_ts (i : Fin 8) (g : Channel → Channel) : (s.onChannel i g).ts = s.ts := rfl
@[simp] theorem State.onChannel_sfe (i : Fin 8) (g : Channel → Channel) : (s.onChannel i g).sfe = s.sfe := rfl
@[simp] theorem State.onChannel_pending (i : Fin 8) (g : Channel → Channel) : (s.onChannel i g).pending = s.pending := rfl

@[simp] theorem State.setDrive_now (i : DriveId) (d : Drive) : (s.setDrive i d).now = s.now := by cases i <;> rfl
@[simp] theorem State.setDrive_nc (i : DriveId) (d : Drive) : (s.setDrive i d).nc = s.nc := by cases i <;> rfl
@[simp] theorem State.setDrive_cc (i : DriveId) (d : Drive) : (s.setDrive i d).cc = s.cc := by cases i <;> rfl
@[simp] theorem State.setDrive_pt (i : DriveId) (d : Drive) : (s.setDrive i d).pt = s.pt := by cases i <;> rfl
@[simp] theorem State.setDrive_lb (i : DriveId) (d : Drive) : (s.setDrive i d).lb = s.lb := by cases i <;> rfl
@[simp] theorem State.setDrive_sw (i : DriveId) (d : Drive) : (s.setDrive i d).sw = s.sw := by cases i <;> rfl
@[simp] theorem State.setDrive_light (i : DriveId) (d : Drive) : (s.setDrive i d).light = s.light := by cases i <;> rfl
@[simp] theorem State.setDrive_interlock (i : DriveId) (d : Drive) : (s.setDrive i d).interlock = s.interlock := by cases i <;> rfl
@[simp] theorem State.setDrive_gust (i : DriveId) (d : Drive) : (s.setDrive i d).gust = s.gust := by cases i <;> rfl
@[simp] theorem State.setDrive_trv (i : DriveId) (d : Drive) : (s.setDrive i d).trv = s.trv := by cases i <;> rfl
@[simp] theorem State.setDrive_wf (i : DriveId) (d : Drive) : (s.setDrive i d).wf = s.wf := by cases i <;> rfl
@[simp] theorem State.setDrive_ht (i : DriveId) (d : Drive) : (s.setDrive i d).ht = s.ht := by cases i <;> rfl
@[simp] theorem State.setDrive_od (i : DriveId) (d : Drive) : (s.setDrive i d).od = s.od := by cases i <;> rfl
@[simp] theorem State.setDrive_lc (i : DriveId) (d : Drive) : (s.setDrive i d).lc = s.lc := by cases i <;> rfl
@[simp] theorem State.setDrive_ts (i : DriveId) (d : Drive) : (s.setDrive i d).ts = s.ts := by cases i <;> rfl
@[simp] theorem State.setDrive_sfe (i : DriveId) (d : Drive) : (s.setDrive i d).sfe = s.sfe := by cases i <;> rfl
@[simp] theorem State.setDrive_pending (i : DriveId) (d : Drive) : (s.setDrive i d).pending = s.pending := by cases i <;> rfl

@[simp] theorem State.drive_ma : s.drive .ma = s.ma := rfl
@[simp] theorem State.drive_mb : s.drive .mb = s.mb := rfl
@[simp] theorem State.drive_setDrive (i : DriveId) (d : Drive) : (s.setDrive i d).drive i = d := by cases i <;> rfl

theorem State.drive_setDrive_ne {i j : DriveId} (h : j ≠ i) (d : Drive) : (s.setDrive i d).drive j = s.drive j := by
  cases i <;> cases j <;> first | rfl | exact absurd rfl h

/-! ### Channels of a changed state -/

theorem mapChannels_get (f : Channel → Channel) (v : Vector Channel 8) (i : Fin 8) :
    (mapChannels f v)[i] = f v[i] := by
  fin_cases i <;> rfl

@[simp] theorem mapChannels_getElem (f : Channel → Channel) (v : Vector Channel 8) (n : Nat) (h : n < 8) :
    (mapChannels f v)[n] = f v[n] := mapChannels_get f v ⟨n, h⟩

theorem State.onChannel_get (i : Fin 8) (g : Channel → Channel) : (s.onChannel i g).sw[i] = g s.sw[i] := by
  simp

theorem State.onChannel_get_ne {i j : Fin 8} (h : j ≠ i) (g : Channel → Channel) : (s.onChannel i g).sw[j] = s.sw[j] := by
  have : i.val ≠ j.val := fun e => h (Fin.ext e.symm)
  simp [Vector.getElem_set_ne, this]

/-! ### Requests and fades of a channel -/

/-- What the end of a fade can do: nothing, or, at level 0 with target 0, the end of the request (R78, R80). -/
theorem Channel.endFade_cases (c : Channel) :
    c.endFade = c ∨ (c.target = 0 ∧ c.current = 0 ∧ c.endFade.request = false ∧ c.endFade.endTimer = none) := by
  unfold Channel.endFade
  split
  · next h => exact .inr ⟨h.1, h.2, rfl, rfl⟩
  · exact .inl rfl

@[simp] theorem Channel.endFade_target (c : Channel) : c.endFade.target = c.target := by
  unfold Channel.endFade; split <;> rfl

@[simp] theorem Channel.setTarget_target (now interval target : Nat) (c : Channel) :
    (c.setTarget now interval target).target = target := by
  unfold Channel.setTarget
  split
  · next h => exact h.1.symm
  · split
    · simp
    · split <;> simp

@[simp] theorem Channel.requestOff_request (c : Channel) : c.requestOff.request = false := rfl

@[simp] theorem Channel.fadeOut_target (now interval : Nat) (c : Channel) : (c.fadeOut now interval).target = 0 :=
  Channel.setTarget_target _ _ _ _

end Sys2Proof.Machine
end

