-- ==== Sys2Proof/Laws/Frame.lean ====
section
/-! SUPPORT. Frames: what they give, how they compose, and the frame of each shared operation. -/

namespace Sys2Proof.Machine

/-! ### Channels and drives -/

theorem Channel.Kept.refl (p : Prop) (c : Channel) : c.Kept p c := ⟨rfl, fun _ => rfl, rfl, rfl, Iff.rfl, Iff.rfl, id⟩

theorem Channel.heater_of_record {c d : Channel} (h : d.record = c.record) : d.heater = c.heater := by
  have : d.fn = c.fn := congrArg Prod.fst h
  simp [Channel.heater, this]

theorem Channel.Kept.trans {p q : Prop} {c d e : Channel} (i : q → p) (h : c.Kept p d) (g : d.Kept q e) :
    c.Kept p e := by
  obtain ⟨h1, h2, h3, h4, h5, h6, h7⟩ := h
  obtain ⟨g1, g2, g3, g4, g5, g6, g7⟩ := g
  refine ⟨g1.trans h1, fun n => (g2 ?_).trans (h2 n), g3.trans h3, g4.trans h4, g5.trans h5, g6.trans h6,
    fun e => h7 (g7 e)⟩
  rcases n with n | n
  · exact .inl (by rw [Channel.heater_of_record h1, n])
  · exact .inr fun m => n (i m)

theorem Drive.Stands.refl (v : Interlock) (d : Drive) : d.Stands v d := ⟨fun _ => rfl, fun _ => .inr (.inl rfl)⟩

theorem Drive.state_of_motion {d e : Drive} (h : e.motion = d.motion) : e.state = d.state := congrArg Prod.fst h

/-- The motion as four of its fields, enough to compare a wait with what becomes of it. -/
theorem Drive.fields_of_motion {d e : Drive} (h : e.motion = d.motion) :
    e.state = d.state ∧ e.direction = d.direction ∧ e.homing = d.homing ∧ e.forced = d.forced := by
  simp only [Drive.motion, Prod.mk.injEq] at h
  exact ⟨h.1, h.2.2.1, h.2.2.2.2.1, h.2.2.2.2.2.1⟩

theorem Drive.fn_of_record {d e : Drive} (h : e.record = d.record) : e.fn = d.fn := congrArg Prod.fst h

theorem Drive.Stands.trans {v : Interlock} {d e f : Drive} (r : e.fn = d.fn) (h : d.Stands v e) (g : e.Stands v f) :
    d.Stands v f := by
  refine ⟨fun n => ?_, fun w => ?_⟩
  · have e1 := h.1 n
    exact (g.1 (by rwa [Drive.state_of_motion e1])).trans e1
  · rcases h.2 w with a | a | ⟨a1, a2, a3, a4⟩
    · exact .inl a
    · obtain ⟨m1, m2, m3, m4⟩ := Drive.fields_of_motion a
      rcases g.2 (by rw [m1, w]) with b | b | b
      · exact .inl (by rwa [r, m2] at b)
      · exact .inr (.inl (b.trans a))
      · exact .inr (.inr (by rwa [m2, m3, m4] at b))
    · have n : e.state ≠ .waitGrant := by rw [a4]; split <;> simp
      obtain ⟨m1, m2, m3, m4⟩ := Drive.fields_of_motion (g.1 n)
      exact .inr (.inr ⟨m2.trans a1, m3.trans a2, m4.trans a3, m1.trans a4⟩)

/-! ### Same and Frame -/

theorem Same.refl (b : Block) (s : State) : Same b s s := by
  cases b
  case channels => exact ⟨fun _ => rfl, fun w _ => .inl w, fun _ => Channel.Kept.refl _ _⟩
  all_goals simp [Same, Drive.Stands.refl]

/-- Channels and heating that are as they were. -/
theorem same_channels {s t : State} (w : t.sw = s.sw) (h : t.ht = s.ht) : Same .channels s t :=
  ⟨fun _ => by rw [h], fun f _ => .inl (by rw [h, f]), fun i => by rw [w]; exact Channel.Kept.refl _ _⟩

theorem Same.life_eq {s t u : State} (h : Same .life s t) (g : Same .life t u) (e : u.life = s.life) :
    t.life = s.life := by
  rcases h with h | ⟨h, h'⟩
  · exact h
  · rcases g with g | ⟨g, g'⟩
    · rw [← g, e]
    · rw [h'] at g; cases g

theorem Same.drive_fn {s t : State} (h : Same .driveRecords s t) (i : DriveId) : (t.drive i).fn = (s.drive i).fn := by
  cases i
  · exact Drive.fn_of_record h.1
  · exact Drive.fn_of_record h.2

theorem anyChannel_congr {s t : State} {p q : Channel → Bool} (h : ∀ i : Fin 8, q t.sw[i] = p s.sw[i]) :
    t.anyChannel q = s.anyChannel p := by
  have h0 := h 0
  have h1 := h 1
  have h2 := h 2
  have h3 := h 3
  have h4 := h 4
  have h5 := h 5
  have h6 := h 6
  have h7 := h 7
  simp only [Fin.getElem_fin] at h0 h1 h2 h3 h4 h5 h6 h7
  unfold State.anyChannel
  exact congrArg₂ _ (congrArg₂ _ (congrArg₂ _ (congrArg₂ _ (congrArg₂ _ (congrArg₂ _ (congrArg₂ _ h0 h1) h2) h3) h4) h5) h6) h7

/-- Channels that are kept have the same function and are in FAULT together. -/
theorem channelFaulted_of_kept {p : Prop} {s t : State} (h : ∀ i : Fin 8, s.sw[i].Kept p t.sw[i]) (fn : ChFn) :
    t.channelFaulted fn = s.channelFaulted fn := by
  refine anyChannel_congr fun i => ?_
  have f : t.sw[i].fn = s.sw[i].fn := congrArg Prod.fst (h i).1
  have g := (h i).2.2.2.2.1
  rw [f]
  by_cases e : s.sw[i].state = .fault
  · simp only [e, g.2 e]
  · simp only [e, mt g.1 e]

theorem heaterFaulted_of_kept {p : Prop} {s t : State} (h : ∀ i : Fin 8, s.sw[i].Kept p t.sw[i]) :
    t.heaterFaulted = s.heaterFaulted := by
  unfold State.heaterFaulted
  rw [channelFaulted_of_kept h, channelFaulted_of_kept h]

/-- The blocks that stand alone are transitive. -/
theorem Same.trans_alone {b : Block} {s t u : State} (m : b ∉ [Block.life, .scheduler, .drives]) (h : Same b s t)
    (g : Same b t u) : Same b s u := by
  cases b <;> simp at m
  case node => exact Eq.trans g (by rw [show t.nc = _ from h])
  case water => exact Eq.trans g (by rw [show t.wf = _ from h])
  case heating =>
    refine ⟨Eq.trans g.1 (by rw [h.1]), fun n => ?_⟩
    have e := h.2 n
    exact (g.2 (by rwa [e])).trans e
  case link =>
    refine ⟨Eq.trans g.1 (by rw [h.1]), ?_⟩
    have twice : ∀ o : Option Service, (o.map Service.overtake).map Service.overtake = o.map Service.overtake := by
      intro o; cases o <;> rfl
    rcases g.2 with e | e | e
    · rw [e]; exact h.2
    · rcases h.2 with f | f | f <;> rw [f] at e
      · exact .inr (.inl e)
      · exact .inr (.inl (e.trans (twice _)))
      · exact .inr (.inr e)
    · exact .inr (.inr e)
  case answers => exact List.IsPrefix.trans h g
  case channels =>
    have i : t.ht.burner = .firing → s.ht.burner = .firing := fun e => by
      by_contra n
      exact n (h.1 n ▸ e)
    refine ⟨fun n => (g.1 (by rwa [h.1 n])).trans (h.1 n), fun w f => ?_, fun k => (h.2.2 k).trans i (g.2.2 k)⟩
    rcases h.2.1 w f with e | e
    · exact g.2.1 e (by rw [heaterFaulted_of_kept h.2.2, f])
    · exact .inr ((g.1 (by rw [e]; simp)).trans e)
  all_goals simp_all [Same]

theorem Same.trans_life {s t u : State} (h : Same .life s t) (g : Same .life t u) : Same .life s u := by
  rcases h with h | ⟨h, h'⟩ <;> rcases g with g | ⟨g, g'⟩ <;> simp_all [Same]

theorem Same.trans_scheduler {s t u : State} (l : Same .life s t) (m : Same .life t u) (h : Same .scheduler s t)
    (g : Same .scheduler t u) : Same .scheduler s u := by
  obtain ⟨h1, h2, h3, h4⟩ := h
  obtain ⟨g1, g2, g3, g4⟩ := g
  refine ⟨g1.trans h1, g2.trans h2, g3.trans h3, fun e => ?_⟩
  have e1 := l.life_eq m e
  exact (g4 (e.trans e1.symm)).trans (h4 e1)

theorem Same.trans_drives {s t u : State} (l : Same .life s t) (m : Same .life t u) (v : Same .interlock s t)
    (r : Same .driveRecords s t) (h : Same .drives s t) (g : Same .drives t u) : Same .drives s u := by
  intro e i
  have e1 := l.life_eq m e
  have g1 := g (e.trans e1.symm) i
  rw [show t.interlock = s.interlock from v] at g1
  exact (h e1 i).trans (r.drive_fn i) g1

theorem Frame.refl (c : List Block) (s : State) : Frame c s s := fun b _ => Same.refl b s

theorem Frame.mono {c d : List Block} {s t : State} (h : Frame c s t) (i : ∀ b ∈ c, b ∈ d) : Frame d s t :=
  fun b n => h b fun m => n (i b m)

theorem Frame.widen {c d : List Block} {s t : State} (h : Frame c s t) (i : c ⊆ d) : Frame d s t :=
  h.mono fun _ m => i m

/-- Frames compose: those that speak of the life state, and of a drive that waits, need the blocks they rest on. -/
def Composes (c : List Block) : Prop :=
  (Block.life ∉ c ∨ (Block.drives ∈ c ∧ Block.scheduler ∈ c)) ∧
    (Block.drives ∈ c ∨ (Block.interlock ∉ c ∧ Block.driveRecords ∉ c))

theorem Frame.trans {c : List Block} {s t u : State} (n : Composes c) (h : Frame c s t) (g : Frame c t u) :
    Frame c s u := by
  intro b m
  have h1 := h b m
  have g1 := g b m
  by_cases e : b ∈ [Block.life, .scheduler, .drives]
  · cases b <;> simp at e
    case life => exact h1.trans_life g1
    case scheduler =>
      have l : Block.life ∉ c := n.1.resolve_right fun x => m x.2
      exact Same.trans_scheduler (h .life l) (g .life l) h1 g1
    case drives =>
      have l : Block.life ∉ c := n.1.resolve_right fun x => m x.1
      obtain ⟨v, r⟩ := n.2.resolve_left m
      exact Same.trans_drives (h .life l) (g .life l) (h .interlock v) (h .driveRecords r) h1 g1
  · exact Same.trans_alone e h1 g1

/-! ### Shared updates -/

/-- Only the Load Budget's own fields change. -/
theorem frame_lb (s : State) (lb : LoadBudget) (h : ∀ g ∈ lb.grants, g ∈ s.lb.grants) :
    Frame [] s { s with lb := lb } := by
  intro b _
  cases b
  case grants => exact h
  case channels => exact same_channels rfl rfl
  all_goals simp [Same, Drive.Stands.refl, State.life, State.answers, State.drive]

theorem frame_trigger (s : State) : Frame [] s s.trigger := frame_lb s _ fun _ h => h

theorem frame_onChannels (s : State) (f : Channel → Channel) (h : ∀ c : Channel, c.Kept (s.ht.burner = .firing) (f c)) :
    Frame [] s (s.onChannels f) := by
  intro b _
  cases b
  case channels => exact ⟨fun _ => rfl, fun w _ => .inl w, fun i => by simpa using h s.sw[i]⟩
  case channelRecords => intro i; simpa using (h s.sw[i]).1
  case drives => intro _ i; cases i <;> exact Drive.Stands.refl _ _
  all_goals simp [Same, State.life, State.answers]

theorem frame_onHeating (s : State) (f : Heating → Heating) (w : s.ht.burner = .firing)
    (h : f s.ht = { s.ht with
      burner := (f s.ht).burner, lit := (f s.ht).lit, minimumOn := (f s.ht).minimumOn, rest := (f s.ht).rest })
    (o : s.heaterFaulted = false → (f s.ht).burner = .firing ∨ (f s.ht).burner = .runOn) :
    Frame [] s (s.onHeating f) := by
  intro b _
  cases b
  case heating => exact ⟨h, fun n => absurd w n⟩
  case channels => exact ⟨fun n => absurd w n, fun _ => o, fun i => Channel.Kept.refl _ _⟩
  all_goals simp [Same, Drive.Stands.refl, State.life, State.answers, State.drive]

theorem frame_locks (s : State) (l : PumpLocks) : Frame [] s { s with wf := { s.wf with locks := l } } := by
  intro b _
  cases b
  case channels => exact same_channels rfl rfl
  all_goals simp [Same, Drive.Stands.refl, State.life, State.answers, State.drive]

theorem frame_raiseUrgent (s : State) : Frame [] s s.raiseUrgent := by
  intro b _
  cases b
  case channels => exact same_channels rfl rfl
  all_goals simp [Same, State.raiseUrgent, Drive.Stands.refl, State.life, State.answers, State.drive]

theorem frame_flags (s : State) (f : Flags) : Frame [] s { s with nc := { s.nc with flags := f } } := by
  intro b _
  cases b
  case channels => exact same_channels rfl rfl
  all_goals simp [Same, Drive.Stands.refl, State.life, State.answers, State.drive]

/-- A drive keeps its record, and its motion unless it waits. -/
theorem frame_setDrive (s : State) (i : DriveId) (d : Drive) (r : d.record = (s.drive i).record)
    (m : (s.drive i).Stands s.interlock d) : Frame [] s (s.setDrive i d) := by
  intro b _
  cases b
  case driveRecords => cases i <;> simp_all [Same, State.setDrive]
  case drives =>
    intro _ j
    by_cases e : j = i
    · subst e; simpa using m
    · rw [State.drive_setDrive_ne s e]; exact Drive.Stands.refl _ _
  case channels => exact same_channels (State.setDrive_sw _ _ _) (State.setDrive_ht _ _ _)
  all_goals simp [Same, State.life, State.answers]

/-- The same where the frame leaves drives out. -/
theorem frame_setDrive' (s : State) (i : DriveId) (d : Drive) (r : d.record = (s.drive i).record) :
    Frame [.drives] s (s.setDrive i d) := by
  intro b n
  cases b
  case driveRecords => cases i <;> simp_all [Same, State.setDrive]
  case drives => simp at n
  case channels => exact same_channels (State.setDrive_sw _ _ _) (State.setDrive_ht _ _ _)
  all_goals simp [Same, State.life, State.answers]

/-! ### Answers -/

theorem frame_fifo (s : State) (l : List Answer)
    (h : s.answers <+: l.map fun a => (a.target, a.payload)) : Frame [] s { s with ts := { s.ts with fifo := l } } := by
  intro b _
  cases b
  case answers => exact h
  case channels => exact same_channels rfl rfl
  all_goals simp [Same, Drive.Stands.refl, State.life, State.drive]

theorem frame_place (s : State) (a : Answer) : Frame [] s (s.place a) := by
  unfold State.place
  split
  · exact frame_fifo _ _ (by simp [State.answers])
  · exact Frame.refl _ _

theorem frame_reply (s : State) (r : Option Requester) (code : AnswerCode) : Frame [] s (s.reply r code) := by
  cases r
  · exact Frame.refl _ _
  · exact frame_place _ _

/-- The answer slot is no part of a drive's record or motion. -/
theorem frame_slot (s : State) (i : DriveId) (sl : Slot) : Frame [] s (s.onDrive i fun d => { d with slot := sl }) :=
  frame_setDrive s i _ rfl ⟨fun _ => rfl, fun _ => .inr (.inl rfl)⟩

theorem frame_resolve (s : State) (i : DriveId) (code : AnswerCode) : Frame [] s (s.resolve i code) := by
  unfold State.resolve
  split
  · split
    · exact (frame_slot s i _).trans (by simp [Composes]) (frame_place _ _)
    · exact frame_slot s i _
  · exact Frame.refl _ _
  · exact Frame.refl _ _

theorem frame_placeKept (s : State) (i : DriveId) : Frame [] s (s.placeKept i) := by
  unfold State.placeKept
  split
  · split
    · exact (frame_slot s i _).trans (by simp [Composes]) (frame_place _ _)
    · exact Frame.refl _ _
  · exact Frame.refl _ _
  · exact Frame.refl _ _

theorem frame_placeAllKept (s : State) : Frame [] s s.placeAllKept := by
  unfold State.placeAllKept
  split
  · split <;> exact (frame_placeKept _ _).trans (by simp [Composes]) (frame_placeKept _ _)
  · exact (frame_placeKept _ _).trans (by simp [Composes]) (frame_placeKept _ _)

theorem frame_clearStore (s : State) : Frame [] s s.clearStore := by
  have h : s.clearStore.answers = s.answers := by
    simp only [State.answers, State.clearStore, List.map_map]
    refine List.map_congr_left fun a _ => ?_
    simp only [Function.comp]
    split <;> rfl
  intro b _
  cases b
  case answers => simp [Same, h]
  case channels => exact same_channels rfl rfl
  all_goals simp [Same, State.clearStore, Drive.Stands.refl, State.life, State.drive]

/-! ### Drives that wait -/

theorem frame_leaveGrantList (s : State) (i : DriveId) : Frame [] s (s.leaveGrantList i) :=
  (frame_lb s _ fun _ h => List.mem_of_mem_filter h).trans (by simp [Composes]) (frame_trigger _)

/-- A change of one drive leaves the other as it was. -/
theorem otherDrive_setDrive (s : State) (i : DriveId) (d : Drive) : OtherDrive i s (s.setDrive i d) := by
  intro _ j n
  rw [State.drive_setDrive_ne s n]
  exact Drive.Stands.refl _ _

theorem OtherDrive.of_frame {s t : State} (h : Frame [] s t) (i : DriveId) : OtherDrive i s t :=
  fun e j _ => h .drives (by simp) e j

theorem OtherDrive.trans {i : DriveId} {s t u : State} (f : Frame [.drives] s t) (m : Same .life t u)
    (h : OtherDrive i s t) (g : OtherDrive i t u) : OtherDrive i s u := by
  intro e j n
  have e1 := (f .life (by simp)).life_eq m e
  have g1 := g (e.trans e1.symm) j n
  rw [show t.interlock = s.interlock from f .interlock (by simp)] at g1
  exact (h e1 j n).trans ((f .driveRecords (by simp)).drive_fn j) g1

/-- One drive alone has moved, its record standing. -/
def Moved (i : DriveId) (s t : State) : Prop := Frame [.drives] s t ∧ OtherDrive i s t

theorem Moved.of_frame {s t : State} (h : Frame [] s t) (i : DriveId) : Moved i s t :=
  ⟨h.mono (by simp), OtherDrive.of_frame h i⟩

theorem Moved.trans {i : DriveId} {s t u : State} (h : Moved i s t) (g : Moved i t u) : Moved i s u :=
  ⟨h.1.trans (by simp [Composes]) g.1, h.2.trans h.1 (g.1 .life (by simp)) g.2⟩

theorem Moved.refl (i : DriveId) (s : State) : Moved i s s := Moved.of_frame (Frame.refl _ _) i

theorem moved_setDrive (s : State) (i : DriveId) (d : Drive) (r : d.record = (s.drive i).record) :
    Moved i s (s.setDrive i d) := ⟨frame_setDrive' s i d r, otherDrive_setDrive s i d⟩

/-- A waiting drive that is started, or one that the view refuses, has done what a wait may do. -/
theorem Moved.frame {i : DriveId} {s t : State} (h : Moved i s t)
    (w : (s.drive i).Stands s.interlock (t.drive i)) : Frame [] s t := by
  intro b _
  by_cases e : b = .drives
  · subst e
    intro l j
    by_cases k : j = i
    · exact k ▸ w
    · exact h.2 l j k
  · exact h.1 b (by simpa using e)

theorem moved_evaluateForced (s : State) (i : DriveId) : Moved i s (s.evaluateForced i) := by
  unfold State.evaluateForced
  have w : ∀ f : Drive → Drive, (∀ d, (f d).record = d.record) →
      Moved i s (((s.resolve i .cancelled).leaveGrantList i).onDrive i f) := fun f h =>
    ((Moved.of_frame (frame_resolve _ _ _) i).trans (Moved.of_frame (frame_leaveGrantList _ _) i)).trans
      (moved_setDrive _ _ _ (h _))
  have fr : ∀ c h (d : Drive), (d.forcedRetract s.now c h).record = d.record := fun _ _ _ => rfl
  have rv : ∀ d : Drive, (d.reverse s.now .retract).record = d.record := by
    intro d; unfold Drive.reverse; split <;> rfl
  dsimp only
  split <;> first
    | exact Moved.refl _ _
    | (split <;> first
        | exact Moved.refl _ _
        | exact moved_setDrive _ _ _ (by first | rfl | exact rv _)
        | (split <;> exact w _ (fun _ => rfl)))

theorem moved_comeToRest (s : State) (i : DriveId) (st : DriveState) : Moved i s (s.comeToRest i st) :=
  (moved_setDrive s i (Drive.rest st (s.drive i)) rfl).trans (moved_evaluateForced _ i)

theorem moved_returnToOrigin (s : State) (i : DriveId) : Moved i s (s.returnToOrigin i) :=
  (Moved.of_frame (frame_leaveGrantList s i) i).trans (moved_comeToRest _ _ _)

theorem State.drive_place (s : State) (a : Answer) (i : DriveId) : (s.place a).drive i = s.drive i := by
  unfold State.place
  split <;> cases i <;> rfl

/-- A resolution changes the slot of a drive and nothing else of it. -/
theorem State.drive_resolve (s : State) (i : DriveId) (c : AnswerCode) :
    ∃ sl, (s.resolve i c).drive i = { s.drive i with slot := sl } := by
  unfold State.resolve
  split
  · split
    · exact ⟨.empty, by rw [State.drive_place]; simp [State.onDrive]⟩
    · exact ⟨_, by cases i <;> rfl⟩
  · exact ⟨_, rfl⟩
  · exact ⟨_, rfl⟩

theorem State.drive_leaveGrantList (s : State) (i j : DriveId) : (s.leaveGrantList i).drive j = s.drive j := by
  cases j <;> rfl

/-- A grant acts on the drive that waits for it, on answers and on the grant list. -/
theorem frame_grant (s : State) (i : DriveId) : Frame [] s (s.grant i) := by
  unfold State.grant
  dsimp only
  split
  case isFalse => exact frame_leaveGrantList s i
  case isTrue w =>
    split
    next h =>
      refine ((Moved.of_frame (frame_resolve _ _ _) i).trans (moved_returnToOrigin _ _)).frame ?_
      exact ⟨fun n => absurd w n, fun _ => .inl h⟩
    next h =>
      refine (((Moved.of_frame (frame_resolve _ _ _) i).trans (Moved.of_frame (frame_leaveGrantList _ _) i)).trans
        (moved_setDrive _ _ _ ?_)).frame ?_
      · rfl
      · refine ⟨fun n => absurd w n, fun _ => .inr (.inr ?_)⟩
        obtain ⟨sl, e⟩ := s.drive_resolve i .started
        simp only [State.drive_setDrive, State.drive_leaveGrantList, e]
        exact ⟨rfl, rfl, rfl, rfl⟩

end Sys2Proof.Machine
end

