-- ==== Sys2Proof/Laws/Finish.lean ====
section
/-! SUPPORT. What follows from an event: `finish` keeps every block of a frame, brings the flags word and the lock set up to
date, and lets the queues only hand on. -/

namespace Sys2Proof.Machine

/-! ### One channel -/

theorem Channel.kept_refresh (p : Prop) (e : ChEnv) (c : Channel) : c.Kept p (c.refresh e) := by
  unfold Channel.refresh
  dsimp only
  split
  · exact Channel.Kept.refl p c
  · split
    · exact ⟨rfl, fun _ => rfl, rfl, rfl, Iff.rfl, Iff.rfl, by simp⟩
    · exact Channel.Kept.refl p c

/-- An evaluation keeps all but the state between OFF, ON and HELD and the output. -/
theorem Channel.kept_evaluate (p : Prop) (e : ChEnv) (c : Channel) : c.Kept p (c.evaluate e) := by
  have k : ∀ st b, (st = .off ∨ st = .on ∨ st = .held) → (c.state = .off ∨ c.state = .on ∨ c.state = .held) →
      c.Kept p ({ c with state := st, throttled := b }.refresh e) := by
    intro st b h h'
    refine Channel.Kept.trans id ?_ (Channel.kept_refresh p e _)
    refine ⟨rfl, fun _ => rfl, rfl, rfl, ?_, ?_, id⟩ <;>
      rcases h with h | h | h <;> rcases h' with h' | h' | h' <;> simp [h, h']
  unfold Channel.evaluate
  split
  · exact Channel.kept_refresh p e c
  · exact Channel.kept_refresh p e c
  all_goals
    split
    · exact k _ _ (by simp) (by simp [*])
    · split <;> exact k _ _ (by simp) (by simp [*])

theorem frame_evaluateChannels (s : State) : Frame [] s s.evaluateChannels :=
  frame_onChannels s _ (Channel.kept_evaluate _ _)

/-- A request that the Heating unit ends while the burner fires keeps the channel's record, trips, TRIPPED and FAULT. -/
theorem Channel.kept_requestOff {p : Prop} (w : p) (c : Channel) (h : c.heater = true) (g : Option Nat) :
    c.Kept p { c.requestOff with givenClass := g } := by
  refine ⟨rfl, by simp [h, w], rfl, rfl, ?_, ?_, id⟩ <;>
    by_cases e : c.state = .on ∨ c.state = .held <;>
    simp [Channel.requestOff, Channel.stopCycle, e] <;> rcases e with e | e <;> simp [e]

theorem frame_onFunction (s : State) (fn : ChFn) (f : Channel → Channel)
    (h : ∀ c : Channel, c.fn = fn → c.Kept (s.ht.burner = .firing) (f c)) : Frame [] s (s.onFunction fn f) := by
  refine frame_onChannels s _ fun c => ?_
  by_cases e : c.fn = fn
  · simpa [e] using h c e
  · simpa [e] using Channel.Kept.refl _ c

theorem frame_onBurnerAndFan (s : State) (f : Channel → Channel)
    (h : ∀ c : Channel, c.heater = true → c.Kept (s.ht.burner = .firing) (f c)) : Frame [] s (s.onBurnerAndFan f) := by
  refine frame_onChannels s _ fun c => ?_
  by_cases e : c.fn = .burner ∨ c.fn = .burnerFan
  · simpa [e] using h c (by simpa [Channel.heater] using e)
  · simpa [e] using Channel.Kept.refl _ c

theorem frame_abandonFiring (s : State) (w : s.ht.burner = .firing) (f : s.heaterFaulted = true) :
    Frame [] s s.abandonFiring := by
  have h := frame_onBurnerAndFan s (fun c => { c.requestOff with givenClass := none }) fun c h => c.kept_requestOff w h none
  refine h.trans (by simp [Composes]) (frame_onHeating _ _ w rfl fun n => ?_)
  rw [heaterFaulted_of_kept (h .channels (by simp)).2.2, f] at n
  cases n

theorem Channel.kept_runOn {p : Prop} (w : p) (now : Nat) (c : Channel) (h : c.heater = true) :
    c.Kept p (c.runOn now) := ⟨rfl, by simp [h, w], rfl, rfl, Iff.rfl, Iff.rfl, id⟩

theorem frame_burnerOff (s : State) (w : s.ht.burner = .firing) : Frame [] s s.burnerOff := by
  refine (frame_onFunction s .burner _ fun c h => c.kept_requestOff w (by simp [Channel.heater, h]) none).trans
    (by simp [Composes]) ?_
  refine (frame_onFunction _ .burnerFan (Channel.runOn s.now) fun c h =>
    c.kept_runOn (by exact w) s.now (by simp [Channel.heater, h])).trans (by simp [Composes]) ?_
  exact frame_onHeating _ (fun h =>
    { h with burner := .runOn, lit := false, minimumOn := none, rest := some (s.now + Config.restMs) }) w rfl
    fun _ => .inr rfl

theorem frame_heatingReacts (s : State) : Frame [] s s.heatingReacts := by
  unfold State.heatingReacts
  split
  · next w _ =>
    split
    · next f => exact frame_abandonFiring s w f
    · split
      · exact frame_onHeating _ _ w rfl fun _ => .inl w
      · exact Frame.refl _ _
  · next w _ =>
    split
    · exact frame_burnerOff s w
    · exact Frame.refl _ _
  · exact Frame.refl _ _

theorem frame_channelsFollow (s : State) : Frame [] s s.channelsFollow :=
  ((frame_evaluateChannels s).trans (by simp [Composes]) (frame_heatingReacts _)).trans (by simp [Composes])
    (frame_evaluateChannels _)

/-! ### Recomputation -/

theorem frame_grantListed (s : State) (i : DriveId) : Frame [] s (s.grantListed i) := by
  unfold State.grantListed
  split
  · exact frame_grant s i
  · exact Frame.refl _ _

theorem frame_giveGrants (s : State) : Frame [] s s.giveGrants := by
  unfold State.giveGrants
  split
  · exact (frame_grantListed s .ma).trans (by simp [Composes]) (frame_grantListed _ .mb)
  · exact Frame.refl _ _

theorem frame_syncFlags (s : State) : Frame [] s s.syncFlags := by
  unfold State.syncFlags
  split
  · exact Frame.refl _ _
  · exact (frame_flags s _).trans (by simp [Composes]) (frame_raiseUrgent _)

theorem frame_recompute (s : State) : Frame [] s s.recompute :=
  (((frame_lb s s.budget fun _ h => h).trans (by simp [Composes]) (frame_channelsFollow _)).trans (by simp [Composes])
    (frame_giveGrants _)).trans (by simp [Composes]) (frame_syncFlags _)

theorem frame_syncLocks (s : State) : Frame [] s s.syncLocks :=
  (frame_locks s _).trans (by simp [Composes]) (frame_onChannels _ _ fun _ => ⟨rfl, fun _ => rfl, rfl, rfl, Iff.rfl, Iff.rfl, id⟩)

theorem frame_follow (s : State) : Frame [] s s.follow := by
  unfold State.follow
  dsimp only
  split
  · exact (frame_syncLocks s).trans (by simp [Composes]) (frame_recompute _)
  · exact (frame_syncLocks s).trans (by simp [Composes]) (frame_channelsFollow _)

theorem frame_followAll (n : Nat) (s : State) : Frame [] s (s.followAll n) := by
  induction n generalizing s with
  | zero => exact Frame.refl _ _
  | succ n ih =>
    unfold State.followAll
    dsimp only
    split
    · exact (frame_follow s).trans (by simp [Composes]) (ih _)
    · exact frame_follow s

theorem frame_settle (s : State) : Frame [] s s.settle := by
  unfold State.settle
  split
  · exact frame_followAll _ _
  · exact Frame.refl _ _

/-! ### Queue -/

theorem frame_od (s : State) (d : Dispatcher)
    (h : d.restartPending = s.od.restartPending ∧ d.storePending = s.od.storePending) :
    Frame [.inbound] s { s with od := d } := by
  intro b n
  cases b <;> simp at n
  case channels => exact same_channels rfl rfl
  all_goals simp [Same, Drive.Stands.refl, State.life, State.answers, State.drive, h]

theorem frame_takeSettings (s : State) : Frame [.inbound] s s.takeSettings := by
  unfold State.takeSettings
  split
  · split
    · split
      · exact Frame.refl _ _
      · exact frame_od _ _ ⟨rfl, rfl⟩
    · exact Frame.refl _ _
  · exact frame_od _ _ ⟨rfl, rfl⟩

theorem frame_evaluateBothForced (s : State) : Frame [.drives] s s.evaluateBothForced :=
  (moved_evaluateForced s .ma).1.trans (by simp [Composes]) (moved_evaluateForced _ .mb).1

theorem ServiceCause.le_giveBack (c : ServiceCause) (p : Causes) :
    (p.wakeOut → (c.giveBack p).wakeOut) ∧ (p.batteryDue → (c.giveBack p).batteryDue) ∧
      (p.stateUrgent → (c.giveBack p).stateUrgent) ∧ (p.statePeriodic → (c.giveBack p).statePeriodic) ∧
      (p.measureDue → (c.giveBack p).measureDue) := by
  cases c <;> simp +contextual [ServiceCause.giveBack]

theorem frame_returnHeld (s : State) : Frame [] s s.returnHeld := by
  unfold State.returnHeld
  split
  · next v h =>
    split
    · intro b _
      cases b
      case channels => exact same_channels rfl rfl
      all_goals simp [Same, Drive.Stands.refl, State.life, State.answers, State.drive, h]
    · intro b _
      cases b
      case causes => exact ServiceCause.le_giveBack _ _
      case channels => exact same_channels rfl rfl
      all_goals simp [Same, Drive.Stands.refl, State.life, State.answers, State.drive]
  · exact Frame.refl _ _

/-- A change of life state keeps all but life, drives and scheduler. -/
theorem frame_changeLife (l : LifeState) (s : State) : Frame [.life, .drives, .scheduler] s (s.changeLife l) := by
  have h : Frame [.life, .drives, .scheduler] s { s with nc := { s.nc with life := l, lifeSince := s.now } } := by
    intro b n
    cases b <;> simp at n
    case channels => exact same_channels rfl rfl
    all_goals simp [Same, State.answers]
  exact h.trans (by simp [Composes])
    (((frame_returnHeld _).trans (by simp [Composes]) (frame_trigger _)).widen (by simp))

theorem State.returnHeld_life (s : State) : s.returnHeld.life = s.life := by
  unfold State.returnHeld
  split
  · split <;> rfl
  · rfl

theorem State.changeLife_life (l : LifeState) (s : State) : (s.changeLife l).life = l :=
  (State.returnHeld_life _).trans rfl

theorem State.resolve_life (s : State) (i : DriveId) (c : AnswerCode) : (s.resolve i c).life = s.life := by
  have := frame_resolve s i c .node (by simp)
  unfold State.resolve
  split
  · split
    · unfold State.place; split <;> cases i <;> rfl
    · cases i <;> rfl
  · rfl
  · rfl

theorem State.evaluateForced_life (s : State) (i : DriveId) : (s.evaluateForced i).life = s.life := by
  unfold State.evaluateForced
  have d : ∀ (t : State) (x : Drive), (t.setDrive i x).life = t.life := fun t x => by cases i <;> rfl
  have w : ∀ f : Drive → Drive,
      (((s.resolve i .cancelled).leaveGrantList i).onDrive i f).life = s.life := fun f => by
    unfold State.onDrive
    rw [d]
    exact s.resolve_life i _
  dsimp only
  split <;> first
    | rfl
    | (split <;> first
        | rfl
        | exact d _ _
        | (split <;> exact w _))

theorem State.evaluateBothForced_life (s : State) : s.evaluateBothForced.life = s.life :=
  (State.evaluateForced_life _ _).trans (State.evaluateForced_life _ _)

/-- A wake from DORMANT gives RUN. -/
theorem State.wake_life (w : Bool) (s : State) : (s.wake w).life = .run := by
  have : ((s.changeLife .run).startMeasurePeriod.evaluateBothForced).life = .run := by
    rw [State.evaluateBothForced_life]
    exact State.changeLife_life _ _
  unfold State.wake
  dsimp only
  split <;> exact this

theorem frame_raiseWake (s : State) : Frame [] s s.raiseWake := by
  intro b _
  cases b
  case channels => exact same_channels rfl rfl
  all_goals simp [Same, State.raiseWake, Drive.Stands.refl, State.life, State.answers, State.drive]

theorem frame_setQuietWake (x : Option Nat) (s : State) : Frame [] s (s.setQuietWake x) := by
  intro b _
  cases b
  case channels => exact same_channels rfl rfl
  all_goals simp [Same, State.setQuietWake, Drive.Stands.refl, State.life, State.answers, State.drive]

/-- A cause that joins a wake of its instant raises WAKE_OUT or does nothing. -/
theorem frame_joinWake (w : Bool) (s : State) : Frame [] s (s.joinWake w) := by
  unfold State.joinWake
  split
  · exact (frame_raiseWake s).trans (by simp [Composes]) (frame_setQuietWake none _)
  · exact Frame.refl _ _

theorem frame_measurePeriod (s : State) (x : Timer) :
    Frame [.scheduler] s { s with ts := { s.ts with measurePeriod := x } } := by
  intro b n
  cases b <;> simp at n
  case channels => exact same_channels rfl rfl
  all_goals simp [Same, Drive.Stands.refl, State.life, State.answers, State.drive]

theorem frame_startMeasurePeriod (s : State) : Frame [.scheduler] s s.startMeasurePeriod := frame_measurePeriod s _

/-- A wake keeps all but life, drives and scheduler; from DORMANT those too are as a frame has them. -/
theorem frame_wake' (w : Bool) (s : State) : Frame [.life, .drives, .scheduler] s (s.wake w) := by
  have c : Composes [.life, .drives, .scheduler] := by simp [Composes]
  have h := ((frame_changeLife .run s).trans c ((frame_startMeasurePeriod _).widen (by simp))).trans c
    ((frame_evaluateBothForced _).widen (by simp))
  unfold State.wake
  dsimp only
  split
  · exact (h.trans c ((frame_raiseWake _).widen (by simp))).trans c ((frame_setQuietWake none _).widen (by simp))
  · exact h.trans c ((frame_setQuietWake _ _).widen (by simp))

theorem State.wake_scheduler (w : Bool) (s : State) :
    (s.wake w).ts.hello = s.ts.hello ∧ (s.wake w).ts.spacing = s.ts.spacing ∧
      (s.wake w).ts.statePeriod = s.ts.statePeriod := by
  have c : (s.changeLife .run).ts.hello = s.ts.hello ∧ (s.changeLife .run).ts.spacing = s.ts.spacing ∧
      (s.changeLife .run).ts.statePeriod = s.ts.statePeriod := by
    unfold State.changeLife State.returnHeld
    split
    · split <;> exact ⟨rfl, rfl, rfl⟩
    · exact ⟨rfl, rfl, rfl⟩
  have e : ∀ t : State, t.evaluateBothForced.ts.hello = t.ts.hello ∧
      t.evaluateBothForced.ts.spacing = t.ts.spacing ∧ t.evaluateBothForced.ts.statePeriod = t.ts.statePeriod := by
    intro t
    have := frame_evaluateBothForced t .scheduler (by simp)
    exact ⟨this.1, this.2.1, this.2.2.1⟩
  have m := e (s.changeLife .run).startMeasurePeriod
  have : ∀ t : State, t.raiseWake.ts.hello = t.ts.hello ∧ t.raiseWake.ts.spacing = t.ts.spacing ∧
      t.raiseWake.ts.statePeriod = t.ts.statePeriod := fun _ => ⟨rfl, rfl, rfl⟩
  unfold State.wake
  dsimp only
  split
  · exact ⟨m.1.trans c.1, m.2.1.trans c.2.1, m.2.2.trans c.2.2⟩
  · exact ⟨m.1.trans c.1, m.2.1.trans c.2.1, m.2.2.trans c.2.2⟩

theorem frame_wake (w : Bool) (s : State) (h : s.life = .dormant) : Frame [] s (s.wake w) := by
  intro b _
  cases b
  case life => exact .inr ⟨h, State.wake_life w s⟩
  case drives => intro e; rw [State.wake_life, h] at e; cases e
  case scheduler =>
    obtain ⟨h1, h2, h3⟩ := State.wake_scheduler w s
    exact ⟨h1, h2, h3, fun e => by rw [State.wake_life, h] at e; cases e⟩
  all_goals exact frame_wake' w s _ (by simp)

theorem frame_wakeCause (w : Bool) (s : State) : Frame [] s (s.wakeCause w) := by
  unfold State.wakeCause
  split
  · next h => exact frame_wake w s h
  · refine Frame.trans (by simp [Composes]) ?_ (frame_joinWake w _)
    split
    · exact frame_clearStore s
    · exact Frame.refl _ _
  · exact Frame.refl _ _

theorem frame_headWakes (s : State) : Frame [] s s.headWakes := by
  unfold State.headWakes
  split
  · exact frame_wakeCause _ _
  · exact Frame.refl _ _

/-- The state after the queue has handed SETTINGS on. -/
def State.afterQueue (s : State) : State :=
  { s.placeAllKept.takeSettings with od := s.placeAllKept.takeSettings.od.clearOverflow }

theorem frame_afterQueue (s : State) : Frame [.inbound] s s.afterQueue := by
  have h := ((frame_placeAllKept s).widen (by simp)).trans (by simp [Composes]) (frame_takeSettings s.placeAllKept)
  have g : Frame [.inbound] s.placeAllKept.takeSettings s.afterQueue := by
    refine frame_od _ _ ?_
    unfold Dispatcher.clearOverflow
    split <;> exact ⟨rfl, rfl⟩
  exact h.trans (by simp [Composes]) g

theorem frame_dispatch (s : State) : Frame [.inbound] s s.dispatch :=
  (frame_afterQueue s).trans (by simp [Composes]) ((frame_headWakes _).widen (by simp))

theorem frame_settle_syncFlags (s : State) : Frame [] s s.settle.syncFlags :=
  (frame_settle s).trans (by simp [Composes]) (frame_syncFlags _)

theorem dropSettings_takes (s : State) :
    s.takeSettings.od.iq =
      if s.life = .commissioning then
        match s.od.inHand, s.od.iq with
        | none, e :: es => if e.operate then e :: es else es
        | _, l => l
      else dropSettings s.od.iq := by
  unfold State.takeSettings
  split
  · cases i : s.od.inHand with
    | some p => simp
    | none =>
      cases q : s.od.iq with
      | nil => simp [q]
      | cons e es => cases o : e.operate <;> simp [q, o]
  · rfl

/-- The queue's part of an event depends on life, queue and hand alone. -/
theorem takeSettings_congr {s t : State} (l : t.life = s.life) (q : t.od.iq = s.od.iq) (h : t.od.inHand = s.od.inHand) :
    t.takeSettings.od.iq = s.takeSettings.od.iq ∧ t.takeSettings.od.inHand = s.takeSettings.od.inHand := by
  unfold State.takeSettings
  rw [l, q, h]
  split
  · split
    · split <;> simp_all
    · simp_all
  · simp_all

theorem takeSettings_overflow (s : State) : s.takeSettings.od.overflow = s.od.overflow := by
  unfold State.takeSettings
  split
  · split
    · split <;> rfl
    · rfl
  · rfl

theorem placeAllKept_life (s : State) : s.placeAllKept.life = s.life := by
  have h : ∀ (t : State) i, (t.placeKept i).nc = t.nc := by
    intro t i
    unfold State.placeKept
    split
    · split
      · unfold State.place; split <;> cases i <;> rfl
      · rfl
    · rfl
    · rfl
  have : s.placeAllKept.nc = s.nc := by
    unfold State.placeAllKept
    split
    · split <;> rw [h, h]
    · rw [h, h]
  exact congrArg NodeControl.life this

theorem handed_afterQueue (s : State) : Handed s s.afterQueue := by
  have f := frame_placeAllKept s .inbound (by simp)
  have h := takeSettings_congr (placeAllKept_life s) f.1 f.2.1
  have o : s.placeAllKept.takeSettings.od.overflow = s.od.overflow := (takeSettings_overflow _).trans f.2.2
  have q : s.afterQueue.od.iq = s.placeAllKept.takeSettings.od.iq := by
    unfold State.afterQueue Dispatcher.clearOverflow
    dsimp only
    split <;> rfl
  have k : s.afterQueue.od.inHand = s.placeAllKept.takeSettings.od.inHand := by
    unfold State.afterQueue Dispatcher.clearOverflow
    dsimp only
    split <;> rfl
  refine ⟨q.trans h.1, k.trans h.2, ?_⟩
  rw [q, ← o]
  unfold State.afterQueue Dispatcher.clearOverflow
  dsimp only
  split <;> simp_all

/-- What follows from an event keeps every block of a frame, and only hands SETTINGS on. -/
theorem finish_changes (s : State) : Changes [] s s.finish := by
  have g : Frame [] s.afterQueue s.finish := (frame_headWakes _).trans (by simp [Composes]) (frame_settle_syncFlags _)
  refine ⟨(frame_afterQueue s).trans (by simp [Composes]) (g.widen (by simp)), ?_⟩
  obtain ⟨h1, h2, h3⟩ := handed_afterQueue s
  obtain ⟨g1, g2, g3⟩ := g .inbound (by simp)
  exact ⟨g1.trans h1, g2.trans h2, by rw [g1, g3, h3]⟩

/-- A meaning that ends in `finish` and keeps life, queue and hand before it: the frame of what comes before. -/
theorem Changes.finish {c : List Block} {s t : State} (n : Composes c) (m : Block.inbound ∉ c) (h : Frame c s t)
    (l : t.life = s.life) : Changes c s t.finish := by
  obtain ⟨f, g1, g2, g3⟩ := finish_changes t
  obtain ⟨q1, q2, q3⟩ := h .inbound m
  have e := takeSettings_congr l q1 q2
  have n' : Composes (.inbound :: c) := by simpa [Composes] using n
  exact ⟨(h.widen (by simp)).trans n' (f.widen (by simp)), g1.trans e.1, g2.trans e.2, by rw [g3, q3]⟩

end Sys2Proof.Machine
end

