-- ==== Sys2Proof/Laws/Current.lean ====
section
/-! SUPPORT. What holds after an event: the flags word, the lock set and every output are up to date; and what an interlock
event may change. -/

namespace Sys2Proof.Machine

/-! ### Flags word -/

theorem flagsOf_flags (s : State) (f : Flags) :
    State.flagsOf ({ s with nc := { s.nc with flags := f } } : State).raiseUrgent = s.flagsOf := rfl

/-- After an event the flags word is what the units make it. -/
theorem finish_flags (s : State) : FlagsCurrent s.finish := by
  unfold State.finish State.syncFlags
  split
  · next h => exact h.symm
  · exact (flagsOf_flags _ _).symm

/-! ### Life -/

/-- Only DORMANT is left by what follows an event. -/
theorem finish_life (s : State) (h : s.life ≠ .dormant) : s.finish.life = s.life := by
  rcases (finish_changes s).1 .life (by simp) with e | e
  · exact e
  · exact absurd e.1 h

/-- The blocks run after an event where they ran before it. -/
theorem finish_active (s : State) (h : s.life.active = true) : s.finish.life.active = true := by
  rcases (finish_changes s).1 .life (by simp) with e | e
  · rwa [e]
  · rw [e.2]; rfl

/-! ### Outputs -/

theorem Channel.dutyOf_refresh (e : ChEnv) (c : Channel) : (c.refresh e).dutyOf e = c.dutyOf e := by
  unfold Channel.refresh
  dsimp only
  split
  · rfl
  · split <;> rfl

/-- An output that keeps its duty keeps the instant of its full duty. -/
theorem Channel.fullSinceAt_duty {c : Channel} {d : Nat} (now : Nat) (h : c.duty = d) : c.fullSinceAt now d = c.fullSince := by
  subst h
  simp [Channel.fullSinceAt]

/-- A refreshed output is not refreshed again. -/
theorem Channel.refresh_refresh (e : ChEnv) (c : Channel) : (c.refresh e).refresh e = c.refresh e := by
  have d := Channel.dutyOf_refresh e c
  unfold Channel.refresh at d ⊢
  dsimp only at d ⊢
  split at d <;> rename_i h
  · simp [d, h]
  · split at d <;> rename_i g <;> simp [d, h, g] <;> exact Channel.fullSinceAt_duty _ rfl

theorem Channel.refresh_frame (e : ChEnv) (c : Channel) :
    (c.refresh e).state = c.state ∧ (c.refresh e).fn = c.fn ∧ (c.refresh e).request = c.request ∧
      (c.refresh e).throttled = c.throttled ∧ (c.refresh e).grantDecision e = c.grantDecision e := by
  unfold Channel.refresh
  dsimp only
  split
  · exact ⟨rfl, rfl, rfl, rfl, rfl⟩
  · split <;> exact ⟨rfl, rfl, rfl, rfl, rfl⟩

/-- The state of a channel is the one that request and decision give it (R61). -/
def Channel.Settled (e : ChEnv) (c : Channel) : Prop :=
  c.state = .tripped ∨ c.state = .fault ∨
    ((c.fn = .none ∨ ¬ c.request) ∧ c.state = .off ∧ c.throttled = false) ∨
    (¬ (c.fn = .none ∨ ¬ c.request) ∧
      ((c.grantDecision e = .held ∧ c.state = .held ∧ c.throttled = false) ∨
        (c.grantDecision e = .full ∧ c.state = .on ∧ c.throttled = false) ∨
        (c.grantDecision e = .throttled ∧ c.state = .on ∧ c.throttled = true)))

/-- A channel whose state is already what the decision gives it is only refreshed. -/
theorem Channel.Settled.evaluate {e : ChEnv} {c : Channel} (h : c.Settled e) : c.evaluate e = c.refresh e := by
  obtain ⟨fn, inst, cls, nominal, mode, dimmable, a, b, gate, fade, request, endTimer, timedRequest, target, current, exempt, inhibit,
    state, throttled, cycleOn, cycleStart, cycleB, cycleTimer, fadeTimer, fadeInterval, trips, cooldown, blanking,
    openLoad, onSince, fullSince, givenClass, duty, dry⟩ := c
  unfold Channel.evaluate
  rcases h with h | h | ⟨g, h, t⟩ | ⟨g, ⟨d, h, t⟩ | ⟨d, h, t⟩ | ⟨d, h, t⟩⟩ <;> dsimp only at * <;> subst h
  · rfl
  · rfl
  · subst t; exact if_pos g
  all_goals
    subst t
    simp only [if_neg g, d]

theorem Channel.Settled.refresh {e : ChEnv} {c : Channel} (h : c.Settled e) : (c.refresh e).Settled e := by
  obtain ⟨h1, h2, h3, h4, h5⟩ := Channel.refresh_frame e c
  unfold Channel.Settled
  rw [h1, h2, h3, h4, h5]
  exact h

/-- An evaluation settles the state and refreshes the output. -/
theorem Channel.evaluate_shape (e : ChEnv) (c : Channel) : ∃ d : Channel, d.Settled e ∧ c.evaluate e = d.refresh e := by
  have go : ∀ st : ChState, c.state = st → st ≠ .tripped → st ≠ .fault →
      ∃ d : Channel, d.Settled e ∧ c.evaluate e = d.refresh e := by
    intro st hs n1 n2
    by_cases g : c.fn = .none ∨ ¬ c.request
    · refine ⟨{ c with state := .off, throttled := false }, .inr (.inr (.inl ⟨g, rfl, rfl⟩)), ?_⟩
      unfold Channel.evaluate
      cases st <;> simp_all
    · cases d : c.grantDecision e
      · refine ⟨{ c with state := .held, throttled := false }, .inr (.inr (.inr ⟨g, .inl ⟨d, rfl, rfl⟩⟩)), ?_⟩
        unfold Channel.evaluate
        cases st <;> simp_all
      · refine ⟨{ c with state := .on, throttled := false }, .inr (.inr (.inr ⟨g, .inr (.inl ⟨d, rfl, rfl⟩)⟩)), ?_⟩
        unfold Channel.evaluate
        cases st <;> simp_all
      · refine ⟨{ c with state := .on, throttled := true }, .inr (.inr (.inr ⟨g, .inr (.inr ⟨d, rfl, rfl⟩)⟩)), ?_⟩
        unfold Channel.evaluate
        cases st <;> simp_all
  by_cases h1 : c.state = .tripped
  · exact ⟨c, .inl h1, by unfold Channel.evaluate; rw [h1]⟩
  · by_cases h2 : c.state = .fault
    · exact ⟨c, .inr (.inl h2), by unfold Channel.evaluate; rw [h2]⟩
    · exact go c.state rfl h1 h2

/-- An evaluation done again changes nothing. -/
theorem Channel.evaluate_evaluate (e : ChEnv) (c : Channel) : (c.evaluate e).evaluate e = c.evaluate e := by
  obtain ⟨d, h, g⟩ := Channel.evaluate_shape e c
  rw [g, h.refresh.evaluate, Channel.refresh_refresh]

/-- What an evaluation reads of the node besides the channels. -/
theorem chEnv_congr {s t : State} (n : t.now = s.now) (l : t.life = s.life) (e : t.lb.sEff = s.lb.sEff)
    (a : t.lb.applied = s.lb.applied) (c : t.light = s.light) (f : t.sfe = s.sfe) : t.chEnv = s.chEnv := by
  unfold State.chEnv State.switchActive State.routed State.entryOf
  rw [n, l, e, a, c, f]

theorem outputs_evaluateChannels (s : State) : OutputsCurrent s.evaluateChannels := by
  intro i
  have e : s.evaluateChannels.chEnv = s.chEnv := rfl
  rw [e]
  have h : s.evaluateChannels.sw[i] = (s.sw[i]).evaluate s.chEnv := mapChannels_get _ _ i
  rw [h]
  exact Channel.evaluate_evaluate _ _

theorem outputs_channelsFollow (s : State) : OutputsCurrent s.channelsFollow := outputs_evaluateChannels _

theorem OutputsCurrent.congr {s t : State} (h : OutputsCurrent s) (w : t.sw = s.sw) (e : t.chEnv = s.chEnv) :
    OutputsCurrent t := by
  intro i
  rw [e, w]
  exact h i

/-- Channels, the pair in hand and Node Control are the same. -/
def SamePair (s t : State) : Prop :=
  t.sw = s.sw ∧ t.lb.sEff = s.lb.sEff ∧ t.lb.applied = s.lb.applied ∧ t.nc = s.nc

theorem SamePair.refl (s : State) : SamePair s s := ⟨rfl, rfl, rfl, rfl⟩

theorem SamePair.trans {s t u : State} (h : SamePair s t) (g : SamePair t u) : SamePair s u :=
  ⟨g.1.trans h.1, g.2.1.trans h.2.1, g.2.2.1.trans h.2.2.1, g.2.2.2.trans h.2.2.2⟩

theorem samePair_setDrive (s : State) (i : DriveId) (d : Drive) : SamePair s (s.setDrive i d) := by
  cases i <;> exact SamePair.refl _

theorem samePair_place (s : State) (a : Answer) : SamePair s (s.place a) := by
  unfold State.place
  split <;> exact ⟨rfl, rfl, rfl, rfl⟩

theorem samePair_resolve (s : State) (i : DriveId) (c : AnswerCode) : SamePair s (s.resolve i c) := by
  unfold State.resolve
  split
  · split
    · exact (samePair_setDrive s i _).trans (samePair_place _ _)
    · exact (samePair_setDrive s i _).trans ⟨rfl, rfl, rfl, rfl⟩
  · exact SamePair.refl _
  · exact SamePair.refl _

theorem samePair_leaveGrantList (s : State) (i : DriveId) : SamePair s (s.leaveGrantList i) := ⟨rfl, rfl, rfl, rfl⟩

theorem samePair_evaluateForced (s : State) (i : DriveId) : SamePair s (s.evaluateForced i) := by
  have w : ∀ f : Drive → Drive, SamePair s (((s.resolve i .cancelled).leaveGrantList i).onDrive i f) := fun f =>
    ((samePair_resolve s i _).trans (samePair_leaveGrantList _ i)).trans (samePair_setDrive _ i _)
  unfold State.evaluateForced
  dsimp only
  split <;> first
    | exact SamePair.refl _
    | (split <;> first
        | exact SamePair.refl _
        | exact samePair_setDrive _ _ _
        | (split <;> exact w _))

theorem samePair_returnToOrigin (s : State) (i : DriveId) : SamePair s (s.returnToOrigin i) :=
  ((samePair_leaveGrantList s i).trans (samePair_setDrive _ i (Drive.rest _ ((s.leaveGrantList i).drive i)))).trans
    (samePair_evaluateForced _ i)

/-- Grants change no channel and nothing that an evaluation reads. -/
theorem samePair_grant (s : State) (i : DriveId) : SamePair s (s.grant i) := by
  unfold State.grant
  dsimp only
  split
  · split
    · exact (samePair_resolve s i _).trans (samePair_returnToOrigin _ i)
    · exact ((samePair_resolve s i _).trans (samePair_leaveGrantList _ i)).trans (samePair_setDrive _ i _)
  · exact samePair_leaveGrantList s i

theorem samePair_grantListed (s : State) (i : DriveId) : SamePair s (s.grantListed i) := by
  unfold State.grantListed
  split
  · exact samePair_grant s i
  · exact SamePair.refl _

theorem samePair_giveGrants (s : State) : SamePair s s.giveGrants := by
  unfold State.giveGrants
  split
  · exact (samePair_grantListed s .ma).trans (samePair_grantListed _ .mb)
  · exact SamePair.refl _

/-- An evaluation reads nothing else. -/
theorem SamePair.outputs {s t : State} (p : SamePair s t) (f : Frame [] s t) (h : OutputsCurrent s) :
    OutputsCurrent t := by
  refine h.congr p.1 (chEnv_congr (f .clock (by simp)) ?_ p.2.1 p.2.2.1 (f .light (by simp)) (f .sensors (by simp)))
  exact congrArg NodeControl.life p.2.2.2

/-- The flags word is nothing that an evaluation reads. -/
theorem OutputsCurrent.syncFlags {s : State} (h : OutputsCurrent s) : OutputsCurrent s.syncFlags := by
  unfold State.syncFlags
  split
  · exact h
  · exact h.congr rfl rfl

theorem outputs_recompute (s : State) : OutputsCurrent s.recompute :=
  ((samePair_giveGrants _).outputs (frame_giveGrants _) (outputs_channelsFollow { s with lb := s.budget })).syncFlags

theorem outputs_follow (s : State) : OutputsCurrent s.follow := by
  unfold State.follow
  dsimp only
  split
  · exact outputs_recompute _
  · exact outputs_channelsFollow _

theorem outputs_followAll (n : Nat) (s : State) : OutputsCurrent (s.followAll (n + 1)) := by
  induction n generalizing s with
  | zero =>
    unfold State.followAll
    dsimp only
    split <;> exact outputs_follow s
  | succ n ih =>
    unfold State.followAll
    dsimp only
    split
    · exact ih _
    · exact outputs_follow s

theorem dispatch_active (s : State) (h : s.life.active = true) : s.dispatch.life.active = true := by
  rcases frame_dispatch s .life (by simp) with e | e
  · rwa [e]
  · rw [e.2]; rfl

/-- After an event every output is what an evaluation makes it. -/
theorem finish_outputs (s : State) (h : s.life.active = true) : OutputsCurrent s.finish := by
  unfold State.finish State.settle
  rw [if_pos (dispatch_active s h)]
  exact (outputs_followAll 7 _).syncFlags

/-- The state of an evaluated channel by its request. -/
theorem Channel.state_of_evaluate {e : ChEnv} {c : Channel} (h : c.evaluate e = c) :
    c.state = .tripped ∨ c.state = .fault ∨
      ((c.fn = .none ∨ ¬ c.request) ∧ c.state = .off) ∨ (c.request ∧ (c.state = .on ∨ c.state = .held)) := by
  obtain ⟨d, k, g⟩ := Channel.evaluate_shape e c
  have q : c.Settled e := by rw [← h, g]; exact k.refresh
  rcases q with q | q | ⟨q1, q2, _⟩ | ⟨q1, q2⟩
  · exact .inl q
  · exact .inr (.inl q)
  · exact .inr (.inr (.inl ⟨q1, q2⟩))
  · refine .inr (.inr (.inr ⟨by by_contra n; exact q1 (.inr n), ?_⟩))
    rcases q2 with ⟨_, q, _⟩ | ⟨_, q, _⟩ | ⟨_, q, _⟩
    · exact .inr q
    · exact .inl q
    · exact .inl q

/-! ### Interlock event -/

theorem frame_wakeForForced (s t : State) : Frame [] t (wakeForForced s t) := by
  unfold wakeForForced
  split
  · exact frame_wakeCause _ _
  · exact Frame.refl _ _

theorem moved_stopUnsourced (s : State) (i : DriveId) : Moved i s (s.stopUnsourced i) := by
  unfold State.stopUnsourced
  dsimp only
  split
  · exact moved_comeToRest _ _ _
  · exact Moved.refl _ _

theorem frame_interlock (s : State) (v : Interlock) : Frame [.interlock, .drives] s { s with interlock := v } := by
  intro b n
  cases b <;> simp at n
  case channels => exact same_channels rfl rfl
  all_goals simp [Same, State.life, State.answers]

/-- An interlock event changes the view and drives, and may wake the node. -/
theorem frame_interlockEvent (s : State) : Frame [.interlock, .drives] s s.interlockEvent := by
  have c : Composes [.interlock, .drives] := by simp [Composes]
  unfold State.interlockEvent
  split
  · exact Frame.refl _ _
  · refine ((((frame_interlock s _).trans c ((moved_stopUnsourced _ .ma).1.widen (by simp))).trans c
      ((moved_stopUnsourced _ .mb).1.widen (by simp))).trans c
      ((frame_evaluateBothForced _).widen (by simp))).trans c ((frame_wakeForForced _ _).widen (by simp))

theorem interlockNow_congr {s t : State} (f : Frame [.drives] s t) : t.interlockNow = s.interlockNow := by
  have p : t.pt = s.pt := f .peers (by simp)
  have a : t.sfe = s.sfe := f .sensors (by simp)
  have g : t.gust = s.gust := f .gust (by simp)
  have v : t.trv = s.trv := f .travelLine (by simp)
  unfold State.interlockNow State.ignitionActive State.speedActive State.peerFlag State.routed State.switchActive
    State.entryOf
  rw [p, a, g, v]

/-- After an interlock event the view is that of its inputs. -/
theorem interlockEvent_current (s : State) :
    s.interlockEvent.interlock = s.interlockNow ∧ s.interlockEvent.interlockNow = s.interlockNow := by
  unfold State.interlockEvent
  split
  · next h => exact ⟨h.symm, rfl⟩
  · have c : Composes [.drives] := by simp [Composes]
    have f : Frame [.drives] { s with interlock := s.interlockNow }
        (wakeForForced { s with interlock := s.interlockNow }
          ((({ s with interlock := s.interlockNow } : State).stopUnsourced .ma).stopUnsourced .mb).evaluateBothForced) :=
      (((moved_stopUnsourced _ .ma).1.trans c (moved_stopUnsourced _ .mb).1).trans c
        (frame_evaluateBothForced _)).trans c ((frame_wakeForForced _ _).widen (by simp))
    exact ⟨f .interlock (by simp), (interlockNow_congr f).trans rfl⟩

end Sys2Proof.Machine
end

