-- ==== Sys2Proof/Laws/Ntc.lean ====
section
/-! SUPPORT. The integer conversion of a thermistor's resistance is the beta relation of R184 floored, at every resistance. -/

namespace Sys2Proof.Machine

/-! ### The series -/

/-- The state of the series after `m` terms: the sum, and the next term. -/
def expState (n d m : Nat) : Nat × Nat :=
  (List.range m).foldl (fun (acc : Nat × Nat) i => (acc.1 + acc.2, acc.2 * n / (d * (i + 1)))) (0, 2 ^ 64)

theorem expState_succ (n d m : Nat) :
    expState n d (m + 1) = ((expState n d m).1 + (expState n d m).2, (expState n d m).2 * n / (d * (m + 1))) := by
  simp [expState, List.range_succ]

/-- How far a floored term may have fallen behind for an exponent up to 4. -/
def termSlack : Nat → ℝ
  | 0 => 0 | 1 => 1 | 2 => 3 | 3 => 5 | _ => 6

theorem termSlack_nonneg (m : Nat) : 0 ≤ termSlack m := by
  match m with
  | 0 | 1 | 2 | 3 | _ + 4 => simp [termSlack]

theorem termSlack_le (m : Nat) : termSlack m ≤ 6 := by
  match m with
  | 0 | 1 | 2 | 3 => norm_num [termSlack]
  | _ + 4 => exact le_refl _

theorem termSlack_step (m : Nat) : termSlack m * (4 / (m + 1)) + 1 ≤ termSlack (m + 1) := by
  match m with
  | 0 | 1 | 2 | 3 => norm_num [termSlack]
  | k + 4 =>
    have h : (4 : ℝ) / (((k + 4 : Nat) : ℝ) + 1) ≤ 4 / 5 := by
      apply div_le_div_of_nonneg_left <;> push_cast <;> linarith [(Nat.cast_nonneg k : (0 : ℝ) ≤ k)]
    simp only [termSlack]
    linarith

theorem floor_div_bounds (a b : Nat) (h : 0 < b) : ((a / b : Nat) : ℝ) ≤ a / b ∧ (a : ℝ) / b ≤ (a / b : Nat) + 1 := by
  refine ⟨Nat.cast_div_le, ?_⟩
  rw [div_le_iff₀ (by exact_mod_cast h)]
  have := Nat.div_add_mod a b
  have := Nat.mod_lt a h
  have : a ≤ (a / b + 1) * b := by rw [Nat.add_mul, Nat.mul_comm]; omega
  exact_mod_cast this

/-- A term of the series of e^y, scaled. -/
noncomputable def expTerm (y : ℝ) (m : Nat) : ℝ := 2 ^ 64 * (y ^ m / m.factorial)

theorem expTerm_succ (y : ℝ) (m : Nat) : expTerm y (m + 1) = expTerm y m * (y / (m + 1)) := by
  unfold expTerm
  rw [Nat.factorial_succ, pow_succ]
  push_cast
  field_simp
  ring

/-- Each floored term is at most its slack below the term of the series. -/
theorem expState_term (n d : Nat) (hd : 0 < d) (hy : n ≤ 4 * d) (m : Nat) :
    ((expState n d m).2 : ℝ) ≤ expTerm (n / d) m ∧ expTerm (n / d) m ≤ (expState n d m).2 + termSlack m := by
  have hd' : (0 : ℝ) < d := by exact_mod_cast hd
  have hy' : (n : ℝ) / d ≤ 4 := by rw [div_le_iff₀ hd']; exact_mod_cast hy
  induction m with
  | zero => norm_num [expState, termSlack, expTerm]
  | succ m ih =>
    obtain ⟨lo, hi⟩ := ih
    rw [expState_succ, expTerm_succ]
    dsimp only
    obtain ⟨f1, f2⟩ := floor_div_bounds ((expState n d m).2 * n) (d * (m + 1)) (by positivity)
    generalize ((expState n d m).2 * n / (d * (m + 1)) : Nat) = q at f1 f2 ⊢
    push_cast at f1 f2
    have e1 : ((expState n d m).2 : ℝ) * n / (d * (m + 1)) = (expState n d m).2 * ((n : ℝ) / d / (m + 1)) := by
      field_simp
    rw [e1] at f1 f2
    have q0 : (0 : ℝ) ≤ (n : ℝ) / d / (m + 1) := by positivity
    have q1 : (n : ℝ) / d / (m + 1) ≤ 4 / (m + 1) := by gcongr
    have b1 := mul_le_mul_of_nonneg_right lo q0
    have b2 := mul_le_mul_of_nonneg_right hi q0
    have b3 := mul_le_mul_of_nonneg_left q1 (termSlack_nonneg m)
    have b4 := termSlack_step m
    rw [add_mul] at b2
    exact ⟨by linarith, by linarith⟩

/-- The floored sum is at most 6 for each term below the series. -/
theorem expState_sum (n d : Nat) (hd : 0 < d) (hy : n ≤ 4 * d) (m : Nat) :
    ((expState n d m).1 : ℝ) ≤ ∑ i ∈ Finset.range m, expTerm (n / d) i ∧
      ∑ i ∈ Finset.range m, expTerm (n / d) i ≤ (expState n d m).1 + 6 * m := by
  induction m with
  | zero => simp [expState]
  | succ m ih =>
    obtain ⟨lo, hi⟩ := expState_term n d hd hy m
    have := termSlack_le m
    rw [expState_succ, Finset.sum_range_succ]
    push_cast
    exact ⟨by linarith [ih.1], by linarith [ih.2]⟩

/-- What the 48 terms leave out of e^y for y up to 4 is below 2⁻⁶⁴. -/
theorem exp_tail (y : ℝ) (h0 : 0 ≤ y) (h4 : y ≤ 4) :
    ∑ i ∈ Finset.range 48, expTerm y i ≤ 2 ^ 64 * Real.exp y ∧
      2 ^ 64 * Real.exp y ≤ ∑ i ∈ Finset.range 48, expTerm y i + 1 := by
  have hs : ∑ i ∈ Finset.range 48, expTerm y i = 2 ^ 64 * ∑ i ∈ Finset.range 48, y ^ i / i.factorial := by
    simp only [expTerm, Finset.mul_sum]
  rw [hs]
  refine ⟨by gcongr; exact Real.sum_le_exp_of_nonneg h0 48, ?_⟩
  have hx : ‖(y : ℂ)‖ = y := by rw [Complex.norm_real, Real.norm_of_nonneg h0]
  have h := Complex.exp_bound' (x := (y : ℂ)) (n := 48) (by rw [hx]; push_cast; linarith)
  rw [hx] at h
  have e : Complex.exp y - ∑ m ∈ Finset.range 48, (y : ℂ) ^ m / m.factorial =
      ((Real.exp y - ∑ m ∈ Finset.range 48, y ^ m / m.factorial : ℝ) : ℂ) := by push_cast; rfl
  rw [e, Complex.norm_real] at h
  have h1 := (le_abs_self _).trans h
  have h2 : y ^ 48 / (Nat.factorial 48 : ℝ) * 2 ≤ 4 ^ 48 / (Nat.factorial 48 : ℝ) * 2 := by gcongr
  have h3 : (4 : ℝ) ^ 48 / (Nat.factorial 48 : ℝ) * 2 ≤ 1 / 2 ^ 64 := by norm_num [Nat.factorial]
  have h4 := h1.trans (h2.trans h3)
  have : (2 : ℝ) ^ 64 * (1 / 2 ^ 64) = 1 := by norm_num
  nlinarith [h4]

/-- The scaled exponential is at most 300 below, for an exponent up to 4. -/
theorem expScaled_bounds (n d : Nat) (hd : 0 < d) (hy : n ≤ 4 * d) :
    (expScaled n d : ℝ) ≤ 2 ^ 64 * Real.exp (n / d) ∧ 2 ^ 64 * Real.exp (n / d) ≤ expScaled n d + 300 := by
  have hd' : (0 : ℝ) < d := by exact_mod_cast hd
  obtain ⟨t1, t2⟩ := exp_tail (n / d) (by positivity) (by rw [div_le_iff₀ hd']; exact_mod_cast hy)
  obtain ⟨s1, s2⟩ := expState_sum n d hd hy 48
  have e : expScaled n d = (expState n d 48).1 := rfl
  rw [e]
  norm_num at s2
  exact ⟨by linarith, by linarith⟩

/-! ### The resistance of a temperature -/

/-- Resistance in mΩ at `t` + 400 tenths above −40.0 °C, by the beta relation. -/
noncomputable def betaResistance (t : Nat) : ℝ :=
  10 ^ 7 * Real.exp (3950 * (100 / (23315 + 10 * t) - 1 / 298.15))

/-- The 300 parts that the scaled exponential may miss do not carry a resistance over a whole mΩ. -/
def flooredSafely (t : Nat) : Bool :=
  let k := 27315 - 4000 + 10 * t
  if k ≤ 29815 then
    let e := expScaled (395000 * (29815 - k)) (29815 * k)
    (10 ^ 7 * e / 2 ^ 64).beq (10 ^ 7 * (e + 300) / 2 ^ 64)
  else
    let e := expScaled (395000 * (k - 29815)) (29815 * k)
    (10 ^ 7 * 2 ^ 64 / e).beq (10 ^ 7 * 2 ^ 64 / (e + 300))

theorem flooredSafely_hundreds : ∀ j < 13, ∀ i < 100, flooredSafely (100 * j + i) = true := by decide +kernel

theorem flooredSafely_all (t : Nat) (ht : t < 1251) : flooredSafely t = true := by
  have h := flooredSafely_hundreds (t / 100) (by omega) (t % 100) (by omega)
  rwa [Nat.div_add_mod] at h

theorem expScaled_pos (n d : Nat) (hd : 0 < d) (hy : n ≤ 4 * d) : 0 < expScaled n d := by
  obtain ⟨-, h⟩ := expScaled_bounds n d hd hy
  have h1 : (1 : ℝ) ≤ Real.exp (n / d) := Real.one_le_exp (by positivity)
  have : (0 : ℝ) < expScaled n d := by linarith
  exact_mod_cast this

/-- The whole mΩ of the table are those of the beta relation. -/
theorem le_ntcResistance (t r : Nat) (ht : t < 1251) : r ≤ ntcResistance t ↔ (r : ℝ) ≤ betaResistance t := by
  have safe := flooredSafely_all t ht
  unfold flooredSafely at safe
  unfold ntcResistance
  dsimp only at safe ⊢
  have hk : ((27315 - 4000 + 10 * t : Nat) : ℝ) = 23315 + 10 * t := by push_cast; norm_num
  have hp : (0 : ℝ) < 23315 + 10 * t := by positivity
  split at safe
  · next h =>
    rw [if_pos h]
    have ex : betaResistance t =
        10 ^ 7 * Real.exp ((395000 * (29815 - (27315 - 4000 + 10 * t)) : Nat) / (29815 * (27315 - 4000 + 10 * t) : Nat)) := by
      unfold betaResistance
      congr 2
      rw [Nat.cast_mul, Nat.cast_mul, Nat.cast_sub h, hk]
      field_simp
      norm_num
      ring
    have hb := expScaled_bounds (395000 * (29815 - (27315 - 4000 + 10 * t))) (29815 * (27315 - 4000 + 10 * t)) (by omega)
      (by omega)
    rw [ex]
    generalize expScaled _ _ = e at hb safe ⊢
    generalize Real.exp _ = E at hb ⊢
    have safe := Nat.eq_of_beq_eq_true safe
    obtain ⟨b1, b2⟩ := hb
    constructor
    · intro hr
      rw [Nat.le_div_iff_mul_le (by norm_num)] at hr
      have hr : (r : ℝ) * 2 ^ 64 ≤ 10 ^ 7 * e := by exact_mod_cast hr
      linarith
    · intro hr
      rw [safe, Nat.le_div_iff_mul_le (by norm_num)]
      have : (r : ℝ) * 2 ^ 64 ≤ 10 ^ 7 * (e + 300) := by linarith
      exact_mod_cast this
  · next h =>
    rw [if_neg h]
    have ex : betaResistance t =
        10 ^ 7 * (Real.exp ((395000 * ((27315 - 4000 + 10 * t) - 29815) : Nat) / (29815 * (27315 - 4000 + 10 * t) : Nat)))⁻¹ := by
      unfold betaResistance
      rw [← Real.exp_neg]
      congr 2
      rw [Nat.cast_mul, Nat.cast_mul, Nat.cast_sub (by omega), hk]
      field_simp
      norm_num
      ring
    have hb := expScaled_bounds (395000 * ((27315 - 4000 + 10 * t) - 29815)) (29815 * (27315 - 4000 + 10 * t)) (by omega)
      (by omega)
    have pos := expScaled_pos (395000 * ((27315 - 4000 + 10 * t) - 29815)) (29815 * (27315 - 4000 + 10 * t)) (by omega)
      (by omega)
    have Epos := Real.exp_pos (((395000 * ((27315 - 4000 + 10 * t) - 29815) : Nat) : ℝ) / (29815 * (27315 - 4000 + 10 * t) : Nat))
    rw [ex]
    generalize expScaled _ _ = e at hb safe pos ⊢
    generalize Real.exp _ = E at hb Epos ⊢
    have safe := Nat.eq_of_beq_eq_true safe
    obtain ⟨b1, b2⟩ := hb
    rw [← div_eq_mul_inv, le_div_iff₀ Epos]
    have r0 : (0 : ℝ) ≤ r := by positivity
    constructor
    · intro hr
      rw [safe, Nat.le_div_iff_mul_le (by omega)] at hr
      have hr : (r : ℝ) * (e + 300) ≤ 10 ^ 7 * 2 ^ 64 := by exact_mod_cast hr
      nlinarith [mul_le_mul_of_nonneg_left b2 r0]
    · intro hr
      rw [Nat.le_div_iff_mul_le pos]
      have : (r : ℝ) * e ≤ 10 ^ 7 * 2 ^ 64 := by nlinarith [mul_le_mul_of_nonneg_left b1 r0]
      exact_mod_cast this

/-! ### The temperature of a resistance -/

/-- Whole tenths of a degree Celsius at `r` mΩ, by the beta relation (R184). -/
noncomputable def betaTenths (r : Nat) : Int :=
  ⌊10 * (1 / (1 / 298.15 + Real.log (r / 10 ^ 7) / 3950) - 273.15 : ℝ)⌋

/-- A resistance is at most that of a temperature exactly where its temperature is at least that one. -/
theorem le_betaResistance (t r : Nat) (h1 : 80000 ≤ r) : (r : ℝ) ≤ betaResistance t ↔ (t : Int) - 400 ≤ betaTenths r := by
  have r0 : (0 : ℝ) < r / 10 ^ 7 := by
    have : (80000 : ℝ) ≤ r := by exact_mod_cast h1
    positivity
  have hp : (0 : ℝ) < 23315 + 10 * t := by positivity
  have low : (0 : ℝ) < 1 / 298.15 + Real.log (r / 10 ^ 7) / 3950 := by
    have a : (80000 : ℝ) ≤ r := by exact_mod_cast h1
    have b : Real.log (1 / 125) ≤ Real.log (r / 10 ^ 7) := by
      apply Real.log_le_log (by norm_num); rw [le_div_iff₀ (by norm_num)]; linarith
    have c : -5 ≤ Real.log (1 / 125) := by
      rw [Real.le_log_iff_exp_le (by norm_num), Real.exp_neg, one_div, inv_le_inv₀ (Real.exp_pos _) (by norm_num)]
      have := Real.exp_one_gt_d9
      have e5 : Real.exp 5 = Real.exp 1 ^ 5 := by rw [← Real.exp_nat_mul]; norm_num
      rw [e5]
      calc (125 : ℝ) ≤ 2.7 ^ 5 := by norm_num
        _ ≤ Real.exp 1 ^ 5 := by gcongr; linarith
    linarith
  unfold betaResistance betaTenths
  generalize hD : 1 / 298.15 + Real.log (r / 10 ^ 7) / 3950 = D at low ⊢
  have step : (r : ℝ) ≤ 10 ^ 7 * Real.exp (3950 * (100 / (23315 + 10 * t) - 1 / 298.15)) ↔ D ≤ 100 / (23315 + 10 * t) := by
    rw [← div_le_iff₀' (by norm_num), ← Real.log_le_iff_le_exp r0]
    constructor <;> intro h <;> linarith
  have tenths : (t : ℝ) - 400 ≤ 10 * (1 / D - 273.15) ↔ (23315 + 10 * t) / 100 ≤ 1 / D := by
    constructor <;> intro h <;> linarith
  rw [step, Int.le_floor]
  push_cast
  rw [tenths, le_div_iff₀ hp, le_div_iff₀ low]
  constructor <;> intro h <;> linarith

/-! ### The search -/

/-- The search from a bit of weight 2^n down finds the number that a test lets pass before one that it does not. -/
theorem search_spec (p : Nat → Prop) [DecidablePred p] (n t : Nat) :
    (t = 0 ∨ p t) → ¬ p (t + 2 ^ n) →
      ∀ u, u = ((List.range n).reverse.map (2 ^ ·)).foldl (fun t bit => if p (t + bit) then t + bit else t) t →
        (u = 0 ∨ p u) ∧ ¬ p (u + 1) := by
  induction n generalizing t with
  | zero => rintro h1 h2 u rfl; exact ⟨h1, h2⟩
  | succ n ih =>
    rintro h1 h2 u rfl
    rw [List.range_succ, List.reverse_append, List.map_append]
    simp only [List.reverse_singleton, List.map_cons, List.map_nil, List.singleton_append, List.foldl_cons]
    by_cases h : p (t + 2 ^ n)
    · rw [if_pos h]
      exact ih _ (.inr h) (by rwa [Nat.add_assoc, ← Nat.two_mul, ← Nat.pow_succ']) _ rfl
    · rw [if_neg h]
      exact ih _ h1 h _ rfl

/-- A valid sample is the temperature of the beta relation in whole tenths, clamped to −40.0 to +85.0 °C (R184). -/
theorem temperatureSample_eq (r : Nat) (h1 : 80000 ≤ r) (h2 : r ≤ 1200000000) :
    temperatureSample r = some (max (-400) (min 850 (betaTenths r))) := by
  have key : ∀ t : Nat, (t ≤ 1250 ∧ r ≤ ntcResistance t) ↔ (t ≤ 1250 ∧ (t : Int) - 400 ≤ betaTenths r) := by
    intro t
    refine and_congr_right fun h => ?_
    rw [le_ntcResistance t r (by omega), le_betaResistance t r h1]
  have e : ∀ u, u = ntcSearch r → (u = 0 ∨ (u ≤ 1250 ∧ r ≤ ntcResistance u)) ∧
      ¬ (u + 1 ≤ 1250 ∧ r ≤ ntcResistance (u + 1)) := by
    have bits : [1024, 512, 256, 128, 64, 32, 16, 8, 4, 2, 1] = (List.range 11).reverse.map (2 ^ ·) := by decide
    unfold ntcSearch
    rw [bits]
    exact search_spec (fun t => t ≤ 1250 ∧ r ≤ ntcResistance t) 11 0 (.inl rfl) (by omega)
  have e := e _ rfl
  rw [key, key] at e
  have valid : ¬ (1200000000 < r ∨ r < 80000) := by omega
  rw [temperatureSample, if_neg valid]
  generalize ntcSearch r = u at e ⊢
  refine congrArg some ?_
  omega

end Sys2Proof.Machine
end

