-- ==== Sys2Proof/WellFormed.lean ====
section
/-! DEFINITION. Which commands are well formed: what no good telegram and no station of the link could bring (R153, 12
header). The meanings are total; they do not rest on these checks. -/

namespace Sys2Proof

/-- A payload holds at most 12 bytes (R153). -/
def payloadFits (p : List Byte) : Bool := p.length ≤ 12

/-- A target is 0 to 30 (12, header). -/
def targetExists (t : Addr) : Bool := t.val ≤ 30

/-- A station's address is 1 to 30 (00, Terms). -/
def stationAddress (a : Addr) : Bool := 1 ≤ a.val && a.val ≤ 30

/-- A good telegram's target and payload. -/
def telegramFits (t : Addr) (p : List Byte) : Bool := targetExists t && payloadFits p

def Instr.wellFormed : Instr → Bool
  | .stateReceived _ t a | .batteryReceived _ t a | .measureReceived _ t a | .sceneReceived _ t a
  | .wakeReceived _ t a | .operateReceived _ t a | .settingsReceived _ t a | .answerReceived _ t a =>
    telegramFits t a.payload
  | .telegramForOtherStation m => telegramFits m.tgt m.arrival.payload
  | .peerStale a | .peerLost a | .peerCabinTExpiry a | .batteryCandidateExpiry a => stationAddress a
  | _ => true

end Sys2Proof
end

