-- ==== Sys2Proof/Tests/Slice0.lean ====
section
/-! SUPPORT. Tests. The first part checks single steps and operations against the worked sequences of the spec; their
numbers are the spec's. The second shows, for each statement with hypotheses, states and operands that meet them. -/

set_option maxRecDepth 20000

namespace Sys2Proof.Tests

open Sys2Proof.Machine

/-! ### Well-formedness: each check refuses an ill-formed term -/

theorem test_payload_of_13_refused : (Instr.sceneReceived 1 0 ⟨6, List.replicate 13 0, 0⟩).wellFormed = false := by decide
theorem test_payload_of_12_accepted : (Instr.stateReceived 1 0 ⟨6, List.replicate 12 0, 0⟩).wellFormed = true := by decide
theorem test_target_31_refused : (Instr.wakeReceived 1 31 ⟨0, [], 0⟩).wellFormed = false := by decide
theorem test_target_30_accepted : (Instr.wakeReceived 1 30 ⟨0, [], 0⟩).wellFormed = true := by decide
theorem test_station_0_refused : (Instr.peerStale 0).wellFormed = false := by decide
theorem test_station_31_refused : (Instr.batteryCandidateExpiry 31).wellFormed = false := by decide

/-- The table gives no row bits, so no word spells a command (log entry 3). -/
theorem test_no_word_spells_a_command : Sys2Proof.decodeTableWord 0 0 = none := by decide

/-! ### Small states -/

/-- The next state of a command. -/
def after (c : Instr) (s : State) : State :=
  match exec c s with
  | .next t => t
  | _ => s

/-- A WATER node of address 3 in RUN at 1 s, with every class allowed. -/
def base : State :=
  { State.reset with
    now := 1000
    nc := { State.reset.nc with life := .run, supplyLow := false, started := true, strap := .valid 3 .water }
    lc := { State.reset.lc with synchronised := true, idle := true }
    lb := { State.reset.lb with s := .upTo 3, sEff := .upTo 3, f := 256, applied := 256, firstPending := false, lU := 100 } }

def live (l : LifeState) : State := { base with nc := { base.nc with life := l } }
def roled (r : Role) (s : State) : State := { s with nc := { s.nc with strap := .valid 3 r } }

/-- With one channel put in place, with a drive, with entries in the queue. -/
def withCh (i : Fin 8) (c : Channel) (s : State) : State := { s with sw := s.sw.set i.val c i.isLt }
def withMa (d : Drive) (s : State) : State := { s with ma := d }
def asked (es : List Entry) (s : State) : State := { s with od := { s.od with iq := es } }

/-- An OPERATE of panel 20: function, instance, action, value. -/
def op (fn inst act v : Nat) : Entry :=
  ⟨true, 20, true, [byteOf fn, byteOf inst, byteOf act, byteOf (v / 256), byteOf v]⟩

/-- A SETTINGS payload in hand in COMMISSIONING. -/
def inHand (p : List Byte) : State := { live .commissioning with od := { base.od with inHand := some p } }

def lamp : Channel := { Channel.blank with fn := .light, inst := 1, cls := 1, nominal := 20, dimmable := true }
def lampOn : Channel := { lamp with request := true, state := .on, target := 63, current := 63, duty := 1023 }
def aux : Channel := { Channel.blank with fn := .aux, inst := 2, cls := 2, nominal := 50 }
def pump : Channel := { Channel.blank with fn := .pump, cls := 1, nominal := 60, mode := .gated, gate := .pressureSw }
def auxOn : Channel := { aux with request := true, state := .on, duty := 1023 }

def awning (st : DriveState) : Drive := { Drive.blank .awning with state := st }

/-! ### 01, worked sequence: a cold night on a 200 Ah battery -/

def coldParams : CcParams := { CcParams.defaults with cNom := 200, iMax := 1000, iEss := 150 }

/-- Shunt voltage in nV of a current in 10 mA: 50 mV reads 20000. -/
def shunt (i : Int) : Int := i * 2500

def counter (q : Nat) : ChargeCounter :=
  { ChargeCounter.atReset with
    params := coldParams, count := some ⟨q, 0, 200⟩, estimated := true, estimatedSinceReset := true, ring := [0] }

theorem test_cold_start_estimate :
    (ChargeCounter.atReset.sample 0 12460 (some 40)).count = some ⟨97200000, 0, 100⟩ := by decide
theorem test_charging_sample :
    let c := (counter 194400000).sample (shunt 1500) 12460 (some 40)
    (c.count, c.soc, c.socUsed, c.l) = (some ⟨194401425, 0, 200⟩, 31, 21, 178) := by decide
theorem test_discharging_sample :
    let c := (counter 194401425).sample (shunt (-3200)) 12460 (some 40)
    (c.count, c.soc, c.l) = (some ⟨194398225, 0, 200⟩, 31, 178) := by decide
/-- 01 R2: +50 mV reads +20000 and is within range; any voltage beyond sets SHUNT_RANGE, also one that reads 20000. -/
theorem test_shunt_range :
    ([50000000, 50000001, -50000000, -50000001, 25000000, 60000000].map fun nv =>
      (ChargeCounter.atReset.take nv 12460 none).iS) = [20000, 20000, -20000, -20000, 10000, 20000] ∧
    ([50000000, 50000001, -50000000, -50000001, 25000000, 60000000].map fun nv =>
      (ChargeCounter.atReset.take nv 12460 none).shuntRange) = [false, true, false, true, false, true] := by decide
theorem test_cold_derate :
    let c := (counter 194398225).sample 0 12460 (some (-5))
    (c.soc, c.socUsed, c.l, c.cold) = (37, 27, 261, true) := by decide
theorem test_warm_reset_rescales :
    (counter 720000000).warm.count = some ⟨360000000, 0, 100⟩ := by decide

/-! ### 03, worked case: an awning start on a cold evening, at its totals -/

theorem test_shed_follows_totals :
    (rawShed false 943 130 225 940, rawShed false 943 190 285 1000, rawShed true 943 0 0 0) =
      (.upTo 3, .upTo 2, .allShed) := by decide
theorem test_throttle_of_tentative_want : throttleOf (.upTo 2) 943 ⟨70, 120, 95, 715⟩ 70 190 285 = 235 := by decide
theorem test_no_restore_above_885 : restoreHolds (.upTo 2) 943 70 130 225 940 = false := by decide
theorem test_restore_at_885 : restoreHolds (.upTo 2) 943 70 130 225 885 = true := by decide

/-! ### 04: lights under throttle, and the shorted outlet -/

theorem test_curve_default :
    [40, 53, 54, 55, 62, 63].map (levelDuty LightUnit.defaultCurve) = [412, 724, 751, 779, 990, 1023] := by decide
theorem test_throttled_duty :
    ({ lamp with state := .on, request := true, throttled := true, current := 63 } : Channel).dutyOf
      { base.chEnv with applied := 235 } = 939 := by decide
theorem test_want_of_dimmed_light :
    ({ lamp with request := true, target := 40 } : Channel).want LightUnit.defaultCurve = 9 := by decide
theorem test_trip_threshold :
    (auxOn.threshold, ({ auxOn with blanking := some 1200 } : Channel).threshold) = (100, 200) := by decide
theorem test_channel_trip :
    let t := after (.channelTrip 1 ⟨140, 0⟩) (withCh 1 auxOn { base with now := 5010 })
    (t.sw[1].state, t.sw[1].cooldown, t.sw[1].trips, t.sw[1].duty) = (.tripped, some 10010, [5010], 0) := by decide
theorem test_third_trip_faults :
    let c := { auxOn with trips := [5010, 10020] }
    let t := after (.channelTrip 1 ⟨120, 0⟩) (withCh 1 c { base with now := 15410 })
    (t.sw[1].state, t.nc.flags.channelFault, t.lb.w.w2) = (.fault, true, 0) := by decide
/-- 04, blanking: within 200 ms of the turn-on the threshold is four times; a run that crosses its end must exceed both. -/
theorem test_run_across_the_blanking :
    let s := withCh 1 { auxOn with onSince := 800 } base
    ((after (.channelTrip 1 ⟨140, 150⟩) s).sw[1].state, (after (.channelTrip 1 ⟨140, 201⟩) s).sw[1].state) =
      (.on, .tripped) := by decide
/-- 04: OPEN needs 2 s at duty 1023, so it is not set before they are over. -/
theorem test_open_load_after_2_s :
    let t := after (.openLoadDetected 1 5) (withCh 1 { auxOn with fullSince := 900 } base)
    (t.sw[1].openLoad, t.now) = (true, 2900) := by decide
theorem test_light_on :
    let t := after .lightOn (asked [op 2 1 1 0] (withCh 0 lamp base))
    (t.sw[0].target, t.sw[0].state, t.sw[0].fadeTimer, t.answers) = (63, .on, some 1020, [(20, [2, 1, 1, 0])]) := by
  decide

/-- 04 R64: a LEVEL light under OPERATE TIMED is lit while the end timer runs only; ON makes it a LEVEL light again. -/
theorem test_timed_request_of_a_level_light :
    let s := withCh 0 { lampOn with timedRequest := true, endTimer := some 2000 } base
    ((after .linkIdle s).sw[0].duty, (after (.channelEndTimerExpiry 0) s).sw[0].duty,
      (after .lightOn (asked [op 2 1 1 0] (after (.channelEndTimerExpiry 0) s))).sw[0].duty) = (1023, 0, 1023) := by decide
/-- 04 R70: an OFF during TRIPPED makes the request off, so a cooldown that ends within the fade leaves the light OFF. -/
theorem test_off_during_the_cooldown :
    let s := asked [op 2 1 2 0] (withCh 0 { lampOn with state := .tripped, duty := 0, cooldown := some 2000 } base)
    let t := after .lightOff s
    (t.sw[0].request, t.sw[0].state, t.sw[0].current, (after (.tripCooldownEnd 0) t).sw[0].state) =
      (false, .tripped, 63, .off) := by decide

/-! ### 05, worked sequence: a gust during an awning extension -/

theorem test_gust_brakes_the_awning :
    let s := { base with
      now := 12000
      gust := { base.gust with pulses := 57, windowEnd := some 12000 }
      sfe := { base.sfe with routes := Role.awning.routes }
      ma := { awning .extending with position := 1200, direction := some .extend } }
    let t := after .gustWindowEnd s
    (t.gust.speed, t.gust.lockout, t.ma.state, t.ma.forced, t.nc.flags.wind, t.ts.pending.stateUrgent) =
      (114, some 612000, .braking, some .wind, true, true) := by decide
theorem test_brake_end_retracts :
    let s := { base with
      now := 12300
      gust := { base.gust with lockout := some 612000 }
      interlock := ⟨false, false, true⟩
      ma := { awning .braking with
        position := 1208, direction := some .retract, forced := some .wind, brakeTimer := some 12300 } }
    let t := after (.brakeTimerExpiry .ma) s
    (t.ma.state, t.ma.forced, t.ma.travelTimer) = (.retracting, some .wind, some 57300) := by decide
theorem test_retracted_stall :
    let s := withMa { awning .retracting with direction := some .retract, position := 150 } base
    let t := after (.driveStall .ma (.current 91)) s
    (t.ma.state, t.ma.position) = (.retracted, 0) := by decide
theorem test_stall_outside_window_jams :
    let s := withMa { awning .retracting with direction := some .retract, position := 151 } base
    let t := after (.driveStall .ma (.current 91)) s
    (t.ma.state, t.ma.position, t.ma.jam) = (.jammed, 151, true) := by decide

/-- 05, a STOP while the Answer FIFO is nearly full: the resolved answer is kept. -/
theorem test_stop_keeps_the_cancelled_answer :
    let a : Answer := ⟨9, 1, 0, 12, .done, .nothing⟩
    let s := asked [⟨true, 22, true, [9, 0, 11, 0, 0]⟩] { base with
      ts := { base.ts with fifo := [a, a, a, a, a] }
      ma := { awning .waitGrant with
        origin := some .retracted, direction := some .extend, grantTimer := some 6000,
        slot := .waiting ⟨20, 9, 0, 9⟩ } }
    let t := after .awningStop s
    (t.ts.fifo.length, t.ma.state, t.ma.slot.since, t.answers.getLast?) =
      (6, .retracted, some 1000, some (22, [9, 0, 11, 0])) := by decide

/-- 05: with both answers resolved at one instant MA's takes the first place, else the earlier one (R94). -/
theorem test_kept_answers_in_order :
    let kept (at_ : Nat) (d : Drive) : Drive := { d with slot := .kept ⟨20, 9, 0, 9⟩ .started at_ }
    let s (m : Nat) : State := { base with ma := kept m (awning .parked), mb := kept 900 (Drive.blank .step) }
    ((s 900).placeAllKept.ma.slot, ((s 900).placeKept .ma).mb.slot.since) = (.empty, some 900) ∧
      (({ s 950 with ts := { base.ts with fifo := List.replicate 5 ⟨9, 1, 0, 12, .done, .nothing⟩ } } : State)
        ).placeAllKept.ma.slot.since = some 950 := by decide

/-! ### 06, worked sequence: tank levels and volume -/

theorem test_level_percents :
    [95, 14, 19, 21, 163, 156].map (levelPercent 10 180) = [50, 2, 5, 6, 90, 85] := by decide
theorem test_level_flags :
    (freshEmptyOf 2 false, freshEmptyOf 5 true, freshEmptyOf 6 true, greyFullOf 90 false, greyFullOf 85 true) =
      (true, true, false, true, false) := by decide
theorem test_volume_of_pulses :
    let w := WaterFrost.atReset.convertPulses 100000
    ((w.volume, w.remainder), ((w.convertPulses (w.remainder + 300)).remainder),
      (w.convertPulses (w.remainder + 400)).volume) = ((222, 100), 400, 223) := by decide

/-! ### 07, worked sequence: an evening on the thermostat -/

/-- The HEATING node of the sequence, with the cabin at `x`. -/
def cabin (x : Int) : State :=
  let s := roled .heating base
  { s with
    sw := Role.heating.channels
    sfe := { s.sfe with routes := Role.heating.routes, temps := ⟨#[[x], [], [], []], rfl⟩ }
    pt := { s.pt with lIsland := 943 }
    ht := { s.ht with heaterEnabled := true, next := some 1000 } }

theorem test_cold_cabin_fires :
    let t := after .htEvaluation (cabin 173)
    (t.ht.burner, t.ht.lit, t.ht.minimumOn, t.sw[0].state, t.sw[1].state) = (.firing, true, some 301000, .on, .on) := by
  decide
theorem test_minimum_on_ends_in_run_on :
    let s := after .htEvaluation (cabin 173)
    let t := after .minimumOnTimerExpiry { s with ht := { s.ht with normalDemand := false } }
    (t.ht.burner, t.ht.rest, t.sw[0].state, t.sw[1].exempt, t.sw[1].endTimer) =
      (.runOn, some 481000, .off, true, some 421000) := by decide

/-! ### 10, straps and window; 11, MEASURE rotation -/

theorem test_straps_of_the_sequence : strapOf 34600 52100 = .valid 2 .water := by decide
theorem test_odd_band_is_a_fault : strapOf 34600 34600 = .fault := by decide
theorem test_closing_timer_moves :
    let s := inHand [11, 10, 180, 10, 180, 1, 194]
    let t (now : Nat) := (after .waterRecord { s with now := now, nc := { s.nc with closing := some 20000 } }).nc.closing
    (t 4100, t 17000) = (some 20000, some 22000) := by decide
theorem test_channel_14_is_skipped :
    let s := inHand [1, 14, 2, 1, 0, 0, 0, 0, 0, 0, 0, 0]
    (after .channelRecord { s with nc := { s.nc with closing := some 22100 }, now := 21000 }).nc.closing = some 22100 := by
  decide
theorem test_measure_rotation :
    let s := { cabin 173 with sfe := { (cabin 173).sfe with measureList := (cabin 173).measureListNow } }
    (s.sfe.measureList, s.sfe.advance.pointer, s.sfe.advance.advance.pointer, s.sfe.advance.advance.advance.pointer) =
      ([1, 2, 10, 11, 12], 4, 3, 2) := by decide

/-- 12: the polynomial x⁸ + x² + x + 1 on the bytes "123456789" leaves F4, the known check value of this CRC. -/
theorem test_crc_check_value : crc8 [0x31, 0x32, 0x33, 0x34, 0x35, 0x36, 0x37, 0x38, 0x39] = 0xF4 := by decide

/-- 09: a telegram whose check is not that of its bytes is counted, one of 13 bytes is dropped at its length (R153). -/
theorem test_bad_check_is_counted :
    let bad : Arrival := ⟨0, [], crc8 [5, 0, 0] + 1⟩
    ((after (.wakeReceived 5 0 bad) (live .dormant)).life, (after (.wakeReceived 5 0 bad) (live .dormant)).lc.badChecks,
      (after (.wakeReceived 5 0 ⟨0, [], crc8 [5, 0, 0]⟩) (live .dormant)).life,
      (after (.settingsReceived 5 3 ⟨6, List.replicate 13 0, 0⟩) base).lc.rx) = (.dormant, 1, .run, .discarding) := by
  decide

/-- 11: 10 kΩ is +25.0 °C. -/
theorem test_ntc_at_25_degrees : temperatureSample 10000000 = some 250 := by decide

/-! ### Witnesses: states and operands that meet the hypotheses of each statement, clause by clause -/

/-- A command gives a next state. -/
def steps (s : State) : Bool :=
  match step s with
  | .next _ => true
  | _ => false

/-- An awning that extends at a node of address 3, with a light to be put on and a gust window about to end. -/
def busyNode : State :=
  { (asked [op 2 1 1 0] (withCh 0 lamp { base with
      gust := { base.gust with pulses := 57, windowEnd := some 1000 }
      sfe := { base.sfe with routes := Role.awning.routes }
      ma := { awning .extending with position := 1200, direction := some .extend, travelTimer := some 46000 } })).finish with
    pending := [.gustWindowEnd, .lightOn] }

theorem test_wit_BoundsStayKept :
    QueuesBounded busyNode ∧ PeersSound busyNode ∧ PositionsSound busyNode ∧ steps busyNode = true := by
  unfold QueuesBounded PeersSound PositionsSound PositionSound; decide
theorem test_wit_BoundsStayKept_count :
    CountSound (counter 720000000) ∧ steps { busyNode with cc := counter 720000000 } = true :=
  ⟨fun n h => by cases h; decide, by decide⟩
theorem test_wit_InterlocksStayKept : (InterlocksKept busyNode ∧ PeersSound busyNode) ∧ steps busyNode = true :=
  ⟨⟨by unfold InterlocksKept InterlockKept; decide, by unfold PeersSound; decide⟩, by decide⟩
theorem test_wit_FirstLawStaysKept :
    FirstLaw (after .lightOn busyNode) ∧ (after .lightOn busyNode).sw[0].state = .on ∧
      steps (after .lightOn busyNode) = true := by
  unfold FirstLaw Channel.Granted; decide
theorem test_wit_OutputsFlagsAndLocksStayCurrent :
    (OutputsCurrent busyNode ∧ ChannelsAtRest busyNode ∧ FlagsCurrent busyNode ∧ LocksCurrent busyNode ∧
      steps busyNode = true) ∧
      State.reset.life.active = false ∧ OutputsCurrent State.reset ∧ ChannelsAtRest State.reset := by
  unfold OutputsCurrent ChannelsAtRest FlagsCurrent LocksCurrent; decide
theorem test_wit_ShedStaysSound : ShedSound busyNode ∧ steps busyNode = true :=
  ⟨⟨fun raw h => by cases h; decide, fun _ => ⟨by decide, fun raw h => by cases h; decide⟩, by decide,
    fun h => absurd rfl h, by decide, by decide, by decide⟩, by decide⟩
theorem test_wit_LifeStatesKeepTheirPromises :
    LifeSound busyNode ∧ Silent { busyNode with nc := { busyNode.nc with life := .listenOnly } } ∧
      steps busyNode = true := by
  unfold LifeSound Silent; decide

theorem test_wit_ResetsKeepWhatTheyKeep :
    ¬ (base.life = .reset ∧ base.nc.kind = .cold) ∧ (withMa (awning .retracted) base).ma.state = .retracted ∧
      (State.reset.life = .reset ∧ State.reset.nc.rstLow = false ∧ State.reset.nc.supplyLow = true) ∧
      (after .warmReset base).life = .reset ∧ (after .warmReset base).nc.rstLow = true ∧
      (after .warmReset base).nc.supplyLow = false := by decide

def reading : State := { live .strapRead with nc := { (live .strapRead).nc with strapTimer := some 1020 } }

theorem test_wit_StrapsDecideTheNode :
    reading.life = .strapRead ∧ reading.nc.strapTimer = some 1020 ∧
      (bandOf 20700 = some 0 ∧ roleOfBand 0 = some .battery) ∧ (bandOf 1848000 = some 11 ∧ roleOfBand 10 = some .cab) ∧
      bandOf 20699 = none ∧ bandOf 34600 = some 1 := by decide

/-- COMMISSIONING, before the end of the window. -/
def window : State :=
  { live .commissioning with
    nc := { (live .commissioning).nc with started := false, closing := some 21000, limit := some 61000 }
    od := { base.od with inHand := some [14] } }

theorem test_wit_WindowEndsInRunOrListenOnly :
    window.life = .commissioning ∧ LifeSound window ∧ window.nc.closing = some 21000 ∧ window.nc.limit = some 61000 ∧
      window.od.inHand = some [14] ∧ byteAt [14] 0 = 14 ∧ window.pt.clash = false ∧
      LifeSound { window with pt := { window.pt with clash := true } } := by
  unfold LifeSound; decide

def battery : State :=
  { roled .battery base with cc := { counter 194400000 with next := some 1000 }, ts := base.ts }

theorem test_wit_ChargeCounterSamples :
    battery.life.active = true ∧ battery.isBattery = true ∧ battery.cc.next = some 1000 ∧ battery.cc.sent = none ∧
      (after (.ccSample (shunt 1500) 12460) battery).cc.conflict = false ∧ battery.ownAddr = some 3 ∧
      battery.pt.candidates = [] := by decide

/-- Discharge from a count of one sample's charge and of 1 less; a first sample, at 12.460 V. -/
theorem test_wit_ChargeCounterSamples_count :
    (let t := after (.ccSample (shunt (-3200)) 12460) { battery with cc := { counter 3200 with next := some 1000 } }
     t.cc.iS = -((3200 : Nat) : Int) ∧ (t.cc.count, t.cc.emptyCount) = (some ⟨0, 0, 200⟩, false)) ∧
      (after (.ccSample (shunt (-3200)) 12460) { battery with cc := { counter 3199 with next := some 1000 } }).cc.emptyCount = true ∧
      (let s := { battery with cc := { ChargeCounter.atReset with next := some 1000 } }
       s.cc.count = none ∧ s.cc.syncRun = 0 ∧ s.cc.params.vEmpty < s.cc.params.vFull ∧ s.cc.cut = false ∧ s.cc.cutRun = 0 ∧
         (27 : Int) = clampInt 0 100 (((12460 : Int) - 11800) * 100 / (14200 - 11800)) ∧
         (after (.ccSample 0 12460) s).cc.count = some ⟨97200000, 0, 100⟩) := by decide

theorem test_wit_ChargingCountsAtEtaPercent :
    let c := { counter (720000000 - 1425) with iS := 1500 }
    let n : Count := ⟨720000000 - 1425, 0, 200⟩
    (c.count = some n ∧ 0 < c.iS ∧ n.q ≤ c.params.qFull) ∧
      n.q + (c.iS.toNat * c.params.eta + n.f) / 100 ≤ c.params.qFull ∧
      c.params.qFull < n.q + ((1501 : Nat) * c.params.eta + 25) / 100 ∧
      n.f < 100 ∧ (∀ x ∈ [1000, 500], 0 < x) ∧ 100 * n.q + n.f + c.params.eta * [1000, 500].sum ≤ 100 * c.params.qFull := by
  decide

theorem test_wit_LimitFollowsItsTable :
    coldParams.iEss ≤ coldParams.iMax ∧ coldParams.rLo < coldParams.rHi ∧ coldParams.limit false 50 = 1000 ∧
      coldParams.limit false 20 = 150 ∧ coldParams.limit false 21 = 178 ∧ coldParams.limit true 50 = 0 ∧
      20 ≤ coldParams.cNom ∧ ({ ChargeCounter.atReset with params := coldParams, count := some ⟨1, 0, 200⟩ }).count.isSome := by
  decide

theorem test_wit_CutIsQualifiedByRuns :
    let c := ChargeCounter.atReset
    let d := { ChargeCounter.atReset with cut := true }
    (c.cut = false ∧ c.cutRun = 0 ∧ ∀ v ∈ List.replicate 100 11599, v < c.params.vCut) ∧
      (d.cut = true ∧ d.clearRun = 0 ∧ ∀ v ∈ List.replicate 600 12000, d.params.vCut + 400 ≤ v) ∧
      c.params.vCut ≤ 11600 ∧ 11999 < d.params.vCut + 400 ∧
      (let e := counter 1
       e.count = some ⟨1, 0, 200⟩ ∧ e.syncRun = 0 ∧ (∀ x ∈ List.replicate 1200 (14200, (200 : Int)),
         e.params.vFull ≤ x.1 ∧ 0 ≤ x.2 ∧ x.2 ≤ e.params.iTail) ∧ 14199 < e.params.vFull ∧ e.params.iTail < (201 : Int)) := by
  decide

/-! Peers -/

theorem test_handles : Handles 5 0 base ∧ Handles 5 3 base ∧ Handles 5 0 (live .dormant) := by unfold Handles; decide

def zeros : List Byte := List.replicate 12 0
def peer (a : Addr) (st : PeerStatus) : Peer := { peerOf a 0 zeros with status := st }
def known (ps : List Peer) : State := { base with pt := { base.pt with entries := ps } }

/-- Sixteen stations, 8 to 23. -/
def sixteen (st : PeerStatus) : List Peer := (List.range 16).map fun k => peer (Fin.ofNat 32 (k + 8)) st

theorem test_wit_StateMakesAnEntry :
    zeros.length = 12 ∧ (known [peer 5 .stale]).entry 5 = some (peer 5 .stale) ∧
      ((known ((sixteen .present).drop 1)).entry 5 = none ∧ (known ((sixteen .present).drop 1)).pt.entries.length = 15) ∧
      ((known (sixteen .lost)).entry 5 = none ∧ (known (sixteen .lost)).pt.entries.length = 16 ∧
        ∃ e ∈ (known (sixteen .lost)).pt.entries, e.status = .lost) ∧
      ((known (sixteen .stale)).entry 5 = none ∧ 16 ≤ (known (sixteen .stale)).pt.entries.length ∧
        ∀ e ∈ (known (sixteen .stale)).pt.entries, e.status ≠ .lost) := by decide

theorem test_wit_SilenceAgesAnEntry :
    ((known [peer 5 .present]).entry 5 = some (peer 5 .present) ∧ (peer 5 .present).status = .present) ∧
      ((known [peer 5 .stale]).entry 5 = some (peer 5 .stale) ∧ (peer 5 .stale).status = .stale) ∧
      ({ base with pt := { base.pt with stranger := some 60000 } } : State).pt.stranger = some 60000 := by decide

/-- A MEASURE that carries CABIN_T once, at +17.3 °C. -/
def cabinReport : List Byte := [1, 0, 173, 11, 0, 0, 12, 0, 0, 12, 0, 0]

theorem test_wit_MeasureFeedsCabinTemperature :
    cabinReport.length = 12 ∧ (readingsOf cabinReport).filter (fun x => x.1 = 1) = [(1, 173)] ∧
      (∀ x ∈ readingsOf (zeros.set 0 2), x.1 ≠ 1) ∧ (known [peer 5 .present]).pt.entries[0]? = some (peer 5 .present) ∧
      (known [{ peer 5 .present with cabin := some ⟨173, 1000⟩ }]).entry 5 =
        some { peer 5 .present with cabin := some ⟨173, 1000⟩ } := by decide

def heardBattery (a : Addr) : Candidate := ⟨a, battValsOf zeros, 6000⟩

/-- A node that holds candidates of these stations. -/
def hearing (as : List Addr) (s : State) : State := { s with pt := { s.pt with candidates := as.map heardBattery } }

theorem test_wit_LowestCandidateIsTheSource :
    (zeros.take 9).length = 9 ∧ base.isBattery = false ∧ battery.isBattery = true ∧ battery.ownAddr = some 3 ∧
      (Handles 1 0 battery ∧ battery.cc.conflict = false ∧
        (after (.batteryReceived 1 0 (sent 1 kindBattery 1 0 (zeros.take 9))) battery).cc.conflict = true) ∧
      (let s := hearing [1, 5] { battery with cc := { battery.cc with conflict := true, handed := some ⟨50, 150, BattFlags.clear⟩ } }
       let t := after (.batteryCandidateExpiry 1) s
       s.pt.candidates.find? (fun c => c.addr = 1) = some (heardBattery 1) ∧ t.cc.conflict = false ∧
         t.cc.period = some 7000 ∧ t.ts.pending.batteryDue = true ∧ t.pt.view.map (·.source) = some 3 ∧
         ∀ c ∈ [heardBattery 5], (3 : Addr) ≤ c.addr) ∧
      (let s := hearing [1, 2, 5] { battery with cc := { battery.cc with conflict := true } }
       let t := after (.batteryCandidateExpiry 1) s
       t.cc.conflict = true ∧ t.pt.view.map (·.source) = some 2) ∧
      (hearing [5] base).pt.candidates.find? (fun c => c.addr = 5) = some (heardBattery 5) ∧
      [heardBattery 5].filter (fun c => c.addr ≠ 5) = [] := by
  unfold Handles; decide

/-! Load Budget -/

/-- A view of battery node 1: its limit, and CUT. -/
def supplied (l : Nat) (cut : Bool) (s : State) : State :=
  { s with pt := { s.pt with view := some ⟨1, ⟨50, l, { BattFlags.clear with cut := cut }⟩⟩ } }

/-- Two loads of 5.0 A in class 2, at a limit. -/
def loaded (l : Nat) : State := withCh 1 auxOn (withCh 2 { auxOn with cls := 0 } (supplied l false base))

theorem test_wit_RawShedIsTheHighestThatFits :
    (supplied 0 true base).limitUsed = (0, true) ∧ (loaded 50).limitUsed = (50, false) ∧ (loaded 50).budget.t0 = 50 ∧
      (loaded 49).limitUsed = (49, false) ∧ (loaded 50).budget.sRaw = some (.upTo 1) := by decide

/-- As `loaded`, with S at 1: the class above, 2, brings the sum to 100. -/
def shedding (l : Nat) (holdoff : Timer) : State :=
  { loaded l with lb := { (loaded l).lb with s := .upTo 1, sEff := .upTo 1, holdoff := holdoff } }

/-- With a limit of 20.0 A the holdoff runs, S at 1 below S_raw 3. -/
theorem test_wit_ShedStaysSound_holdoff :
    ShedSound (shedding 200 none).finish ∧ (shedding 200 none).finish.lb.holdoff = some 11000 :=
  ⟨⟨fun raw h => by cases h; decide, fun _ => ⟨by decide, fun raw h => by cases h; decide⟩, by decide,
    fun _ => ⟨.upTo 3, by decide, by decide⟩, by decide, by decide, by decide⟩, by decide⟩

theorem test_wit_RestoreTestRunsTheHoldoff :
    let s := shedding 106 none
    (s.life ≠ .commissioning ∧ s.lb.firstPending = false ∧ s.budget.sRaw = some (.upTo 3) ∧
      s.lb.s.rank < (Shed.upTo 3).rank ∧ s.budget.t2 ≤ s.budget.lU - s.budget.lU / 16 ∧ s.lb.holdoff = none) ∧
      (shedding 106 (some 9000)).lb.holdoff = some 9000 ∧
      (let u := shedding 105 none
       u.budget.sRaw = some (.upTo 3) ∧ ¬ u.budget.t2 ≤ u.budget.lU - u.budget.lU / 16) := by decide

theorem test_wit_GrantedLoadFitsTheLimit :
    (live .commissioning).life = .commissioning ∧ base.life = .run ∧ (live .dormant).life = .dormant ∧
      (supplied 0 true base).budget.cutUsed = true ∧ (loaded 100).budget.s = .upTo 3 ∧ (loaded 49).budget.s = .upTo 0 ∧
      (loaded 50).budget.sum 0 ≤ (loaded 50).budget.lU ∧ base.lb.firstPending = false ∧
      (loaded 49).budget.sRaw = some (.upTo 0) ∧ (Shed.upTo 0).rank < (loaded 49).lb.s.rank ∧
      (loaded 100).budget.sRaw = some (.upTo 3) ∧ (loaded 100).lb.s = .upTo 3 ∧
      (shedding 200 none).budget.sRaw = some (.upTo 3) ∧ (shedding 200 none).lb.s.rank < (Shed.upTo 3).rank := by decide
/-- 03 R47: with 7.0 A for 5.0 A of class 0 and 5.0 A of class 2, S is 1 and class 2 has the share 102 of 256. -/
theorem test_throttle_share :
    ((loaded 70).budget.s, (loaded 70).budget.f, (loaded 100).budget.f, (supplied 0 true base).budget.f) =
      (.upTo 1, 102, 256, 0) := by decide

/-- The awning waits for its grant with a limit of 6.0 A or less. -/
def waiting (l : Nat) (dir : Dir) (origin : DriveState) : State :=
  { supplied l false base with
    ma := { awning .waitGrant with
      origin := some origin, direction := some dir, grantTimer := some 6000, slot := .waiting ⟨20, 9, 0, 9⟩ }
    lb := { base.lb with grants := [⟨.ma, 60⟩] } }

theorem test_wit_GrantsFollowTheLimit :
    (waiting 60 .extend .retracted).life = .run ∧ (waiting 60 .extend .retracted).ma.state = .waitGrant ∧
      (waiting 60 .extend .retracted).ma.direction = some .extend ∧
      (∃ g ∈ (waiting 60 .extend .retracted).lb.grants, g.drive = .ma) ∧
      extendRefusal .awning (waiting 60 .extend .retracted).interlock = none ∧
      (waiting 60 .extend .retracted).budget.s ≠ .allShed ∧
      (waiting 60 .extend .retracted).budget.t1 ≤ (waiting 60 .extend .retracted).budget.lU ∧
      (waiting 59 .extend .retracted).budget.lU < (waiting 59 .extend .retracted).budget.t1 ∧
      (let s := { waiting 60 .extend .parked with interlock := ⟨true, true, false⟩ }
       extendRefusal s.ma.fn s.interlock ≠ none ∧ s.ma.origin = some .parked ∧ s.budget.s ≠ .allShed ∧
         s.budget.t1 ≤ s.budget.lU) := by decide

theorem test_wit_HoldoffExpiryRaisesOneClass :
    let s := (shedding 106 (some 9000)).syncLocks
    (s.life = .run ∧ s.lb.holdoff = some 9000 ∧ s.lb.firstPending = false ∧ s.lb.grants = [] ∧ s.ht.burner ≠ .firing) ∧
      LocksCurrent s ∧ s.budget.sRaw = some (.upTo 3) ∧ s.lb.s.up.rank < (Shed.upTo 3).rank ∧
      (loaded 106).lb.s.up.rank = (Shed.upTo 3).rank := by
  unfold LocksCurrent; decide

/-! Channels -/

def valve : Channel :=
  { Channel.blank with fn := .dumpValve, request := true, state := .on, exempt := true, endTimer := some 2000 }

theorem test_wit_EndTimerEndsTheRequest :
    (withCh 0 { lampOn with endTimer := some 2000 } base).life.active = true ∧
      (withCh 0 { lampOn with endTimer := some 2000 } base).sw[0].endTimer = some 2000 ∧ lampOn.dimmable = true ∧
      lampOn.heater = false ∧ 0 < lampOn.current ∧ 0 < lampOn.fade ∧ lampOn.fadeTimer = none ∧ lamp.current = 0 ∧
      aux.dimmable = false ∧ ({ lamp with mode := .timed } : Channel).mode = .timed ∧
      ({ lampOn with timedRequest := true } : Channel).mode = .level ∧
      (withCh 0 { lampOn with state := .tripped, endTimer := some 2000 } base).sw[0].state = .tripped ∧ (withCh 3 valve base).sw[3].endTimer = some 2000 ∧
      (let t := after .minimumOnTimerExpiry
          { after .htEvaluation (cabin 173) with ht := { (after .htEvaluation (cabin 173)).ht with normalDemand := false } }
       t.sw[1].fn = .burnerFan ∧ t.ht.burner = .runOn ∧ t.sw[1].endTimer.isSome = true) := by decide

theorem test_wit_ChannelTimersAdvance :
    let cycle := { auxOn with mode := .cycle, cycleOn := true, cycleTimer := some 2000, cycleB := 60 }
    (withCh 1 cycle base).sw[1].cycleTimer = some 2000 ∧ cycle.cycleOn = true ∧
      ({ cycle with cycleOn := false } : Channel).cycleOn = false ∧
      (withCh 0 { lampOn with target := 61, fadeTimer := some 1020 } base).sw[0].fadeTimer = some 1020 ∧
      lampOn.current - 1 ≠ 61 ∧ (withCh 0 { lampOn with target := 62, fadeTimer := some 1020 } base).sw[0].target = 62 := by
  decide

theorem test_wit_OvercurrentTripsTheChannel :
    0 < auxOn.duty ∧ 2 * max auxOn.nominal 5 < 101 ∧ 4 * max auxOn.nominal 5 < 201 ∧ auxOn.blanking = none ∧
      ¬ base.now < ({ auxOn with onSince := 790 } : Channel).onSince + 210 ∧
      base.now < ({ auxOn with onSince := 791 } : Channel).onSince + 210 ∧
      [900].filter (fun x => base.now < x + 60000) = [900] ∧ [800, 900].filter (fun x => base.now < x + 60000) = [800, 900] ∧
      (withCh 1 { aux with state := .tripped, request := true, cooldown := some 6000 } base).sw[1].cooldown = some 6000 ∧
      base.life.active = true ∧ aux.heater = false := by decide

theorem test_wit_ChannelMarksChangeAlone :
    ({ auxOn with blanking := some 1200 } : Channel).blanking = some 1200 ∧
      ({ auxOn with trips := [900, 950] } : Channel).trips = 900 :: [950] ∧ base.now ≤ 900 + 60000 ∧
      (∀ y ∈ [950], 900 < y) ∧ auxOn.duty = 1023 ∧ 5 < auxOn.nominal / 8 ∧ auxOn.nominal / 8 ≤ 6 ∧
      100 ≤ 2 * max auxOn.nominal 5 ∧
      (auxOn.blanking = none ∧ base.now < ({ auxOn with onSince := 791 } : Channel).onSince + 210 ∧
        200 ≤ 4 * max auxOn.nominal 5) := by decide

/-- Scene 1 dims SW1 to 40. -/
def zeroLevels : Vector Nat 8 := ⟨#[0, 0, 0, 0, 0, 0, 0, 0], rfl⟩

def scened : State :=
  let sc : Scene := ⟨⟨#[40, 255, 255, 255, 255, 255, 255, 255], rfl⟩, 20⟩
  withCh 0 lampOn { base with light := { base.light with scenes := base.light.scenes.set 0 sc } }

theorem test_wit_SceneSetsTheLights :
    Handles 5 0 scened ∧ scened.life ≠ .commissioning ∧
      (withCh 0 { lampOn with state := .tripped } scened).sw[0].state = .tripped ∧ ((8 : Byte)).toNat = (7 : Fin 8).val + 1 ∧
      scened.light.scenes[0].levels[0] = 40 ∧ 40 ≠ scened.sw[0].target ∧ 40 ≠ scened.sw[0].current ∧
      (let s := { scened with light := { scened.light with scenes := scened.light.scenes.set 0 ⟨zeroLevels, 20⟩ } }
       s.light.scenes[0].levels[0] = 0 ∧ 0 < s.sw[0].current ∧ s.sw[0].target ≠ 0 ∧
         (after (.sceneReceived 5 0 (sent 1 kindScene 5 0 [1])) s).sw[0].fadeTimer = some 1020) ∧
      0 < scened.light.scenes[0].fade ∧ scened.light.scenes[0].levels[1] = 255 := by
  unfold Handles; decide

/-! Drives -/

def travelling (st : DriveState) (dir : Dir) (pos : Nat) : Drive :=
  { awning st with direction := some dir, position := pos, travelTimer := some 46000, pulseWatch := some 1500 }

theorem test_wit_HallPulseMovesThePosition :
    (travelling .extending .extend 3000).state = .extending ∧ (travelling .retracting .retract 0).state = .retracting ∧
      ({ travelling .braking .retract 9 with braked := some .extend } : Drive).braked = some .extend ∧
      (awning .parked).state ≠ .extending := by decide

theorem test_wit_TravelsEndWhereTheyMay :
    let s := withMa (travelling .retracting .retract 150) base
    LifeSound s ∧ s.life.active = true ∧ s.ma.stall < 91 ∧ s.ma.pulseWatch = some 1500 ∧
      s.ma.position ≤ max 4 (s.ma.travelPulses / 20) ∧
      (let d := travelling .extending .extend 2850
       d.travelPulses ≤ d.position + max 4 (d.travelPulses / 20) ∧ forcedCauseOf d.fn s.interlock = none) ∧
      max 4 (s.ma.travelPulses / 20) < 151 ∧ 2849 + max 4 (s.ma.travelPulses / 20) < s.ma.travelPulses ∧
      2 * s.ma.stall < 181 ∧ s.ma.travelTimer = some 46000 := by
  unfold LifeSound; decide

theorem test_wit_BrakingEndsInItsDirection :
    let d (dir : Option Dir) : Drive := { awning .braking with direction := dir, brakeTimer := some 1300 }
    LifeSound (withMa (d (some .retract)) base) ∧ (withMa (d none) base).ma.brakeTimer = some 1300 ∧
      (d (some .retract)).direction = some .retract ∧ extendRefusal .awning ⟨false, false, false⟩ = none ∧
      forcedCauseOf .awning ⟨false, false, false⟩ = none ∧ extendRefusal .awning ⟨false, false, true⟩ ≠ none ∧
      forcedCauseOf .awning ⟨false, false, true⟩ = some .wind := by
  unfold LifeSound; decide

theorem test_wit_WaitEndsAtItsOrigin :
    let s := waiting 59 .extend .retracted
    LifeSound s ∧ s.ma.state = .waitGrant ∧ s.ma.grantTimer = some 6000 ∧ s.ma.origin = some .retracted ∧
      s.ma.forced = none ∧ s.ma.slot = .waiting ⟨20, 9, 0, 9⟩ ∧ s.fifoHasRoom = true ∧
      LifeSound (waiting 59 .retract .unknown) ∧ (waiting 59 .retract .unknown).ma.origin = some .unknown := by
  unfold LifeSound; decide

/-! Inputs -/

def wired (r : Role) (s : State) : State := { s with sfe := { s.sfe with routes := r.routes } }

theorem test_wit_GustsLockTheAwning :
    busyNode.life.active = true ∧ busyNode.gust.windowEnd = some 1000 ∧ busyNode.gust.threshold ≤ 50 * busyNode.gust.kWind ∧
      ({ base with gust := { base.gust with lockout := some 601000 } } : State).gust.lockout = some 601000 ∧
      (wired .awning base).routed .anemometer = true ∧ base.routed .anemometer = false := by decide

/-- A node with causes pending on an idle link, and one with a cause in service. -/
def due (c : Causes) : State := { base with ts := { base.ts with pending := c } }
def serving (c : ServiceCause) (sending : Bool) (s : State) : State :=
  { s with lc := { s.lc with service := some ⟨c, sending, false, 6, [], (0, BattFlags.clear), false⟩ } }

/-- 09 R163: a MEASURE that a broadcast STORE overtakes before its start bit is driven is removed; another cause returns. -/
theorem test_idle_lost_after_a_store :
    let s (c : ServiceCause) := serving c true (asked [{ op 1 0 12 0 with addressed := false }] base)
    let t (c : ServiceCause) := after .idleLost (after .nodeStore (s c))
    ((t .measureDue).life, (t .measureDue).lc.service, (t .measureDue).ts.pending.measureDue) = (.dormant, none, false) ∧
      ((t .batteryDue).lc.service, (t .batteryDue).ts.pending.batteryDue) = (none, true) ∧
      (after .idleLost (s .measureDue)).lc.service.isSome = true := by decide

/-- 10 R180: a WAKE and the own IGNITION at one instant wake the node once, and WAKE_OUT is raised; 1 ms later it is not. -/
theorem test_two_wake_causes_of_one_instant :
    let u := after (.wakeReceived 5 0 (sent 0 kindWake 5 0 [])) (wired .cab (live .dormant))
    let t := after (.debouncedInputChange 0 true) u
    (u.life, u.ts.pending.wakeOut, t.life, t.ts.pending.wakeOut, t.nc.quietWake,
      (after (.debouncedInputChange 0 true) { u with now := u.now + 1 }).ts.pending.wakeOut) =
      (.run, false, .run, true, none, false) := by decide

theorem test_wit_InputsReachTheView :
    let s := wired .cab (live .dormant)
    s.life.active = true ∧ s.sfe.inputs[0] ≠ true ∧ (after (.debouncedInputChange 0 true) s).ignitionActive = true ∧
      s.ignitionActive = false ∧ s.routed .speed = true ∧ s.sfe.speedTimer = none ∧
      (let u := after (.wakeReceived 5 0 (sent 0 kindWake 5 0 [])) s
       u.life = .run ∧ u.nc.quietWake = some u.now ∧ u.ignitionActive = false ∧ u.sfe.speedTimer = none) ∧
      (wired .cab base).life = .run ∧ (wired .cab base).nc.quietWake ≠ some (wired .cab base).now ∧
      ({ s with sfe := { s.sfe with speedTimer := some 3000, next := some 1100 } } : State).sfe.speedTimer = some 3000 ∧
      79999 < 80000 ∧ (1200000000 : Nat) ≤ 1200000000 := by decide

theorem test_wit_TravelLineForcesRetraction :
    base.life.active = true ∧ base.trv.reading = false ∧ base.interlock.driveActive = false ∧
      (withMa (awning .extended) base).ma.state = .extended ∧ (awning .extended).fn ≠ .none ∧
      (awning .extended).forced = none ∧ (live .dormant).life = .dormant ∧
      (let s := { base with trv := { base.trv with reading := true } }
       s.trv.reading = true ∧ s.trvDriven = false) := by decide

/-! Water and heating -/

/-- A WATER node whose fresh tank reads `x` (0.1 °C) and whose fresh sender reads `r` Ω. -/
def tank (x : Option Int) (r : Option Int) (g : Guard) : State :=
  { wired .water base with
    sw := Role.water.channels
    sfe := { (wired .water base).sfe with
      temps := ⟨#[x.toList, [], [], []], rfl⟩, levels := ⟨#[r.toList, r.toList], rfl⟩ }
    wf := { base.wf with next := some 2000, fresh := g } }

theorem test_wit_WaterEvaluates :
    let s := tank (some 30) (some 14) .idle
    (s.life.active = true ∧ s.wf.next = some 2000 ∧ s.routed .freshLevel = true ∧ s.level .freshLevel = some 14 ∧
      (2 : Int) = max 0 (min 100
        ((14 - s.wf.params.freshREmpty) * 100 / (s.wf.params.freshRFull - s.wf.params.freshREmpty : Int))) ∧
      s.routed .greyLevel = true ∧ s.level .greyLevel = some 14 ∧ s.nc.started = true ∧ s.guardExists 1 = true ∧
      s.temperature .freshT = some 30 ∧ s.wf.params.dumpTemp < 30) ∧
      (tank none none .idle).temperature .freshT = none ∧ (tank none none .idle).level .freshLevel = none ∧
      base.routed .freshLevel = false ∧ s.sw[1].fn = .tankHeat ∧ s.sw[1].inst = 1 ∧ s.sw[1].state ≠ .fault ∧
      s.guardExists 2 = true ∧ s.wf.grey = .idle ∧ s.temperature .greyT = none ∧
      (withCh 2 Channel.blank s).guardExists 2 = false := by decide

/-- Functions that T1 and L1 serve, with samples and without, and one that no input serves. -/
theorem test_wit_InputsReachTheView_readings :
    (∃ j : Fin 12, j.val = 6 ∧ (cabin 173).sfe.routes[j] = .cabinT ∧ (∀ i < j, (cabin 173).sfe.routes[i] ≠ .cabinT)) ∧
      (cabin 173).sfe.temps[0] ≠ [] ∧ base.sfe.temps[0] = [] ∧
      (let s := tank (some 30) (some 14) .idle
       (∃ j : Fin 12, j.val = 10 ∧ s.sfe.routes[j] = .freshLevel ∧ ∀ i < j, s.sfe.routes[i] ≠ .freshLevel) ∧
         s.sfe.levels[0] ≠ []) ∧
      ∀ i : Fin 12, base.sfe.routes[i] ≠ .cabinT := by decide

/-- The fresh guard on both sides of each bound: frost_on 30, frost_off 60, dump_temp 5, and 15 Ω, 16 Ω for 3 %, 4 % or so. -/
theorem test_wit_WaterEvaluates_fresh :
    let g (x : Option Int) (r : Option Int) (b : Guard) := (after .wfEvaluation (tank x r b)).wf.fresh
    (tank (some 5) (some 14) .idle).dumpAllowed = true ∧ (tank (some 5) (some 14) .idle).wf.params.dumpTemp = 5 ∧
      ([16, 17].map (levelPercent 10 180) = [3, 4]) ∧
      (g (some 31) none .idle, g (some 30) none .idle, g (some 59) none .heating, g (some 60) none .heating) =
        (.idle, .heating, .heating, .idle) ∧
      (g (some 6) none .heating, g (some 5) none .heating, g (some 5) none .idle, g (some 5) (some 16) .heating,
        g (some 5) (some 17) .heating) = (.heating, .dumpPending, .dumpPending, .heating, .dumpPending) ∧
      (g (some 10) none .dumpPending, g (some 11) none .dumpPending, g (some 10) (some 16) .dumpPending,
        g none none .dumpPending, g none none .dumped) = (.dumpPending, .heating, .heating, .heating, .dumped) := by
  decide

theorem test_wit_PulsesDryRunsAndDumps :
    let s := tank (some 5) (some 95) .dumpPending
    s.life.active = true ∧ s.routed .flow = true ∧ 0 < s.wf.params.ppl ∧ s.wf.remainder < s.wf.params.ppl ∧
      s.wf.volume + (s.wf.remainder + 1000 * 100) / s.wf.params.ppl ≤ 9999999 ∧
      (withCh 0 { pump with dry := some 16000 } s).sw[0].dry = some 16000 ∧ s.wf.fresh = .dumpPending ∧
      ({ s with wf := { s.wf with dumpTimer := some 601000 } } : State).wf.dumpTimer = some 601000 ∧
      s.sw[3].fn = .dumpValve ∧ s.sw[3].state ≠ .fault := by decide

/-- The heating node with the burner lit, and with demand or without. -/
def fired (demand : Bool) : State :=
  let s := after .htEvaluation (cabin 173)
  { s with ht := { s.ht with normalDemand := demand } }

/-- The cabin at `x` while the burner is in `b`. -/
def burning (x : Int) (b : Burner) (lit : Bool) : State :=
  { cabin x with ht := { (cabin x).ht with burner := b, lit := lit, normalDemand := b = .firing } }

theorem test_wit_HeatingEvaluates :
    ((cabin 173).life.active = true ∧ (cabin 173).nc.started = true ∧ (cabin 173).ht.next = some 1000 ∧
      (cabin 173).hasChannel .burner = true ∧ (cabin 173).temperature .cabinT = some 173 ∧ (cabin 173).ht.burner = .off ∧
      (cabin 173).hasChannel .burnerFan = true ∧ (cabin 173).heaterFaulted = false ∧
      (after .htEvaluation (cabin 173)).demand = true) ∧
      (after .htEvaluation (cabin 180)).demand = false ∧
      (after .htEvaluation (burning 185 .firing true)).demand = false ∧ (burning 185 .firing true).ht.minimumOn = none ∧
      (after .htEvaluation (burning 185 .firing false)).demand = false ∧ (burning 185 .runOn false).ht.burner = .runOn ∧
      (let s := { cabin 173 with sfe := { (cabin 173).sfe with temps := base.sfe.temps } }
       s.temperature .cabinT = none ∧ (∀ p ∈ s.pt.entries, p.cabin = none) ∧
         ∃ p ∈ [{ peer 5 .present with cabin := some ⟨173, 1000⟩ }], p.cabin ≠ none) := by decide

/-- A lit burner that the budget lets fire on, at an evaluation and at the end of its minimum on time; without a fan's FAULT
a waiting one fires on. -/
theorem test_wit_HeatingEvaluates_lit :
    let s := { fired true with ht := { (fired true).ht with next := some 2000 } }
    (ShedSound s ∧ BurnerAllowed (fun _ => (after .htEvaluation s).burnerClass) s (after .htEvaluation s) ∧ s.ht.burner = .firing ∧
      s.ht.lit = true ∧ (after .htEvaluation s).ht.source ≠ .none ∧ (after .htEvaluation s).demand = true) ∧
      (burning 173 .firing false).ht.lit = false ∧ (after .htEvaluation (burning 173 .firing false)).demand = true := by
  unfold ShedSound BurnerAllowed; decide

theorem test_wit_BurnerTimersEnd_lit :
    ShedSound (fired true) ∧ BurnerAllowed (fun i => (fired true).sw[i].classUsed) (fired true) (after .minimumOnTimerExpiry (fired true)) ∧
      (fired true).ht.minimumOn = some 301000 ∧ (fired true).demand = true ∧ base.ht.burner ≠ .rest ∧
      (let s := { cabin 173 with ht := { (cabin 173).ht with burner := .rest, rest := some 181000, normalDemand := true } }
       (withCh 1 { s.sw[1] with state := .fault } s).heaterFaulted = true) := by
  unfold ShedSound BurnerAllowed; decide

theorem test_wit_BurnerTimersEnd :
    ((fired false).ht.minimumOn = some 301000 ∧ (fired false).ht.burner = .firing ∧ (fired false).ht.lit = true ∧
      (fired false).demand = false) ∧
      (let s := { burning 185 .rest false with ht := { (burning 185 .rest false).ht with rest := some 181000 } }
       s.ht.rest = some 181000 ∧ s.ht.burner = .rest ∧ s.demand = false) ∧
      (let s := { cabin 173 with ht := { (cabin 173).ht with burner := .rest, rest := some 181000, normalDemand := true } }
       s.demand = true ∧ s.hasChannel .burnerFan = true ∧ s.heaterFaulted = false) := by decide

/-! Receiving and sending -/

theorem test_wit_ReceiverFollowsTheLine :
    base.life.active = true ∧ base.sending = false ∧ base.receivable = true ∧ 12 < (List.replicate 13 (0 : Byte)).length ∧
      zeros.length ≤ 12 ∧ crc8 (telegramBody 6 kindState 5 0 zeros) ≠ crc8 (telegramBody 6 kindState 5 0 zeros) + 1 := by
  decide

theorem test_wit_OwnAddressIsAClash :
    base.receivable = true ∧ base.ownAddr = some 3 ∧ (3 : Addr) ≠ 0 ∧ (3 : Addr) ≠ 31 ∧ base.od.restartPending = false ∧
      zeros.length ≤ 12 ∧ (live .dormant).life = .dormant ∧ (live .commissioning).receivable = true := by decide

theorem test_wit_IgnoredTelegramsChangeNothing :
    Handles 5 0 base ∧ zeros.length ≤ 12 ∧ (zeros.take 11).length ≠ 12 ∧ (zeros.take 1).length < 2 ∧ (zeros.take 4).length = 4 ∧
      base.receivable = true ∧ base.ownAddr ≠ some 5 := by
  unfold Handles; decide

theorem test_wit_QueueAdmitsRequests :
    let e := op 2 1 1 0
    (Handles 5 3 base ∧ e.payload.length = 5 ∧ base.life = .run ∧ base.od.iq.length < 6 ∧
      6 ≤ (asked [e, e, e, e, e, e] base).od.iq.length) ∧
      (withCh 0 lamp base).hasFunction (operateOf e.payload) = true ∧ base.hasFunction (operateOf e.payload) = false ∧
      (Handles 5 3 (live .dormant) ∧ (live .dormant).od.iq = []) ∧
      (Handles 5 3 (live .commissioning) ∧ (live .commissioning).od.inHand = none) ∧
      (asked [e, e, e, e, e, e] (inHand [14, 0])).od.inHand ≠ none ∧ zeros.length ≤ 12 := by
  unfold Handles; decide

theorem test_wit_WakeTelegramWakes :
    Handles 5 3 (live .dormant) ∧ Handles 5 3 base ∧ Handles 5 0 (live .listenOnly) ∧
      (∀ i ∈ [DriveId.ma, .mb], forcedCauseOf ((live .dormant).drive i).fn (live .dormant).interlock = none) ∧
      (live .dormant).lc.service = none := by
  unfold Handles; decide

theorem test_wit_CausesEnterServiceInOrder :
    let s := due { Causes.none with measureDue := true }
    s.life.drivesSlots = true ∧ s.lc.synchronised = true ∧ s.lc.idle = true ∧ s.ownAddr = some 3 ∧ s.lc.service = none ∧
      s.selectCause = some .measureDue ∧ (due Causes.none).selectCause = none ∧
      (serving .batteryDue false base).lc.service.isSome = true := by decide

theorem test_wit_SetbacksKeepTheCause :
    let s := serving .batteryDue true base
    s.sending = true ∧ s.life.active = true ∧ s.island = false ∧
      2 ≤ ({ s.lc with bitErrors := 2 } : LinkController).bitErrors ∧ s.ownSource = false ∧
      (base.lc.idle = true ∧ base.lc.service = none) ∧
      (s.lc.service.map (·.overtaken)) = some false ∧ (s.lc.service.map fun v => v.overtake.overtaken) = some true ∧
      (let u := serving .batteryDue false base
       u.lc.idle = true ∧ u.lc.service.isSome = true ∧ u.sending = false) := by decide

theorem test_wit_OutcomesEndTheCause :
    (serving (.state true false) true base).sending = true ∧ ServiceCause.batteryDue ≠ .answerDue ∧
      (let a (n : Ends) : Answer := ⟨20, 1, 0, 12, .done, n⟩
       let s := serving .answerDue true { base with
         ts := { base.ts with fifo := [a .store] }, od := { base.od with storePending := true, restartPending := true } }
       s.ts.fifo = a .store :: [] ∧ (a .restart).ends = .restart ∧ s.od.storePending = true ∧ s.od.restartPending = true ∧
         s.life = .run ∧ s.driveBusy = false ∧ (waiting 59 .extend .retracted).driveBusy = true) := by decide

theorem test_wit_TransmitTimersRaiseTheirCause :
    let s := { base with
      cc := { base.cc with period := some 2000 }
      ts := { base.ts with statePeriod := some 3000, spacing := some 1100, measurePeriod := some 6000 } }
    s.cc.period = some 2000 ∧ s.ts.statePeriod = some 3000 ∧ s.ts.spacing = some 1100 ∧
      s.ts.measurePeriod = some 6000 := by decide

/-! Requests -/

theorem test_wit_OnRequestsReachTheGroup :
    let s := asked [op 2 1 4 3600] (withCh 0 lamp base)
    (Takes 2 4 (op 2 1 4 3600) s ∧ s.hasFunction (operateOf (op 2 1 4 3600).payload) = true ∧ s.sw[0].state ≠ .fault ∧
      63 ≠ s.sw[0].target ∧ 63 ≠ s.sw[0].current ∧ 0 < s.sw[0].fade) ∧
      (let u := asked [op 3 2 1 0] (withCh 1 { aux with mode := .cycle } base)
       Takes 3 1 (op 3 2 1 0) u ∧ u.sw[1].mode = .cycle ∧ u.sw[1].request = false) ∧
      (let u := asked [op 2 1 3 1] (withCh 0 { lamp with state := .fault } base)
       Takes 2 3 (op 2 1 3 1) u ∧ (operateOf (op 2 1 3 1).payload).value ≠ 0 ∧ u.sw[0].state = .fault) := by
  unfold Takes; decide

theorem test_wit_OffRequestsReachTheGroup :
    let s := asked [op 2 1 3 0] (withCh 0 lampOn base)
    (Takes 2 3 (op 2 1 3 0) s ∧ s.hasFunction (operateOf (op 2 1 3 0).payload) = true ∧
      (operateOf (op 2 1 3 0).payload).value = 0 ∧ 0 < s.sw[0].current ∧ s.sw[0].fadeTimer = none) ∧
      Takes 2 3 (op 2 1 3 0) (withCh 0 { lampOn with state := .tripped, duty := 0 } s) ∧
      Takes 3 2 (op 3 2 2 0) (asked [op 3 2 2 0] (withCh 1 { auxOn with state := .fault } base)) ∧
      auxOn.dimmable = false := by
  unfold Takes; decide

theorem test_wit_WaterRequestsAreServed :
    (let s := asked [op 4 0 1 0] (withCh 0 pump base)
     Takes 4 1 (op 4 0 1 0) s ∧ s.hasFunction (operateOf (op 4 0 1 0).payload) = true ∧
       s.channelFaulted .pump = false ∧ s.locksNow.any = false ∧
       (withCh 0 { pump with state := .fault } s).channelFaulted .pump = true ∧
       ({ s with wf := { s.wf with greyFull := true } } : State).locksNow.any = true) ∧
      Takes 4 2 (op 4 0 2 0) (asked [op 4 0 2 0] (withCh 0 pump base)) ∧
      (let s := asked [op 6 0 7 0] (tank (some 60) none .dumped)
       Takes 6 7 (op 6 0 7 0) s ∧ s.hasFunction (operateOf (op 6 0 7 0).payload) = true ∧ s.wf.fresh = .dumped ∧
         s.temperature .freshT = some 60 ∧ s.wf.params.frostOff ≤ 60 ∧
         (tank (some 59) none .dumped).temperature .freshT = some 59) ∧
      (let s := asked [op 7 0 8 0] (tank none none .idle)
       Takes 7 8 (op 7 0 8 0) s ∧ s.hasFunction (operateOf (op 7 0 8 0).payload) = true) := by
  unfold Takes; decide

theorem test_wit_HeaterRequestsAreServed :
    (Takes 5 1 (op 5 0 1 0) (asked [op 5 0 1 0] (cabin 173)) ∧
      (cabin 173).hasFunction (operateOf (op 5 0 1 0).payload) = true ∧ (cabin 173).heaterFaulted = false ∧
      (withCh 0 { (cabin 173).sw[0] with state := .fault } (cabin 173)).heaterFaulted = true) ∧
      Takes 5 5 (op 5 0 5 300) (asked [op 5 0 5 300] (cabin 173)) ∧
      (Takes 5 6 (op 5 0 6 0) (asked [op 5 0 6 0] (fired false)) ∧ (fired false).ht.burner = .firing ∧
        (fired false).ht.lit = true ∧ (burning 173 .firing false).ht.lit = false) ∧
      (Takes 5 2 (op 5 0 2 0) (asked [op 5 0 2 0] (fired true)) ∧ (fired true).ht.frostHold = false) := by
  unfold Takes; decide

/-- A node with the awning in a state, asked to move it. -/
def moving (act : Nat) (d : Drive) : State := asked [op 9 0 act 0] (withMa d base)

theorem test_wit_MotionRequestsFollowTheDrive :
    (Takes 9 9 (op 9 0 9 0) (moving 9 (awning .retracted)) ∧
      (moving 9 (awning .retracted)).hasFunction (operateOf (op 9 0 9 0).payload) = true ∧
      (moving 9 (awning .retracted)).life ≠ .dormant ∧ extendRefusal .awning base.interlock = none ∧
      extendRefusal .awning ⟨true, true, false⟩ = some .refusedInterlock) ∧
      (Takes 9 10 (op 9 0 10 0) (moving 10 (travelling .extending .extend 1200)) ∧
        (travelling .extending .extend 1200).forced = none ∧ (travelling .extending .extend 1200).direction = some .extend) ∧
      (Takes 9 11 (op 9 0 11 0) (moving 11 (waiting 59 .extend .retracted).ma) ∧
        forcedCauseOf .awning base.interlock = none) ∧
      (let e : Entry := { op 9 0 9 0 with addressed := false }
       Takes 9 9 e { moving 9 (awning .retracted) with
         nc := { base.nc with life := .dormant }, od := { base.od with iq := [e] } }) ∧
      (let e : Entry := { op 9 0 11 0 with addressed := false }
       let s := { moving 11 (awning .retracted) with
         nc := { base.nc with life := .dormant }, od := { base.od with iq := [e] } }
       Takes 9 11 e s ∧ s.driveBusy = false ∧ e.addressed = false) ∧
      (let d : Drive := { awning .braking with braked := some .extend, brakeTimer := some 1300 }
       d.forced = none ∧ d.direction ≠ some .extend ∧ d.homing = false) := by
  unfold Takes; decide

theorem test_wit_NodeRequestsAreServed :
    (Takes 1 12 (op 1 0 12 0) (asked [op 1 0 12 0] base) ∧ base.life = .run ∧ base.driveBusy = false ∧
      (op 1 0 12 0).addressed = true ∧ ((asked [op 1 0 12 0] base).popEntry.takeSettings).addressedHead = false) ∧
      (waiting 59 .extend .retracted).driveBusy = true ∧
      Takes 1 12 { op 1 0 12 0 with addressed := false } (asked [{ op 1 0 12 0 with addressed := false }] base) ∧
      (serving .batteryDue true base).sending = true ∧ (serving .batteryDue false base).sending = false ∧
      Takes 1 13 (op 1 0 13 0) (asked [op 1 0 13 0] base) ∧
      Takes 1 12 (op 1 0 12 0) (asked [op 1 0 12 0] (live .listenOnly)) := by
  unfold Takes; decide

theorem test_wit_UnknownRequestsAreAnswered :
    (Takes 2 1 (op 2 1 1 0) (asked [op 2 1 1 0] base) ∧ base.hasFunction (operateOf (op 2 1 1 0).payload) = false) ∧
      (let s := { asked [op 2 1 1 0] base with
         ts := { base.ts with fifo := List.replicate 6 ⟨9, 1, 0, 12, .done, .nothing⟩ } }
       s.od.iq.head? = some (op 2 1 1 0) ∧ s.canTake (op 2 1 1 0) = false) ∧
      ((asked [op 4 0 3 0] base).canTake (op 4 0 3 0) = true ∧ (operateOf (op 4 0 3 0).payload).known = false) := by
  unfold Takes; decide

/-! Records -/

theorem test_wit_ParameterRecordsAreApplied :
    (let p : List Byte := [3, 0, 30, 0, 60, 1, 0, 5, 2, 88]
     Holds 3 10 p (inHand p) ∧ (30 : Int) = clampInt 0 100 (wordAt p 1)) ∧
      (let p : List Byte := [11, 240, 250, 240, 250, 0, 100]
       Holds 11 7 p (inHand p) ∧ 100 = clampNat 100 5000 (wordAt p 5)) ∧
      (let p : List Byte := [4, 0, 180, 5, 1, 1, 0, 50]
       Holds 4 8 p (inHand p)) ∧
      (let p : List Byte := [10, 2, 0, 100, 2, 88]
       Holds 10 6 p (inHand p)) := by
  unfold Holds; decide

theorem test_wit_ParameterRecordsAreApplied_more :
    (let p : List Byte := [5, 0, 200, 95, 3, 232, 0, 150, 20, 50, 0, 200]
     Holds 5 12 p (inHand p) ∧ 200 = clampNat 20 800 (wordAt p 1)) ∧
      (let p : List Byte := [6, 45, 80, 46, 24, 55, 120]
       Holds 6 7 p (inHand p) ∧ base.cc.estimatedSinceReset = false ∧ (counter 1).estimatedSinceReset = true) ∧
      (let p : List Byte := [12, 0, 100, 0, 50]
       Holds 12 5 p (inHand p) ∧ (inHand p).pt.view = none) ∧
      (let p : List Byte := [13, 3]
       Holds 13 2 p (inHand p)) := by
  unfold Holds; decide

theorem test_wit_AssignmentRecordsAreApplied :
    (let p : List Byte := [1, 8, 2, 2, 200, 0, 15, 0, 16, 32, 0, 20]
     Holds 1 12 p (inHand p) ∧ byteAt p 1 = (7 : Fin 8).val + 1 ∧ chFnOf (byteAt p 2) = .light ∧
       (inHand p).sw[7].fn ≠ .light ∧ (withCh 7 lamp (inHand p)).sw[7].fn = .light ∧ lamp.heater = false) ∧
      (let p : List Byte := [1, 9, 8, 0, 0, 0, 0, 0, 0, 0, 0, 0]
       Holds 1 12 p (inHand p) ∧ byteAt p 1 = 9 ∧ (inHand p).ma.fn ≠ .step) ∧
      (let p : List Byte := [2, 12, 29]
       Holds 2 3 p (inHand p) ∧ byteAt p 1 = (11 : Fin 12).val + 1) ∧
      (let p : List Byte := [2, 5, 20]
       let s := { inHand p with sfe := { (wired .cab base).sfe with speedTimer := some 2000 } }
       Holds 2 3 p s ∧ byteAt p 1 = (4 : Fin 12).val + 1 ∧ (after .routeRecord s).entryOf .speed ≠ none) ∧
      (let p : List Byte := [7, 2, 11, 184, 1, 44, 0, 90, 0, 60]
       Holds 7 10 p (inHand p) ∧ byteAt p 1 = 2) := by
  unfold Holds; decide

theorem test_wit_OtherRecordsAreApplied :
    (let p : List Byte := [8, 7, 0, 0, 0, 0, 0, 0, 0, 0, 0, 0]
     Holds 8 12 p (inHand p) ∧ byteAt p 1 = (7 : Fin 8).val) ∧
      (let p : List Byte := [9, 8, 63, 64, 0, 0, 0, 0, 0, 0, 20]
       Holds 9 11 p (inHand p) ∧ byteAt p 1 = (7 : Fin 8).val + 1) ∧
      (let p : List Byte := [2, 13, 29]
       Holds 2 3 p (inHand p) ∧ 12 < byteAt p 1) ∧
      ((inHand [2, 1]).od.inHand = some [2, 1] ∧ recordLength 2 = some 3 ∧ [2, 1].length < 3) ∧
      ((inHand [15, 1]).life = .commissioning ∧ recordLength (byteAt [15, 1] 0) = none) := by
  unfold Holds; decide

theorem test_wit_OutputsCarryTheState :
    base.ma.fn = .none ∧ (withMa (awning .extended) base).ma.fn ≠ .none ∧ base.light.lastScene ≤ 8 ∧ base.cc.soc ≤ 100 ∧
      base.cc.l ≤ 2000 ∧ (cabin 173).sfe.quantityAt 0 < 256 ∧ -32768 ≤ base.quantity 12 ∧ base.quantity 12 ≤ 32767 := by
  decide

/-- Net current and temperature at both ends of their ranges and truncated toward zero (R8, R17). -/
theorem test_wit_OutputsCarryTheState_battery :
    let c (i : Int) (x : Option Int) := { ChargeCounter.atReset with ring := List.replicate 10 i, tb := x, v := 20000 }
    let b (i : Int) (x : Option Int) := ((c i x).payload.drop 3).take 5
    ((c (-20000) (some (-400))).ring.sum.tdiv 100 = -2000 ∧ (c 20000 (some 850)).ring.sum.tdiv 100 = 2000) ∧
      (b (-20000) (some (-400)), b 20000 (some 850), b (-15) (some (-9)), b (-9) none) =
        ([248, 48, 78, 32, 216], [7, 208, 78, 32, 85], [255, 255, 78, 32, 0], [0, 0, 78, 32, 128]) := by decide

/-- A list that holds quantities, a reading and none, a volume above 32,767 l, and a marked channel and drive. -/
theorem test_wit_OutputsCarryTheState_measure :
    let s := { cabin 173 with
      sfe := { (cabin 173).sfe with measureList := (cabin 173).measureListNow }
      wf := { (cabin 173).wf with volume := 4000000, freshPercent := some 40 }
      ma := { (cabin 173).ma with jam := true }
      sw := (cabin 173).sw.set 0 { (cabin 173).sw[0] with openLoad := true } }
    s.sfe.measureList ≠ [] ∧ s.temperature .cabinT = some 173 ∧ s.temperature .freshT = none ∧ s.quantity 8 = 40000 ∧
      s.quantity 11 = 514 ∧ s.wf.freshPercent = some 40 ∧ s.wf.greyPercent = none ∧ s.routed .cabinT = true ∧
      s.hasChannel .burner = true ∧ s.measurePayload.take 3 = [1, 0, 173] := by decide

end Sys2Proof.Tests
end

