-- ==== Sys2Proof/Proofs/ChargeCounting.lean ====
section
/-! PROOFS. The charge update under a charging current (R6): what one sample adds, and what a run of them adds. -/

namespace Sys2Proof.Machine

/-! ### One charging sample -/

theorem ChargeCounter.update_of_count {c : ChargeCounter} {n : Count} (hc : c.count = some n) : c.update = c.charge n := by
  simp [update, hc]

/-- The sum fits: the quotient joins Q and the remainder becomes F (R6). -/
theorem ChargeCounter.charge_of_fits {c : ChargeCounter} {n : Count} (hi : 0 < c.iS)
    (hfit : n.q + (c.iS.toNat * c.params.eta + n.f) / 100 ≤ c.params.qFull) :
    c.charge n =
      { c with
        count := some { n with
          q := n.q + (c.iS.toNat * c.params.eta + n.f) / 100
          f := (c.iS.toNat * c.params.eta + n.f) % 100 }
        emptyCount :=
          if n.q < n.q + (c.iS.toNat * c.params.eta + n.f) / 100 then false else c.emptyCount } := by
  simp [charge, hi, Nat.not_lt.mpr hfit]

/-- The sum passes Q_full: Q stops there and the remainder is dropped (R6). -/
theorem ChargeCounter.charge_of_overflows {c : ChargeCounter} {n : Count} (hi : 0 < c.iS)
    (hover : c.params.qFull < n.q + (c.iS.toNat * c.params.eta + n.f) / 100) :
    c.charge n =
      { c with
        count := some { n with q := c.params.qFull, f := 0 }
        emptyCount := if n.q < c.params.qFull then false else c.emptyCount } := by
  simp [charge, hi, hover]

/-! ### A run of charging samples -/

/-- The counter after the charge update of one sample with this reading. -/
def ChargeCounter.counted (c : ChargeCounter) (x : Nat) : ChargeCounter := ({ c with iS := x } : ChargeCounter).update

/-- 100 Q + F is the exact charge: division and remainder of a sample's sum put back together what they took apart. -/
theorem ChargeCounter.counted_exact {c : ChargeCounter} {n : Count} {x : Nat} (hc : c.count = some n) (hx : 0 < x)
    (hroom : 100 * n.q + n.f + c.params.eta * x ≤ 100 * c.params.qFull) :
    ∃ m, (c.counted x).count = some m ∧ (c.counted x).params = c.params ∧
      100 * m.q + m.f = 100 * n.q + n.f + c.params.eta * x ∧ m.f < 100 := by
  have hsplit := Nat.div_add_mod (x * c.params.eta + n.f) 100
  have hcomm : x * c.params.eta = c.params.eta * x := Nat.mul_comm ..
  have hfit : n.q + (x * c.params.eta + n.f) / 100 ≤ c.params.qFull := by omega
  have hcharge : c.counted x = ({ c with iS := x } : ChargeCounter).charge n := update_of_count hc
  rw [charge_of_fits (Int.natCast_pos.mpr hx) hfit] at hcharge
  refine ⟨_, by rw [hcharge], by rw [hcharge], ?exact, Nat.mod_lt _ (Nat.succ_pos 99)⟩
  case exact =>
    simp only [Int.toNat_natCast]
    omega

theorem ChargeCounter.foldl_counted_exact (xs : List Nat) (c : ChargeCounter) (n : Count) (hc : c.count = some n)
    (hf : n.f < 100) (hpos : ∀ x ∈ xs, 0 < x)
    (hroom : 100 * n.q + n.f + c.params.eta * xs.sum ≤ 100 * c.params.qFull) :
    ∃ m, (xs.foldl ChargeCounter.counted c).count = some m ∧
      100 * m.q + m.f = 100 * n.q + n.f + c.params.eta * xs.sum ∧ m.f < 100 := by
  induction xs generalizing c n with
  | nil => exact ⟨n, hc, by simp, hf⟩
  | cons x xs ih =>
    obtain ⟨hx, hxs⟩ := List.forall_mem_cons.mp hpos
    rw [List.sum_cons, Nat.mul_add] at hroom ⊢
    obtain ⟨m, hm, hparams, hexact, hmf⟩ := counted_exact hc hx (by omega)
    obtain ⟨k, hk, hsum, hkf⟩ := ih (c.counted x) m hm hmf hxs (by rw [hparams]; omega)
    rw [hparams] at hsum
    exact ⟨k, hk, by omega, hkf⟩

/-- Settles O13: one sample by whether its sum fits under Q_full, a run by induction on its readings, with 100 Q + F as the
exact charge each sample keeps. -/
theorem chargingCountsAtEtaPercent : Obligations.ChargingCountsAtEtaPercent := by
  refine ⟨fun c n hc hi hq => ?_, ChargeCounter.foldl_counted_exact⟩
  rw [ChargeCounter.update_of_count hc]
  rcases Nat.lt_or_ge c.params.qFull (n.q + (c.iS.toNat * c.params.eta + n.f) / 100) with hover | hfit
  · rw [ChargeCounter.charge_of_overflows hi hover]
    exact ⟨_, rfl, rfl, fun h => absurd hover (Nat.not_lt.mpr h), fun _ => ⟨rfl, rfl⟩,
      fun h => if_pos h, fun h => if_neg (Nat.not_lt.mpr (Nat.le_of_eq h))⟩
  · rw [ChargeCounter.charge_of_fits hi hfit]
    exact ⟨_, rfl, rfl, fun _ => ⟨rfl, rfl⟩, fun h => absurd h (Nat.not_lt.mpr hfit),
      fun h => if_pos h, fun h => if_neg (Nat.not_lt.mpr (Nat.le_of_eq h))⟩

end Sys2Proof.Machine
end

