-- ==== Sys2Proof/Proofs/ChargeLimit.lean ====
section
/-! PROOFS. The capacity by temperature, SoC and SoC_used, the discharge limit and its cold derate (R9 to R12). -/

namespace Sys2Proof.Machine

/-! ### The discharge limit before the derate (R11) -/

section Limit
variable {p : CcParams} {used : Nat}

@[simp] theorem CcParams.limit_of_cut : p.limit true used = 0 := rfl

theorem CcParams.limit_of_high (h : p.rHi ≤ used) : p.limit false used = p.iMax := by
  simp [limit, h]

theorem CcParams.limit_of_low (hr : p.rLo < p.rHi) (h : used ≤ p.rLo) : p.limit false used = p.iEss := by
  simp [limit, h, Nat.not_le.mpr (Nat.lt_of_le_of_lt h hr)]

theorem CcParams.limit_of_between (hlo : p.rLo < used) (hhi : used < p.rHi) :
    p.limit false used = p.iEss + (p.iMax - p.iEss) * (used - p.rLo) / (p.rHi - p.rLo) := by
  simp [limit, Nat.not_le.mpr hlo, Nat.not_le.mpr hhi]

/-- The interpolation adds at most the whole span I_max − I_ess. -/
theorem CcParams.limit_range (hi : p.iEss ≤ p.iMax) (hr : p.rLo < p.rHi) (used : Nat) :
    p.iEss ≤ p.limit false used ∧ p.limit false used ≤ p.iMax := by
  rcases Nat.lt_or_ge used p.rHi with hhi | hhi
  · rcases Nat.lt_or_ge p.rLo used with hlo | hlo
    · have hspan : (p.iMax - p.iEss) * (used - p.rLo) / (p.rHi - p.rLo) ≤ p.iMax - p.iEss :=
        Nat.div_le_of_le_mul (Nat.mul_comm (p.rHi - p.rLo) _ ▸ Nat.mul_le_mul_left _ (by omega))
      rw [limit_of_between hlo hhi]
      exact ⟨Nat.le_add_right .., (Nat.le_sub_iff_add_le' hi).mp hspan⟩
    · simp [limit_of_low hr hlo, hi]
  · simp [limit_of_high hhi, hi]

theorem CcParams.limit_monotone (hi : p.iEss ≤ p.iMax) (hr : p.rLo < p.rHi) (cut : Bool) : Monotone (p.limit cut) := by
  intro used more hle
  cases cut with
  | true => simp
  | false =>
    rcases Nat.lt_or_ge more p.rHi with hhi | hhi
    · rcases Nat.lt_or_ge p.rLo used with hlo | hlo
      · rw [limit_of_between hlo (by omega), limit_of_between (by omega) hhi]
        gcongr
      · rw [limit_of_low hr hlo]
        exact (limit_range hi hr more).1
    · rw [limit_of_high hhi]
      exact (limit_range hi hr used).2

end Limit

/-! ### The cold derate (R12) -/

section Derate
variable {p : CcParams}

@[simp] theorem CcParams.derate_of_cut (cold : Bool) (l : Nat) : p.derate true cold l = l := by
  simp [derate]

@[simp] theorem CcParams.derate_of_warm (cut : Bool) (l : Nat) : p.derate cut false l = l := by
  simp [derate]

@[simp] theorem CcParams.derate_of_cold (l : Nat) : p.derate false true l = max p.iEss (l * 3 / 4) := rfl

theorem CcParams.derate_monotone (cut cold : Bool) : Monotone (p.derate cut cold) := by
  intro l l' hle
  cases cut with
  | true => simpa using hle
  | false =>
    cases cold with
    | false => simpa using hle
    | true =>
      rw [derate_of_cold, derate_of_cold]
      gcongr

theorem CcParams.derate_range {l : Nat} (hess : p.iEss ≤ l) (hmax : l ≤ p.iMax) (cold : Bool) :
    p.iEss ≤ p.derate false cold l ∧ p.derate false cold l ≤ p.iMax := by
  cases cold with
  | false => simp [hess, hmax]
  | true => rw [derate_of_cold]; omega

end Derate

/-! ### The capacity and the figures of a held count (R9, R10) -/

theorem capacityFactor_ge (tb : Option Int) : 154 ≤ capacityFactor tb := by
  cases tb with
  | none => rfl
  | some t => simp only [capacityFactor]; split_ifs <;> decide

/-- The factor is at least that of the lowest row of the table, so Q_eff is never 0 for a settings-clamped C_nom (R9). -/
theorem CcParams.qEff_ge {p : CcParams} (h : 20 ≤ p.cNom) (tb : Option Int) : 20 * 3600000 * 154 / 256 ≤ p.qEff tb :=
  Nat.div_le_div_right (Nat.mul_le_mul (Nat.mul_le_mul_right _ h) (capacityFactor_ge tb))

section Results
variable {c : ChargeCounter} {n : Count} (hc : c.count = some n)
include hc

theorem ChargeCounter.results_soc : c.results.soc = min 100 (100 * n.q / c.params.qEff c.tb) := by
  simp [results, hc, CcParams.soc]

theorem ChargeCounter.results_socUsed :
    c.results.socUsed = if c.estimated then c.results.soc - 10 else c.results.soc := by
  simp [results, hc]

theorem ChargeCounter.results_l :
    c.results.l = c.params.derate c.cut c.cold (c.params.limit c.cut c.results.socUsed) := by
  simp [results, hc]

end Results

theorem ChargeCounter.take_cold_iff (c : ChargeCounter) (shunt vbat : Int) (tb : Option Int) :
    (c.take shunt vbat tb).cold = true ↔ (tb = none ∨ ∃ x : Int, tb = some x ∧ x < 0) := by
  cases tb with
  | none => simp [take]
  | some x => simp [take]

/-- Settles O14: the rows of each table by its lemmas, the range and the monotonicity of the derated limit from those of the
limit and of the derate. -/
theorem limitFollowsItsTable : Obligations.LimitFollowsItsTable := by
  rintro p hi hr cut cold used l rfl
  refine ⟨?cut, ?high, ?low, ?between, ?cold, ?warm, ?range, ?mono, fun c n hc => c.results_l hc, ?figures,
    ChargeCounter.take_cold_iff⟩
  case cut => rintro rfl; simp
  case high => rintro rfl h; exact p.limit_of_high h
  case low => rintro rfl h; exact p.limit_of_low hr h
  case between => rintro rfl hlo hhi; exact p.limit_of_between hlo hhi
  case cold => rintro rfl rfl; exact p.derate_of_cold _
  case warm => rintro rfl; exact p.derate_of_warm cut _
  case range =>
    rintro rfl
    obtain ⟨hess, hmax⟩ := p.limit_range hi hr used
    exact p.derate_range hess hmax cold
  case mono => exact fun more hle => p.derate_monotone cut cold (p.limit_monotone hi hr cut hle)
  case figures =>
    intro c n k qEff hc hk hq
    have hfactor : k = capacityFactor c.tb := by rw [hk]; cases c.tb <;> rfl
    have heff : qEff = c.params.qEff c.tb := by rw [hq, hfactor]; rfl
    rw [heff]
    exact ⟨rfl, fun h => c.params.qEff_ge h c.tb, c.results_soc hc, c.results_socUsed hc⟩

end Sys2Proof.Machine
end

