-- ==== Sys2Proof/Proofs/ShedLevel.lean ====
section
/-! PROOFS. The shed level of one recomputation: S_raw and OVERDRAW from the cumulative sums, and the restore test that runs
the holdoff (R38, R42, R44). -/

namespace Sys2Proof.Machine

/-! ### S_raw and OVERDRAW from any four sums (R42) -/

@[simp] theorem rawShed_of_cut (l t1 t2 t3 : Nat) : rawShed true l t1 t2 t3 = .allShed := rfl

@[simp] theorem overdrawn_of_cut (l t0 : Nat) : overdrawn true l t0 = false := rfl

@[simp] theorem overdrawn_without_cut (l t0 : Nat) : overdrawn false l t0 = decide (l < t0) := rfl

section Sums
variable {T : Fin 4 → Nat} {l : Nat}

/-- The sums are tried from T_3 down; the first that fits is the highest. -/
theorem rawShed_is_highest (h0 : T 0 ≤ l) :
    ∃ k : Fin 4, rawShed false l (T 1) (T 2) (T 3) = .upTo k ∧ T k ≤ l ∧ ∀ j : Fin 4, k < j → l < T j := by
  rcases le_or_gt (T 3) l with h3 | h3
  · exact ⟨3, by simp [rawShed, h3], h3, fun j hj => absurd hj (Fin.le_last j).not_gt⟩
  rcases le_or_gt (T 2) l with h2 | h2
  · exact ⟨2, by simp [rawShed, h3.not_ge, h2], h2, by simp [Fin.forall_fin_succ, h3]⟩
  rcases le_or_gt (T 1) l with h1 | h1
  · exact ⟨1, by simp [rawShed, h3.not_ge, h2.not_ge, h1], h1, by simp [Fin.forall_fin_succ, h3, h2]⟩
  · exact ⟨0, by simp [rawShed, h3.not_ge, h2.not_ge, h1.not_ge], h0, by simp [Fin.forall_fin_succ, h3, h2, h1]⟩

theorem rawShed_of_none_fits (h : ∀ k, l < T k) : rawShed false l (T 1) (T 2) (T 3) = .upTo 0 := by
  simp [rawShed, (h _).not_ge]

end Sums

/-! ### The sums of a recomputation (R38) -/

/-- Each sum adds the wants of one more class (R38). -/
theorem State.budget_sum_monotone (s : State) : Monotone s.budget.sum := by
  refine Fin.monotone_iff_le_succ.mpr fun k => ?_
  match k with
  | 0 | 1 | 2 => exact Nat.le_add_right ..

theorem State.budget_sRaw (s : State) :
    s.budget.sRaw =
      some (rawShed s.limitUsed.2 s.limitUsed.1 (s.budget.sum 1) (s.budget.sum 2) (s.budget.sum 3)) := rfl

theorem State.budget_overdraw (s : State) :
    s.budget.overdraw = overdrawn s.limitUsed.2 s.limitUsed.1 (s.budget.sum 0) := rfl

/-- Settles O20: without CUT, by whether T_0 fits; where it does not, no larger sum does. -/
theorem rawShedIsTheHighestThatFits : Obligations.RawShedIsTheHighestThatFits := by
  rintro s _ l cut rfl hlimit
  rw [s.budget_sRaw, s.budget_overdraw, hlimit]
  refine ⟨?cut, ?fits, ?overdrawn⟩
  case cut => rintro rfl; simp
  case fits =>
    rintro rfl (h0 : s.budget.sum 0 ≤ l)
    obtain ⟨k, hraw, hfits, habove⟩ := rawShed_is_highest h0
    exact ⟨by simp [h0], k, congrArg some hraw, hfits, habove⟩
  case overdrawn =>
    rintro rfl (h0 : l < s.budget.sum 0)
    have hnone (k : Fin 4) : l < s.budget.sum k := h0.trans_le (s.budget_sum_monotone (Fin.zero_le k))
    exact ⟨congrArg some (rawShed_of_none_fits hnone), by simp [h0]⟩

/-! ### The restore test (R44) -/

theorem restoreHolds_iff {sh : Shed} {l t0 t1 t2 t3 : Nat} :
    restoreHolds sh l t0 t1 t2 t3 = true ↔ sumAbove sh t0 t1 t2 t3 ≤ l - l / 16 := by
  simp [restoreHolds]

/-- Step 4 where S_raw is above S: S stays, and the restore condition decides about the holdoff (R44). -/
theorem shedStep_of_below {life : LifeState} {lb : LoadBudget} {raw : Shed} (now : Nat) (restore : Bool)
    (hlife : life ≠ .commissioning) (hfirst : lb.firstPending = false) (hraw : lb.s.rank < raw.rank) :
    shedStep life now lb raw restore =
      (lb.s, if restore then some (lb.holdoff.getD (now + Config.holdoffMs)) else none, false) := by
  cases restore <;> simp [shedStep, hlife, hfirst, Nat.not_le.mpr hraw]

theorem State.budget_shedStep {s : State} {raw : Shed} (hraw : s.budget.sRaw = some raw) :
    (s.budget.s, s.budget.holdoff, s.budget.firstPending) =
      shedStep s.life s.now s.lb raw
        (restoreHolds s.lb.s s.budget.lU s.budget.t0 s.budget.t1 s.budget.t2 s.budget.t3) := by
  cases hraw
  rfl

/-- Settles O21: step 4 of a recomputation that finds S_raw above S, by whether the restore condition holds. -/
theorem restoreTestRunsTheHoldoff : Obligations.RestoreTestRunsTheHoldoff := by
  rintro s _ raw above rfl hlife hfirst hraw hbelow habove
  have hsum : above = sumAbove s.lb.s s.budget.t0 s.budget.t1 s.budget.t2 s.budget.t3 := by
    rw [habove]
    match s.lb.s with
    | .allShed | .upTo 0 | .upTo 1 | .upTo 2 | .upTo 3 => rfl
  have hstep := s.budget_shedStep hraw
  rw [shedStep_of_below s.now _ hlife hfirst hbelow] at hstep
  obtain ⟨hs, hholdoff, -⟩ : _ ∧ _ ∧ _ := by simpa only [Prod.mk.injEq] using hstep
  rw [hsum, ← restoreHolds_iff, hholdoff]
  refine ⟨hs, ?starts, ?runsOn, ?stopped⟩
  case starts => intro hrestore hnone; simp [hrestore, hnone, Config.holdoffMs]
  case runsOn => intro hrestore e hrunning; simp [hrestore, hrunning]
  case stopped => exact fun hfails => if_neg hfails

end Sys2Proof.Machine
end

section
/-! The proofs below are elaborated one after another: elaborated side by side, the stacks of their threads together come close
to the memory that the check allows. -/

set_option Elab.async false

section
/-! PROOFS. What a command can do: nothing, a quiet change, or an event followed by `finish`. The 105 commands are taken apart
here once; what every step keeps is proved over these cases. -/

namespace Sys2Proof.Machine

/-! ### The cases -/

/-- A change of the Link Controller that leaves the cause in service and LINK_FAULT and ALONE as they are. -/
def Receives (f : LinkController → LinkController) (s : State) : Prop :=
  (f s.lc).service = s.lc.service ∧ (f s.lc).linkFault = s.lc.linkFault ∧ (f s.lc).alone = s.lc.alone

/-- A change of the Link Controller after which the node is not sending, LINK_FAULT and ALONE as they are. -/
def Withdraws (f : LinkController → LinkController) (s : State) : Prop :=
  (∀ v, (f s.lc).service = some v → v.sending = false) ∧ (f s.lc).linkFault = s.lc.linkFault ∧
    (f s.lc).alone = s.lc.alone

/-- What the commands that nothing follows do. -/
inductive Quiet (s : State) : State → Prop
  | coldReset : Quiet s s.coldReset
  | warmReset : Quiet s s.warmReset
  | causeEnds (c : ResetCause) : s.life = .reset → Quiet s (s.endCause c)
  | leavesReset (c : ResetCause) : s.life = .reset → Quiet s (s.endCause c).enterStrapRead
  | batteryPeriod (x : Timer) : Quiet s ({ s with cc := { s.cc with period := x } } : State).raiseBattery
  | receiver (f : LinkController → LinkController) : Receives f s → Quiet s (s.onLink f)
  | latch (f : LinkController → LinkController) (g : Causes → Causes) : s.life.drivesSlots = true →
      (f s.lc).linkFault = s.lc.linkFault → (f s.lc).alone = s.lc.alone → Quiet s ((s.onLink f).onCauses g)
  | withdraw (f : LinkController → LinkController) (g : Causes → Causes) : Withdraws f s →
      Quiet s ((s.onLink f).onCauses g)
  | cabinExpiry (a : Addr) :
      Quiet s (s.setEntries (onEntry a (fun e => { e with cabin := none }) s.pt.entries))
  | blankingEnd (ch : Fin 8) : Quiet s (s.onChannel ch fun c => { c with blanking := none })
  | historyEnd (ch : Fin 8) : Quiet s (s.onChannel ch fun c => { c with trips := c.recentTrips s.now })
  | openLoad (ch : Fin 8) : s.sw[ch].duty = Config.fullDuty →
      Quiet s (s.onChannel ch fun c => { c with openLoad := true })
  | hallPulse (i : DriveId) : Quiet s (s.onDrive i (Drive.pulse s.now))
  | sample (a : Analog) : Quiet s (s.takeSample a)
  | anemometer : Quiet s { s with gust := { s.gust with pulses := s.gust.pulses + 1 } }
  | flowPulse : Quiet s
      ((s.onWater fun w => w.convertPulses (w.remainder + 100)).onFunction .pump fun c =>
        { c with dry := c.dry.map fun _ => s.now + Config.dryFlowMs })
  | timers (x : Scheduler) : x.fifo = s.ts.fifo → x.hello = s.ts.hello → Quiet s { s with ts := x }

/-- The part of an OPERATE row that serves the request, once the entry has left the queue. -/
inductive Serves (s : State) (r : Option Requester) : State → Prop
  | reply (code : AnswerCode) : Serves s r (s.reply r code)
  | requestGroup (fn : ChFn) (f : Channel → Channel) (o : Operate) : fn = .light ∨ fn = .aux →
      f ∈ [Channel.lightOn s.now, Channel.lightLevel s.now (min 63 o.value), Channel.lightTimed s.now o.duration,
        Channel.requestOn s.now, Channel.requestTimed s.now o.duration] →
      Serves s r (s.requestGroup fn f o r)
  | offGroup (fn : ChFn) (o : Operate) : Serves s r (s.offGroup fn o r)
  | pumpOn : Serves s r (s.pumpOn r)
  | pumpOff : Serves s r (s.pumpOff r)
  | heaterOn : Serves s r (s.heaterOn r)
  | heaterOff : Serves s r (s.heaterOff r)
  | heaterSet (v : Nat) : Serves s r (s.heaterSet v r)
  | heaterFrostHold (v : Nat) : Serves s r (s.heaterFrostHold v r)
  | dumpReset : Serves s r (s.dumpReset r)
  | resetVolume : Serves s r (s.resetVolume r)
  | moveDrives (fn : DriveFn) (act : MotionAction) : Serves s r (s.moveDrives fn act r)
  | nodeStore : Serves s r (s.nodeStore r)
  | nodeRestart : Serves s r (s.nodeRestart r)

/-- What a settings record in range does. -/
inductive Applies (s : State) (p : List Byte) : State → Prop
  | channel : Applies s p (s.applyChannel p)
  | driveFunction : Applies s p (s.applyDriveFunction p)
  | drive : Applies s p (s.applyDrive p)
  | route : Applies s p (s.applyRoute p)
  | trv : Applies s p { s with trv := s.trv.ofRecord p }
  | frost : Applies s p (s.onWater fun w => { w with params := w.params.ofFrost p })
  | water : Applies s p (s.onWater (WaterFrost.takeWater p))
  | heat : Applies s p
      (s.onHeating fun h => { h with params := HtParams.ofRecord p, setpoint := (HtParams.ofRecord p).setpoint })
  | wind : Applies s p { s with gust := s.gust.ofRecord p }
  | batteryA : Applies s p { s with cc := s.cc.takeA p }
  | batteryV : Applies s p { s with cc := s.cc.takeV p }
  | link : Applies s p (s.applyLink p)
  | curve : Applies s p { s with light := { s.light with curve := curveOf (byteAt p 1) p s.light.curve } }
  | scene : Applies s p
      { s with light := { s.light with scenes := s.light.scenes.setIfInBounds (byteAt p 1 - 1) (sceneOf p) } }

/-- What a handled telegram does once HEARD is driven. -/
inductive Hears (s : State) (src : Addr) (addressed : Bool) (p : List Byte) : State → Prop
  | nothing : Hears s src addressed p s
  | state : Hears s src addressed p (s.peerState src p)
  | battery : Hears s src addressed p (s.peerBattery src p)
  | measure : Hears s src addressed p (s.peerMeasure src p)
  | scene (n : Nat) : s.life ≠ .commissioning → Hears s src addressed p (s.applyScene n)
  | wake : Hears s src addressed p (s.wakeCause false)
  | takenWake : Hears s src addressed p (s.driveTaken.wakeCause false)
  | operate : s.life = .run ∨ s.life = .dormant → Hears s src addressed p (s.enqueue ⟨true, src, addressed, p⟩)
  | settings : s.life = .commissioning → Hears s src addressed p (s.enqueue ⟨false, src, true, p⟩)

/-- What a command does to the channels, the Water and Frost unit and the Heating unit alone. -/
inductive UnitEvent (s : State) : State → Prop
  | endTimer (ch : Fin 8) : s.sw[ch].endTimer ≠ none → UnitEvent s
      (match s.sw[ch].fn with
      | .dumpValve => (s.onChannel ch (Channel.endRequest s.now)).endValveRun ch
      | .burnerFan => (s.onChannel ch (Channel.endRequest s.now)).stopRunOn
      | .none | .light | .aux | .pump | .tankHeat | .burner => s.onChannel ch (Channel.endRequest s.now))
  | cyclePhase (ch : Fin 8) : s.sw[ch].cycleTimer ≠ none → UnitEvent s (s.onChannel ch (Channel.nextPhase s.now))
  | trip (ch : Fin 8) : 0 < s.sw[ch].duty → UnitEvent s
      (if (s.onChannel ch (Channel.trip s.now)).sw[ch].state = .fault then
        (s.onChannel ch (Channel.trip s.now)).afterFault ch
      else s.onChannel ch (Channel.trip s.now))
  | cooldownEnd (ch : Fin 8) : s.sw[ch].cooldown ≠ none → UnitEvent s (s.onChannel ch fun c =>
      { c with
        cooldown := none
        state := if c.state = .tripped then (if c.request then .held else .off) else c.state })
  | fadeStep (ch : Fin 8) : s.sw[ch].fadeTimer ≠ none → UnitEvent s (s.onChannel ch (Channel.stepFade s.now))
  | wfEvaluation : s.life.active = true → UnitEvent s s.waterEvaluates
  | dryTimer (ch : Fin 8) : s.sw[ch].dry ≠ none → UnitEvent s (s.onChannel ch Channel.enterFault)
  | dump : UnitEvent s s.dump
  | htEvaluation (x : Timer) : s.life.active = true → s.nc.started = true →
      UnitEvent s (s.onHeating fun h => { h with next := x }).heatingEvaluates
  | minimumOnEnd : UnitEvent s (s.onHeating fun h => { h with minimumOn := none })
  | burnerOut : (s.onHeating fun h => { h with minimumOn := none }).ht.burner = .firing →
      UnitEvent s (s.onHeating fun h => { h with minimumOn := none }).burnerOff
  | restEnd : s.ht.burner = .rest → UnitEvent s (s.onHeating fun h => { h with rest := none, burner := .off }).tryFire

/-- What a command does before `finish`. -/
inductive Event (s : State) : State → Prop
  | role (a : Addr) (r : Role) (an : Analog) (shunt vbat : Int) : s.life = .strapRead →
      Event s ((s.takeRole a r).enterCommissioning an shunt vbat)
  | strapFault : s.life = .strapRead → Event s s.enterStrapFault
  | windowEnds : s.life = .commissioning → Event s s.endWindow
  | ccSample (shunt vbat : Int) : s.life.active = true → s.isBattery = true → Event s (s.ccTakes shunt vbat)
  | bitError (sv : Service) (f : LinkController → LinkController) :
      s.lc.service = some sv → sv.sending = true → (f s.lc).service = none →
      Event s (islandEvent s ((s.onLink f).onCauses sv.cause.giveBack))
  | outcome (sv : Service) (f : LinkController → LinkController) :
      s.lc.service = some sv → sv.sending = true → (f s.lc).service = none →
      Event s ((islandEvent s (s.onLink f)).causeCompletes sv)
  | clash : s.receivable = true → Event s (s.onLink LinkController.readTelegram).clash
  | telegram (src : Addr) (addressed : Bool) (p : List Byte) (u : State) : s.receivable = true →
      s.ownAddr ≠ some src → Hears (s.onLink LinkController.readTelegram).driveHeard src addressed p u → Event s u
  | ages (a : Addr) (p : Peer) (st : PeerStatus) : s.entry a = some p → Event s
      ((s.setEntries (onEntry a (fun e => { e with status := st }) s.pt.entries)).entryChange)
  | strangerEnd : Event s (s.onPeers fun t => { t with stranger := none }).trigger
  | candidateEnd (a : Addr) (c : Candidate) : s.pt.candidates.find? (fun c => c.addr = a) = some c →
      Event s (s.takeCandidates (s.pt.candidates.filter fun c => c.addr ≠ a))
  | holdoffEnd : s.lb.holdoff ≠ none →
      Event s ({ s with lb := { s.lb with s := s.lb.s.up, holdoff := none } } : State).trigger
  | stall (i : DriveId) : (s.drive i).state.travelling = true →
      Event s (wakeForForced s ((s.onDrive i Drive.stalled).evaluateForced i))
  | jam (i : DriveId) : (s.drive i).state.travelling = true → Event s (s.onDrive i Drive.enterJam)
  | brakeEnd (i : DriveId) : (s.drive i).state = .braking → Event s (wakeForForced s (s.endBraking i))
  | waitEnd (i : DriveId) : (s.drive i).state = .waitGrant →
      Event s (wakeForForced s ((s.resolve i .refusedLowPower).returnToOrigin i))
  | gustWindow : s.life.active = true →
      Event s ({ s with gust := s.gust.endWindow s.now (s.routed .anemometer) } : State).interlockEvent
  | lockoutEnd : Event s ({ s with gust := { s.gust with lockout := none } } : State).interlockEvent
  | trvReleased : s.life.active = true →
      Event s ({ s with trv := { s.trv with reading := false } } : State).interlockEvent
  | trvAsserted : s.life.active = true →
      Event s (({ s with trv := { s.trv with reading := true } } : State).interlockEvent.wakeCause false)
  | speedTimeout : Event s ({ s with sfe := { s.sfe with speedTimer := none } } : State).interlockEvent
  | input (i : Fin 4) (b : Bool) : s.life.active = true →
      Event s (({ s with sfe := { s.sfe with inputs := s.sfe.inputs.set i.val b i.isLt } } : State).ownDriveEvent s)
  | speedPulse : s.life.active = true →
      Event s (({ s with sfe := { s.sfe with speedTimer := some (s.now + Config.speedMs) } } : State).ownDriveEvent s)
  | request (e : Entry) (u : State) : s.od.iq.head? = some e → s.canTake e = true →
      Serves s.popEntry e.requester u → Event s u
  | record (p : List Byte) (x : Option (List Byte)) (u : State) : s.life = .commissioning →
      Applies (s.setInHand x) p u → Event s u.moveClosing
  | skip (x : Option (List Byte)) : s.life = .commissioning → Event s (s.setInHand x)
  | units (u : State) : UnitEvent s u → Event s u

/-- A command at the clock `n` leaves the state alone, changes it quietly, or brings an event about, with what follows. -/
inductive Does (s : State) : State → Prop
  | nothing : Does s s
  | quiet (n : Nat) (t : State) : Quiet (s.reach n) t → Does s t
  | event (n : Nat) (u : State) : Event (s.reach n) u → Does s u.finish

/-! ### The forms of a command -/

theorem State.reach_zero (s : State) : s.reach 0 = s := by simp [State.reach]

theorem Does.quietNow {s t : State} (h : Quiet s t) : Does s t :=
  .quiet 0 t (by rwa [s.reach_zero])

theorem Does.eventNow {s u : State} (h : Event s u) : Does s u.finish :=
  .event 0 u (by rwa [s.reach_zero])

theorem does_quietExpiry {s : State} {x : Timer} {f : State → State} (h : ∀ t : State, ∀ n, x = some n → t = s.reach n → Quiet t (f t)) :
    Does s (s.onExpiry x f) := by
  cases x with
  | none => exact .nothing
  | some n => exact .quiet n _ (h _ n rfl rfl)

theorem does_eventExpiry {s : State} {x : Timer} {f : State → State}
    (h : ∀ t : State, ∀ n, x = some n → t = s.reach n → Event t (f t)) :
    Does s (s.onExpiry x fun t => (f t).finish) := by
  cases x with
  | none => exact .nothing
  | some n => exact .event n _ (h _ n rfl rfl)

theorem receives_readTelegram (s : State) : Receives LinkController.readTelegram s := ⟨rfl, rfl, rfl⟩
theorem receives_discard (s : State) : Receives LinkController.discard s := ⟨rfl, rfl, rfl⟩
theorem receives_countBadCheck (s : State) : Receives LinkController.countBadCheck s := ⟨rfl, rfl, rfl⟩

theorem does_readIn {s : State} {kind : Nat} {src tgt : Addr} {a : Arrival} {filter : State → State}
    (h : s.receivable = true → Does s (filter (s.onLink LinkController.readTelegram))) :
    Does s (s.readIn kind src tgt a filter) := by
  unfold State.readIn
  split
  next hr =>
    split
    · exact .quietNow (.receiver _ (receives_discard s))
    · split
      · exact h hr
      · exact .quietNow (.receiver _ (receives_countBadCheck s))
  · exact .nothing

theorem verdict_handled_source {s : State} {src tgt : Addr} {b : Bool} (h : s.verdict src tgt = .handled b) :
    s.ownAddr ≠ some src := by
  intro e
  unfold State.verdict at h
  rw [if_pos e] at h
  split at h <;> cases h

theorem does_receive {s : State} {kind : Nat} {src tgt : Addr} {a : Arrival} {fits : Bool}
    {handle : Bool → State → State}
    (h : ∀ b t, t = (s.onLink LinkController.readTelegram).driveHeard → Hears t src b a.payload (handle b t)) :
    Does s (s.receive kind src tgt a fits handle) := by
  refine does_readIn fun hr => ?_
  unfold State.filter
  split
  next => exact .quietNow (.receiver _ (receives_readTelegram s))
  next => exact .quietNow (.receiver _ (receives_readTelegram s))
  next => exact .eventNow (.clash hr)
  next b hv =>
    split
    · exact .eventNow (.telegram src b a.payload _ hr (verdict_handled_source hv) (h b _ rfl))
    · exact .quietNow (.receiver (fun l => { l.readTelegram with heardSlot := s.life.drivesSlots }) ⟨rfl, rfl, rfl⟩)

theorem does_operate {s : State} {fn act : Nat} {body : Operate → Option Requester → State → State}
    (h : ∀ o r t, Serves t r (body o r t)) : Does s (s.operate fn act body) := by
  by_cases k : ∃ e, Takes fn act e s
  · obtain ⟨e, he⟩ := k
    rw [State.operate_taken he]
    refine .eventNow (.request e _ he.1 he.2.1 ?_)
    split
    · exact h _ _ _
    · exact .reply _
  · rw [State.operate_left (by simpa using k)]
    exact .nothing

theorem does_record {s : State} {type : Nat} {mine inRange : List Byte → Bool} {apply : List Byte → State → State}
    (h : ∀ p t, Applies t p (apply p t)) : Does s (s.record type mine inRange apply) := by
  unfold State.record
  split
  next p hp =>
    have hl := (State.nextRecord_eq_some.mp hp).1
    dsimp only
    split
    · exact .eventNow (.skip _ hl)
    · split
      · exact .eventNow (.record _ _ _ hl (h _ _))
      · exact .eventNow (.skip _ hl)
  · exact .nothing

/-! ### Every command -/

/-- A command at the end of a timer that only runs in a life state. -/
theorem Does.ite {s : State} {p : Prop} [Decidable p] {t : State} (h : p → Does s t) :
    Does s (if p then t else s) := by
  split
  next hp => exact h hp
  · exact .nothing

theorem does_next {s t u : State} (h : Does s t) (e : Host.Outcome.next t = (.next u : Host.Outcome State Fault Refusal)) :
    Does s u := by cases e; exact h

/-- Every command does one of the cases. -/
theorem exec_does {c : Instr} {s t : State} (h : exec c s = .next t) : Does s t := by
  cases c with
  | coldReset => exact does_next (.quietNow .coldReset) h
  | warmReset => exact does_next (.quietNow .warmReset) h
  | resetCauseEnds r =>
    refine does_next (Does.ite fun hl => ?_) h
    dsimp only
    split
    · exact .quietNow (.causeEnds r hl)
    · exact .quietNow (.leavesReset r hl)
  | strapReadEnd a b an sh vb =>
    refine does_next (Does.ite fun hl => does_eventExpiry ?_) h
    rintro _ n - rfl
    cases strapOf a b with
    | valid addr role => exact .role addr role an sh vb hl
    | fault | unread => exact .strapFault hl
  | closingTimerExpiry | limitTimerExpiry =>
    exact does_next (Does.ite fun hl => does_eventExpiry fun _ n _ e => e ▸ .windowEnds hl) h
  | closeRecord =>
    refine does_next ?_ h
    split
    next p hp => exact .eventNow (.windowEnds (State.nextRecord_eq_some.mp hp).1)
    · exact .nothing
  | ccSample sh vb =>
    exact does_next (Does.ite fun hl => does_eventExpiry fun _ n _ e => e ▸ .ccSample sh vb hl.1 hl.2) h
  | batteryPeriodTimerExpiry => exact does_next (does_quietExpiry fun _ n _ e => e ▸ .batteryPeriod _) h
  | linkIdle | framingError | breakDetected | malformedLength | telegramBadCheck =>
    exact does_next (Does.ite fun _ => .quietNow (.receiver _ ⟨rfl, rfl, rfl⟩)) h
  | causeEntersService =>
    refine does_next (Does.ite fun hl => ?_) h
    split
    next v hv =>
      split
      · exact .nothing
      · exact .quietNow (.latch (fun l => { l with idle := false, service := some (s.assemble v.cause v.priority) })
          id hl.1 rfl rfl)
    next =>
      split
      · exact .quietNow (.latch _ _ hl.1 rfl rfl)
      · exact .nothing
  | idleLost =>
    refine does_next (Does.ite fun _ => ?_) h
    dsimp only
    split
    next v hv =>
      split
      · exact .quietNow (.withdraw (fun l => { l with idle := false, rx := .inHand, service := none }) v.returnLate
          ⟨fun _ e => (nomatch e), rfl, rfl⟩)
      · exact .quietNow (.withdraw (fun l => { l with idle := false, rx := .inHand, service := some v.hold }) id
          ⟨fun _ e => (by cases e; rfl), rfl, rfl⟩)
    next => exact .quietNow (.receiver (fun l => { l with idle := false, rx := .inHand }) ⟨rfl, rfl, rfl⟩)
  | arbitrationLost =>
    refine does_next ?_ h
    split
    next v hv => exact Does.ite fun _ => .quietNow (.withdraw _ _ ⟨fun _ e => (nomatch e), rfl, rfl⟩)
    · exact .nothing
  | bitError =>
    refine does_next ?_ h
    split
    next v hv => exact Does.ite fun hs => .eventNow (.bitError v _ hv hs rfl)
    · exact .nothing
  | ownTelegramOutcome heard taken =>
    refine does_next ?_ h
    split
    next v hv => exact Does.ite fun hs => .eventNow (.outcome v _ hv hs rfl)
    · exact .nothing
  | stateReceived src tgt a => exact does_next (does_receive fun _ _ _ => .state) h
  | batteryReceived src tgt a => exact does_next (does_receive fun _ _ _ => .battery) h
  | measureReceived src tgt a => exact does_next (does_receive fun _ _ _ => .measure) h
  | sceneReceived src tgt a =>
    refine does_next (does_receive fun b u _ => ?_) h
    split
    · exact .nothing
    next hl => exact .scene _ hl
  | wakeReceived src tgt a =>
    refine does_next (does_receive fun b u _ => ?_) h
    dsimp only
    split
    · exact .takenWake
    · exact .wake
  | operateReceived src tgt a =>
    refine does_next (does_receive fun b u _ => ?_) h
    split
    next hl => exact .operate hl.1
    · exact .nothing
  | settingsReceived src tgt a =>
    refine does_next (does_receive fun b u _ => ?_) h
    split
    next hl => exact .settings hl.1
    · exact .nothing
  | answerReceived src tgt a => exact does_next (does_receive fun _ _ _ => .nothing) h
  | telegramForOtherStation m =>
    refine does_next (does_readIn fun hr => ?_) h
    split
    · exact .eventNow (.clash hr)
    all_goals exact .quietNow (.receiver _ (receives_readTelegram s))
  | peerStale a | peerLost a =>
    refine does_next ?_ h
    unfold State.ageEntry
    split
    next p hp =>
      split
      · exact .event _ _ (.ages a p _ hp)
      · exact .nothing
    · exact .nothing
  | peerCabinTExpiry a =>
    refine does_next ?_ h
    split
    · exact .quiet _ _ (.cabinExpiry a)
    · exact .nothing
  | strangerSeenTimerExpiry => exact does_next (does_eventExpiry fun _ n _ e => e ▸ .strangerEnd) h
  | batteryCandidateExpiry a =>
    refine does_next ?_ h
    split
    next c hc => exact .event _ _ (.candidateEnd a c hc)
    · exact .nothing
  | restoreHoldoffExpiry =>
    exact does_next (does_eventExpiry fun _ n hn e => e ▸ .holdoffEnd (by rw [State.reach_lb, hn]; simp)) h
  | channelEndTimerExpiry ch =>
    exact does_next (does_eventExpiry fun _ n hn e => e ▸ .units _ (.endTimer ch (by rw [State.reach_sw, hn]; simp))) h
  | cyclePhaseChange ch =>
    exact does_next (does_eventExpiry fun _ n hn e => e ▸ .units _ (.cyclePhase ch (by rw [State.reach_sw, hn]; simp))) h
  | inrushBlankingEnd ch => exact does_next (does_quietExpiry fun _ n _ e => e ▸ .blankingEnd ch) h
  | channelTrip ch run =>
    refine does_next (Does.ite fun hc => .event _ _ (.units _ (.trip ch ?_))) h
    simp only [Channel.overCurrent, Bool.and_eq_true, decide_eq_true_eq] at hc
    exact hc.1.1
  | tripCooldownEnd ch =>
    exact does_next (does_eventExpiry fun _ n hn e => e ▸ .units _ (.cooldownEnd ch (by rw [State.reach_sw, hn]; simp))) h
  | tripHistoryExpiry ch => exact does_next (does_quietExpiry fun _ n _ e => e ▸ .historyEnd ch) h
  | openLoadDetected ch i => exact does_next (Does.ite fun hc => .quiet _ _ (.openLoad ch hc.1)) h
  | fadeStep ch =>
    exact does_next (does_eventExpiry fun _ n hn e => e ▸ .units _ (.fadeStep ch (by rw [State.reach_sw, hn]; simp))) h
  | hallPulse i => exact does_next (.quietNow (.hallPulse i)) h
  | driveStall i cause =>
    refine does_next (Does.ite fun hd => ?_) h
    cases cause with
    | current x => exact Does.ite fun _ => .eventNow (.stall i hd)
    | noPulse =>
      exact does_eventExpiry (f := fun s => wakeForForced s ((s.onDrive i Drive.stalled).evaluateForced i))
        fun _ n _ e => e ▸ .stall i hd
  | driveOvercurrent i x => exact does_next (Does.ite fun hd => .eventNow (.jam i hd.1)) h
  | travelTimerExpiry i =>
    exact does_next (Does.ite fun hd => does_eventExpiry fun _ n _ e => e ▸ .jam i hd) h
  | brakeTimerExpiry i =>
    exact does_next (Does.ite fun hd => does_eventExpiry fun _ n _ e => e ▸ .brakeEnd i hd) h
  | grantWaitTimerExpiry i =>
    exact does_next (Does.ite fun hd => does_eventExpiry fun _ n _ e => e ▸ .waitEnd i hd) h
  | gustWindowEnd =>
    exact does_next (Does.ite fun hl => does_eventExpiry fun _ n _ e => e ▸ .gustWindow hl) h
  | gustLockoutExpiry => exact does_next (does_eventExpiry fun _ n _ e => e ▸ .lockoutEnd) h
  | trvReadingChange b =>
    refine does_next (Does.ite fun hl => ?_) h
    cases b with
    | true => exact .eventNow (.trvAsserted hl.1)
    | false => exact .eventNow (.trvReleased hl.1)
  | speedTimeout => exact does_next (does_eventExpiry fun _ n _ e => e ▸ .speedTimeout) h
  | sfeSample a => exact does_next (Does.ite fun _ => does_quietExpiry fun _ n _ e => e ▸ .sample a) h
  | debouncedInputChange i b => exact does_next (Does.ite fun hl => .eventNow (.input i b hl.1)) h
  | flowPulse => exact does_next (Does.ite fun _ => .quietNow .flowPulse) h
  | speedPulse => exact does_next (Does.ite fun hl => .eventNow (.speedPulse hl.1)) h
  | anemometerPulse => exact does_next (Does.ite fun _ => .quietNow .anemometer) h
  | wfEvaluation =>
    exact does_next (Does.ite fun hl => does_eventExpiry fun _ n _ e => e ▸ .units _ (.wfEvaluation hl)) h
  | dryTimerExpiry ch =>
    exact does_next (does_eventExpiry fun _ n hn e => e ▸ .units _ (.dryTimer ch (by rw [State.reach_sw, hn]; simp))) h
  | dumpTimerExpiry => exact does_next (Does.ite fun _ => does_eventExpiry fun _ n _ e => e ▸ .units _ .dump) h
  | htEvaluation =>
    exact does_next (Does.ite fun hl => does_eventExpiry fun _ n _ e => e ▸ .units _ (.htEvaluation _ hl.1 hl.2)) h
  | minimumOnTimerExpiry =>
    refine does_next (does_eventExpiry (f := fun s =>
      let s1 := s.onHeating fun h => { h with minimumOn := none }
      if s1.ht.burner = .firing ∧ s1.ht.lit ∧ ¬ s1.demand then s1.burnerOff else s1) fun u n _ _ => ?_) h
    dsimp only
    split
    next hb => exact .units _ (.burnerOut hb.1)
    · exact .units _ .minimumOnEnd
  | restTimerExpiry =>
    exact does_next (Does.ite fun hb => does_eventExpiry fun _ n _ e => e ▸ .units _ (.restEnd hb)) h
  | statePeriodTimerExpiry => exact does_next (does_quietExpiry fun _ n _ e => e ▸ .timers _ rfl rfl) h
  | urgentSpacingTimerExpiry => exact does_next (does_quietExpiry fun _ n _ e => e ▸ .timers _ rfl rfl) h
  | measurePeriodTimerExpiry => exact does_next (does_quietExpiry fun _ n _ e => e ▸ .timers _ rfl rfl) h
  | lightOn | auxOn | auxTimed | lightTimed =>
    exact does_next (does_operate fun o r u => .requestGroup _ _ o (by simp) (by simp)) h
  | lightOff | auxOff => exact does_next (does_operate fun o r u => .offGroup _ o) h
  | lightLevel =>
    refine does_next (does_operate fun o r u => ?_) h
    split
    · exact .offGroup _ o
    · exact .requestGroup _ _ o (by simp) (by simp)
  | pumpOn => exact does_next (does_operate fun _ _ _ => .pumpOn) h
  | pumpOff => exact does_next (does_operate fun _ _ _ => .pumpOff) h
  | heaterOn => exact does_next (does_operate fun _ _ _ => .heaterOn) h
  | heaterOff => exact does_next (does_operate fun _ _ _ => .heaterOff) h
  | heaterSet => exact does_next (does_operate fun o _ _ => .heaterSet o.value) h
  | heaterFrostHold => exact does_next (does_operate fun o _ _ => .heaterFrostHold o.value) h
  | dumpReset => exact does_next (does_operate fun _ _ _ => .dumpReset) h
  | waterResetVolume => exact does_next (does_operate fun _ _ _ => .resetVolume) h
  | stepExtend | stepRetract | stepStop | awningExtend | awningRetract | awningStop =>
    exact does_next (does_operate fun _ _ _ => .moveDrives _ _) h
  | nodeStore => exact does_next (does_operate fun _ _ _ => .nodeStore) h
  | nodeRestart => exact does_next (does_operate fun _ _ _ => .nodeRestart) h
  | channelRecord => exact does_next (does_record fun _ _ => .channel) h
  | channelRecordDrive => exact does_next (does_record fun _ _ => .driveFunction) h
  | routeRecord => exact does_next (does_record fun _ _ => .route) h
  | frostRecord => exact does_next (does_record fun _ _ => .frost) h
  | waterRecord => exact does_next (does_record fun _ _ => .water) h
  | heatRecord => exact does_next (does_record fun _ _ => .heat) h
  | batteryARecord => exact does_next (does_record fun _ _ => .batteryA) h
  | batteryVRecord => exact does_next (does_record fun _ _ => .batteryV) h
  | driveRecord => exact does_next (does_record fun _ _ => .drive) h
  | curveRecord => exact does_next (does_record fun _ _ => .curve) h
  | sceneRecord => exact does_next (does_record fun _ _ => .scene) h
  | windRecord => exact does_next (does_record fun _ _ => .wind) h
  | linkRecord => exact does_next (does_record fun _ _ => .link) h
  | trvRecord => exact does_next (does_record fun _ _ => .trv) h
  | unknownOperateCode =>
    refine does_next ?_ h
    split
    next e he =>
      obtain ⟨hq, hc, -⟩ := State.takable_eq_some.mp he
      exact .eventNow (.request e _ hq hc (.reply _))
    · exact .nothing
  | unknownRecordType =>
    refine does_next ?_ h
    split
    next p hl _ => exact Does.ite fun _ => .eventNow (.skip none hl)
    · exact .nothing

/-! ### What every step keeps -/

/-- An invariant `P` of the states between commands, with `Q` for the states before `finish`: it is kept by every step
where the clock and the queue do not matter to it, quiet changes keep it, events lead to `Q`, and `finish` back to `P`. -/
theorem keptByEveryStep_of_cases {P Q : State → Prop} (hn : ∀ s n, P s → P { s with now := n })
    (hp : ∀ s l, P s → P { s with pending := l }) (hq : ∀ s t, P s → Quiet s t → P t)
    (he : ∀ s u, P s → Event s u → Q u) (hf : ∀ u, Q u → P u.finish) : KeptByEveryStep P := by
  intro s t h hs
  unfold step at hs
  split at hs
  next c rest hc =>
    rcases exec_does hs with _ | ⟨n, _, hd⟩ | ⟨n, u, hd⟩
    · exact hp s rest h
    · exact hq _ _ (hn _ _ (hp s rest h)) hd
    · exact hf u (he _ u (hn _ _ (hp s rest h)) hd)
  · cases hs
    exact hn s _ h

end Sys2Proof.Machine
end

section
/-! PROOFS. The moves of a drive, taken apart once; and what keeps a predicate through every operation on the drives, through a
wake, through an interlock event and through `finish`. -/

namespace Sys2Proof.Machine

/-! ### The moves of a drive -/

/-- EXTENDING, RETRACTING or BRAKING. -/
def DriveState.underWay : DriveState → Bool
  | .extending | .retracting | .braking => true
  | .unknown | .retracted | .extended | .parked | .waitGrant | .jammed => false

/-- What may become of a drive in one move, and when. -/
inductive Drive.Moves (life : LifeState) (v : Interlock) (now : Nat) (d : Drive) : Drive → Prop
  | slot (sl : Slot) : Moves life v now d { d with slot := sl }
  | forced (c : ForcedCause) (homing : Bool) : life.operating = true → d.forced = none →
      d.state = .extended ∨ d.state = .parked ∨ d.state = .unknown ∨ d.state = .waitGrant →
      Moves life v now d (d.forcedRetract now c homing)
  | forcedReverse (c : ForcedCause) : d.state = .extending →
      Moves life v now d { d.reverse now .retract with forced := some c }
  | forcedBraking (c : ForcedCause) : d.state = .braking →
      Moves life v now d { d with direction := some .retract, forced := some c }
  | forcedTravel (c : ForcedCause) : d.state = .retracting → Moves life v now d { d with forced := some c }
  | returns : d.state = .waitGrant → Moves life v now d (d.rest (d.origin.getD .unknown))
  | stops (st : DriveState) : d.state.underWay = true →
      (d.forced.isSome → d.state ≠ .retracting ∧ (d.state = .braking → d.direction ≠ some .retract)) →
      st = .parked ∨ st = .unknown ∨ st = .jammed → Moves life v now d (d.rest st)
  | waits (origin : DriveState) (dir : Dir) (homing : Bool) (t : Timer) (sl : Slot) : life.operating = true →
      (d.state.busy = false ∧ origin = d.state) ∨ (d.state = .waitGrant ∧ origin = d.origin.getD .unknown) →
      Moves life v now d { d with
        state := .waitGrant, origin := some origin, direction := some dir, homing := homing, grantTimer := t, slot := sl }
  | travels (dir : Dir) : d.state = .waitGrant ∨ (d.state = .braking ∧ d.direction = some dir) →
      (dir = .extend → extendRefusal d.fn v = none) → Moves life v now d (d.travel now dir)
  | reverses (dir : Dir) : d.state.underWay = true → d.forced = none → Moves life v now d (d.reverse now dir)
  | haltsBraking : d.state = .braking → d.forced = none → Moves life v now d { d with direction := none }
  | stalls : d.state.travelling = true → Moves life v now d d.stalled
  | jams : d.state.travelling = true → Moves life v now d d.enterJam
  | pulse : Moves life v now d (d.pulse now)
  | function (fn : DriveFn) : life = .commissioning → Moves life v now d (d.takeFunction fn)
  | record (p : List Byte) : life = .commissioning → Moves life v now d (d.ofRecord p)

/-- Drive `i` of `s` may become `d`. -/
def State.MayMove (s : State) (i : DriveId) (d : Drive) : Prop := (s.drive i).Moves s.life s.interlock s.now d

/-! ### Operations on the drives -/

/-- `P` is kept by every move of a drive, by answers and by the grant list. -/
structure MotionKeeps (P : State → Prop) : Prop where
  drive : ∀ s i d, s.MayMove i d → P s → P (s.setDrive i d) := by intros; assumption
  place : ∀ s l, s.ts.fifo.length < 6 ∧ (∃ a, l = s.ts.fifo ++ [a]) → P s →
    P { s with ts := { s.ts with fifo := l } } := by intros; assumption
  grants : ∀ s l, P s → P { s with lb := { s.lb with grants := l, trigger := true } } := by intros; assumption

/-- Only drives, answers and the grant list are other. -/
def MotionAlone (s t : State) : Prop :=
  t = { s with
    ma := t.ma, mb := t.mb, ts := { s.ts with fifo := t.ts.fifo },
    lb := { s.lb with grants := t.lb.grants, trigger := t.lb.trigger } }

theorem motionKeeps_alone (s : State) : MotionKeeps (MotionAlone s) where
  drive t i d _ h := by
    unfold MotionAlone at h ⊢
    rw [h]
    cases i <;> rfl
  place t l _ h := by
    unfold MotionAlone at h ⊢
    rw [h]
  grants t l h := by
    unfold MotionAlone at h ⊢
    rw [h]

theorem MotionAlone.life {s t : State} (h : MotionAlone s t) : t.life = s.life := by rw [h]; rfl
theorem MotionAlone.interlock {s t : State} (h : MotionAlone s t) : t.interlock = s.interlock := by rw [h]

namespace MotionKeeps
variable {P : State → Prop} (k : MotionKeeps P) {s : State} (i : DriveId)
include k

theorem onDrive (f : Drive → Drive) (m : s.MayMove i (f (s.drive i))) (h : P s) : P (s.onDrive i f) := k.drive s i _ m h

theorem placeAnswer (a : Answer) (h : P s) : P (s.place a) := by
  unfold State.place
  split
  next hr => exact k.place s _ ⟨of_decide_eq_true hr, a, rfl⟩ h
  · exact h

theorem reply (r : Option Requester) (c : AnswerCode) (h : P s) : P (s.reply r c) := by
  cases r with
  | none => exact h
  | some r => exact k.placeAnswer _ h

theorem resolve (c : AnswerCode) (h : P s) : P (s.resolve i c) := by
  unfold State.resolve
  split
  · split
    · exact k.placeAnswer _ (k.onDrive i _ (.slot _) h)
    · exact k.onDrive i _ (.slot _) h
  · exact h
  · exact h

theorem placeKept (h : P s) : P (s.placeKept i) := by
  unfold State.placeKept
  split
  · split
    · exact k.placeAnswer _ (k.onDrive i _ (.slot _) h)
    · exact h
  · exact h
  · exact h

theorem placeAllKept (h : P s) : P s.placeAllKept := by
  unfold State.placeAllKept
  split
  · split <;> exact k.placeKept _ (k.placeKept _ h)
  · exact k.placeKept _ (k.placeKept _ h)

theorem leaveGrantList (h : P s) : P (s.leaveGrantList i) := k.grants s _ h

end MotionKeeps

/-- A resolved answer, and a removal from the grant list, change only the slot of the drive. -/
theorem resolved_mayMove {s : State} {i : DriveId} {c : AnswerCode} {f : Drive → Drive}
    (m : ∀ sl, Drive.Moves s.life s.interlock s.now { s.drive i with slot := sl } (f { s.drive i with slot := sl })) :
    ((s.resolve i c).leaveGrantList i).MayMove i (f (((s.resolve i c).leaveGrantList i).drive i)) := by
  obtain ⟨sl, hsl⟩ := State.drive_resolve s i c
  have a : MotionAlone s (s.resolve i c) :=
    (motionKeeps_alone s).resolve i c (show MotionAlone s s from rfl)
  have hv : (s.resolve i c).interlock = s.interlock := by rw [a]
  have hn : (s.resolve i c).now = s.now := by rw [a]
  unfold State.MayMove
  rw [State.drive_leaveGrantList, hsl]
  have e : ((s.resolve i c).leaveGrantList i).life = s.life := a.life
  rw [e, show ((s.resolve i c).leaveGrantList i).interlock = s.interlock from hv,
    show ((s.resolve i c).leaveGrantList i).now = s.now from hn]
  exact m sl

theorem operating_of_forced {l : LifeState} (h : l = .run ∨ l = .dormant ∨ l = .listenOnly) : l.operating = true := by
  rcases h with h | h | h <;> rw [h] <;> rfl

namespace MotionKeeps
variable {P : State → Prop} (k : MotionKeeps P) {s : State} (i : DriveId)
include k

/-- The moves of a forced cause, by the state of the drive. -/
theorem forcedMove (c : ForcedCause) (hl : s.life.operating = true) (hf : (s.drive i).forced = none) (h : P s) :
    P (match (s.drive i).state with
      | .extended | .parked => s.setDrive i ((s.drive i).forcedRetract s.now c false)
      | .unknown => s.setDrive i ((s.drive i).forcedRetract s.now c true)
      | .extending => s.setDrive i { (s.drive i).reverse s.now .retract with forced := some c }
      | .braking => s.setDrive i { (s.drive i) with direction := some .retract, forced := some c }
      | .retracting => s.setDrive i { (s.drive i) with forced := some c }
      | .waitGrant =>
        let s1 := (s.resolve i .cancelled).leaveGrantList i
        match (s.drive i).origin with
        | some .retracted => s1.onDrive i (Drive.rest .retracted)
        | some .extended | some .parked => s1.onDrive i (Drive.forcedRetract s.now c false)
        | _ => s1.onDrive i (Drive.forcedRetract s.now c true)
      | .retracted | .jammed => s) := by
  have w := k.leaveGrantList i (k.resolve i .cancelled h)
  split
  next hs => exact k.drive s i _ (.forced c false hl hf (.inl hs)) h
  next hs => exact k.drive s i _ (.forced c false hl hf (.inr (.inl hs))) h
  next hs => exact k.drive s i _ (.forced c true hl hf (.inr (.inr (.inl hs)))) h
  next hs => exact k.drive s i _ (.forcedReverse c hs) h
  next hs => exact k.drive s i _ (.forcedBraking c hs) h
  next hs => exact k.drive s i _ (.forcedTravel c hs) h
  next hs =>
    have g : ∀ b, P (((s.resolve i .cancelled).leaveGrantList i).onDrive i (Drive.forcedRetract s.now c b)) := fun b =>
      k.onDrive i _ (resolved_mayMove fun sl => .forced c b hl hf (.inr (.inr (.inr hs)))) w
    dsimp only
    split
    next ho =>
      refine k.onDrive i _ (resolved_mayMove fun sl => ?_) w
      have m := Drive.Moves.returns (life := s.life) (v := s.interlock) (now := s.now)
        (d := { s.drive i with slot := sl }) hs
      rwa [show ({ s.drive i with slot := sl } : Drive).origin = some .retracted from ho] at m
    all_goals exact g _
  next => exact h
  next => exact h

theorem evaluateForced (h : P s) : P (s.evaluateForced i) := by
  unfold State.evaluateForced
  dsimp only
  split
  next hl hf _ => exact k.forcedMove i _ (by rw [hl]; rfl) hf h
  next hl hf _ => exact k.forcedMove i _ (by rw [hl]; rfl) hf h
  next hl hf _ => exact k.forcedMove i _ (by rw [hl]; rfl) hf h
  · exact h

theorem evaluateBothForced (h : P s) : P s.evaluateBothForced := k.evaluateForced .mb (k.evaluateForced .ma h)

theorem comeToRest (st : DriveState) (m : s.MayMove i ((s.drive i).rest st)) (h : P s) : P (s.comeToRest i st) :=
  k.evaluateForced i (k.onDrive i _ m h)

theorem returnToOrigin (w : (s.drive i).state = .waitGrant) (h : P s) : P (s.returnToOrigin i) := by
  refine k.comeToRest i _ ?_ (k.leaveGrantList i h)
  unfold State.MayMove
  rw [State.drive_leaveGrantList]
  exact .returns w

theorem stopUnsourced (h : P s) : P (s.stopUnsourced i) := by
  unfold State.stopUnsourced
  dsimp only
  split
  next hs =>
    have e := hs.2.1
    exact k.comeToRest i _ (.stops _ (by rw [e]; rfl) (fun _ => by simp [e]) (.inl rfl)) h
  · exact h

theorem enterWait (o : DriveState) (dir : Dir) (r : Option Requester) (hl : s.life.operating = true)
    (ho : ((s.drive i).state.busy = false ∧ o = (s.drive i).state) ∨
      ((s.drive i).state = .waitGrant ∧ o = (s.drive i).origin.getD .unknown)) (h : P s) : P (s.enterWait i o dir r) :=
  k.evaluateForced i (k.grants (s.onDrive i _) _ (k.onDrive i _ (.waits o dir _ _ _ hl ho) h))

end MotionKeeps

theorem MotionAlone.refl (s : State) : MotionAlone s s := rfl

theorem motionAlone_resolve (s : State) (i : DriveId) (c : AnswerCode) : MotionAlone s (s.resolve i c) :=
  (motionKeeps_alone s).resolve i c (.refl s)

theorem motionAlone_reply (s : State) (r : Option Requester) (c : AnswerCode) : MotionAlone s (s.reply r c) :=
  (motionKeeps_alone s).reply r c (.refl s)

theorem State.drive_reply (s : State) (r : Option Requester) (c : AnswerCode) (i : DriveId) :
    (s.reply r c).drive i = s.drive i := by
  cases r with
  | none => rfl
  | some r => exact State.drive_place s _ i

namespace MotionKeeps
variable {P : State → Prop} (k : MotionKeeps P) {s : State} (i : DriveId)
include k

theorem redirectWait (dir : Dir) (r : Option Requester) (hl : s.life.operating = true)
    (w : (s.drive i).state = .waitGrant) (h : P s) : P (s.redirectWait i dir r) := by
  obtain ⟨sl, hsl⟩ := State.drive_resolve s i .cancelled
  refine k.enterWait i _ dir r ?_ (.inr ?_) (k.resolve i .cancelled h)
  · rw [(motionAlone_resolve s i _).life]; exact hl
  · rw [hsl]; exact ⟨w, rfl⟩

theorem requestExtend (r : Option Requester) (hl : s.life.operating = true) (h : P s) : P (s.requestExtend i r) := by
  unfold State.requestExtend
  dsimp only
  split
  case h_1 hs | h_2 hs =>
    split
    · exact k.reply r _ h
    · exact k.enterWait i _ _ r hl (.inl ⟨by rw [hs]; rfl, rfl⟩) h
  case h_6 hs =>
    split
    · exact k.reply r _ h
    · split
      case h_4 => exact k.redirectWait i _ r hl hs h
      all_goals exact k.reply r _ h
  case h_7 hs | h_8 hs | h_9 hs =>
    split
    · exact k.reply r _ h
    next hf =>
      split
      · exact k.reply r _ h
      · split
        · exact k.reply r _ h
        · split
          · exact k.reply r _ h
          · exact k.reply r _ (k.onDrive i _ (.reverses _ (by rw [hs]; rfl) (by simpa using hf)) h)
  all_goals exact k.reply r _ h

theorem requestRetract (r : Option Requester) (hl : s.life.operating = true) (h : P s) : P (s.requestRetract i r) := by
  unfold State.requestRetract
  dsimp only
  split
  case h_1 => exact k.reply r _ h
  case h_6 hs =>
    split
    · exact k.reply r _ h
    · exact k.redirectWait i _ r hl hs h
  case h_7 hs | h_8 hs | h_9 hs =>
    split
    · exact k.reply r _ h
    next hf =>
      simp only [not_or] at hf
      exact k.reply r _ (k.onDrive i _ (.reverses _ (by rw [hs]; rfl) (by simpa using hf.1)) h)
  all_goals
    rename_i hs
    exact k.enterWait i _ _ r hl (.inl ⟨by rw [hs]; rfl, rfl⟩) h

theorem requestStop (r : Option Requester) (h : P s) : P (s.requestStop i r) := by
  unfold State.requestStop
  dsimp only
  split
  case h_6 hs =>
    obtain ⟨sl, hsl⟩ := State.drive_resolve (s.reply r .done) i .cancelled
    refine k.returnToOrigin i ?_ (k.resolve i _ (k.reply r _ h))
    rw [hsl, State.drive_reply]
    exact hs
  case h_7 hs | h_8 hs =>
    split
    · exact k.reply r _ h
    next hf =>
      have hf : (s.drive i).forced = none := by simpa using hf
      refine k.comeToRest i _ ?_ (k.reply r _ h)
      unfold State.MayMove
      rw [State.drive_reply]
      refine .stops _ (by rw [hs]; rfl) (by simp [hf]) ?_
      split
      · split <;> simp
      · simp
  case h_9 hs =>
    split
    · exact k.reply r _ h
    next hf => exact k.reply r _ (k.onDrive i _ (.haltsBraking hs (by simpa using hf)) h)
  all_goals exact k.reply r _ h

theorem requestMotion (act : MotionAction) (r : Option Requester) (hl : s.life.operating = true) (h : P s) :
    P (s.requestMotion act i r) := by
  cases act with
  | extend => exact k.requestExtend i r hl h
  | retract => exact k.requestRetract i r hl h
  | stop => exact k.requestStop i r h

end MotionKeeps

theorem motionAlone_requestMotion (s : State) (act : MotionAction) (i : DriveId) (r : Option Requester)
    (hl : s.life.operating = true) : MotionAlone s (s.requestMotion act i r) :=
  (motionKeeps_alone s).requestMotion i act r hl (.refl s)

namespace MotionKeeps
variable {P : State → Prop} (k : MotionKeeps P) {s : State} (i : DriveId)
include k

theorem requestMotions (fn : DriveFn) (act : MotionAction) (r : Option Requester) (hl : s.life.operating = true)
    (h : P s) : P (s.requestMotions fn act r) := by
  have hm := k.requestMotion .ma act r hl h
  unfold State.requestMotions
  dsimp only
  split
  · split
    · exact k.requestMotion .mb act none (by rwa [(motionAlone_requestMotion s act .ma r hl).life]) hm
    · exact hm
  · split
    · exact k.requestMotion .mb act r hl h
    · exact h

theorem grant (h : P s) : P (s.grant i) := by
  unfold State.grant
  dsimp only
  split
  next hs =>
    split
    · refine k.returnToOrigin i ?_ (k.resolve i _ h)
      obtain ⟨sl, hsl⟩ := State.drive_resolve s i .refusedInterlock
      rw [hsl]; exact hs
    next hr =>
      refine k.onDrive i _ (resolved_mayMove fun sl => .travels _ (.inl hs) fun e => ?_) (k.leaveGrantList i (k.resolve i _ h))
      by_contra hn
      refine hr ⟨?_, hn⟩
      cases hd : (s.drive i).direction <;> simp_all
  · exact k.leaveGrantList i h

theorem grantListed (h : P s) : P (s.grantListed i) := by
  unfold State.grantListed
  split
  · exact k.grant i h
  · exact h

theorem giveGrants (h : P s) : P s.giveGrants := by
  unfold State.giveGrants
  split
  · exact k.grantListed .mb (k.grantListed .ma h)
  · exact h

theorem endBraking (hs : (s.drive i).state = .braking) (h : P s) : P (s.endBraking i) := by
  have halts : (s.drive i).direction ≠ some .retract → P (s.comeToRest i .parked) := fun hd =>
    k.comeToRest i _ (.stops _ (by rw [hs]; rfl) (fun _ => ⟨by simp [hs], fun _ => hd⟩) (.inl rfl)) h
  unfold State.endBraking
  split
  next hd => exact halts (by simp [hd])
  next hd => exact k.onDrive i _ (.travels _ (.inr ⟨hs, hd⟩) (by simp)) h
  next hd =>
    split
    next hr => exact k.onDrive i _ (.travels _ (.inr ⟨hs, hd⟩) fun _ => hr) h
    · exact halts (by simp [hd])

end MotionKeeps

/-! ### Waking -/

/-- `P` is also kept by what a wake does. -/
structure WakeKeeps (P : State → Prop) : Prop extends MotionKeeps P where
  wakes : ∀ s, s.life = .dormant → P s → P (s.changeLife .run) := by intros; assumption
  scheduler : ∀ s x, x.fifo = s.ts.fifo → P s → P { s with ts := x } := by intros; assumption
  quiet : ∀ s x, P s → P (s.setQuietWake x) := by intros; assumption
  store : ∀ s, P s → P s.clearStore := by intros; assumption

namespace WakeKeeps
variable {P : State → Prop} (k : WakeKeeps P) {s : State}
include k

theorem onCauses (f : Causes → Causes) (h : P s) : P (s.onCauses f) :=
  k.scheduler s { s.ts with pending := f s.ts.pending } rfl h

theorem raiseWake (h : P s) : P s.raiseWake := k.onCauses _ h

theorem stopMeasurePeriod (h : P s) : P s.stopMeasurePeriod :=
  k.scheduler s { s.ts with measurePeriod := none } rfl h

theorem startMeasurePeriod (h : P s) : P s.startMeasurePeriod :=
  k.scheduler s { s.ts with measurePeriod := _ } rfl h

theorem wake (w : Bool) (hl : s.life = .dormant) (h : P s) : P (s.wake w) := by
  have g := k.evaluateBothForced (k.startMeasurePeriod (k.wakes s hl h))
  unfold State.wake
  dsimp only
  split
  · exact k.quiet _ _ (k.raiseWake g)
  · exact k.quiet _ _ g

theorem stopSending (link : ∀ s sv, P s → P { s with lc := { s.lc with service := sv } }) (h : P s) : P s.stopSending := by
  unfold State.stopSending
  split
  · exact k.onCauses _ (link s _ h)
  · exact h

theorem joinWake (w : Bool) (h : P s) : P (s.joinWake w) := by
  unfold State.joinWake
  split
  · exact k.quiet _ _ (k.raiseWake h)
  · exact h

theorem wakeCause (w : Bool) (h : P s) : P (s.wakeCause w) := by
  unfold State.wakeCause
  split
  next hl => exact k.wake w hl h
  · refine k.joinWake w ?_
    split
    · exact k.store s h
    · exact h
  · exact h

theorem wakeForForced (t : State) (h : P t) : P (wakeForForced s t) := by
  unfold Machine.wakeForForced
  split
  · exact k.wakeCause true h
  · exact h

/-- An interlock event, for a predicate that does not look at the view. -/
theorem interlockEvent (view : ∀ s v, P s → P { s with interlock := v }) (h : P s) : P s.interlockEvent := by
  unfold State.interlockEvent
  split
  · exact h
  · exact k.wakeForForced _ (k.evaluateBothForced (k.stopUnsourced .mb (k.stopUnsourced .ma (view s _ h))))

theorem moveDrives (fn : DriveFn) (act : MotionAction) (r : Option Requester) (hl : s.life.operating = true)
    (h : P s) : P (s.moveDrives fn act r) := by
  unfold State.moveDrives
  split
  · exact h
  · exact k.wakeForForced _ (k.requestMotions fn act r hl h)

end WakeKeeps

/-! ### `finish` -/

/-- `P` is also kept by the flags word and, while the blocks run, by locks, a recomputation's figures, channels and burner. -/
structure FollowKeeps (P : State → Prop) : Prop extends MotionKeeps P where
  locks : ∀ s, s.life.active = true → P s → P s.syncLocks
  budget : ∀ s, s.life.active = true → P s → P { s with lb := s.budget } := by intros; assumption
  channels : ∀ s, s.life.active = true → P s → P s.evaluateChannels
  heating : ∀ s, s.life.active = true → P s → P s.heatingReacts
  flags : ∀ s, P s → P s.syncFlags

/-- `P` is also kept by the queue. -/
structure DispatchKeeps (P : State → Prop) : Prop extends WakeKeeps P where
  settings : ∀ s, P s → P s.takeSettings
  overflow : ∀ s, P s → P { s with od := s.od.clearOverflow } := by intros; assumption

/-- `P` is kept by the queue and by what follows from an event. -/
structure FinishKeeps (P : State → Prop) : Prop extends DispatchKeeps P, FollowKeeps P

theorem active_of_frame {s t : State} {c : List Block} (h : Frame c s t) (m : Block.life ∉ c)
    (hl : s.life.active = true) : t.life.active = true := by
  rcases h .life m with e | e
  · rwa [e]
  · rw [e.2]; rfl

namespace FollowKeeps
variable {P : State → Prop} (k : FollowKeeps P) {s : State}
include k

theorem channelsFollow (hl : s.life.active = true) (h : P s) : P s.channelsFollow := by
  have h1 := active_of_frame (frame_evaluateChannels s) (by simp) hl
  exact k.channels _ (active_of_frame (frame_heatingReacts _) (by simp) h1) (k.heating _ h1 (k.channels s hl h))

theorem recompute (hl : s.life.active = true) (h : P s) : P s.recompute :=
  k.flags _ (k.giveGrants (k.channelsFollow hl (k.budget s hl h)))

theorem follow (hl : s.life.active = true) (h : P s) : P s.follow := by
  unfold State.follow
  dsimp only
  split
  · exact k.recompute hl (k.locks s hl h)
  · exact k.channelsFollow hl (k.locks s hl h)

theorem followAll (n : Nat) (hl : s.life.active = true) (h : P s) : P (s.followAll n) := by
  induction n generalizing s with
  | zero => exact h
  | succ n ih =>
    unfold State.followAll
    dsimp only
    split
    · exact ih (active_of_frame (frame_follow s) (by simp) hl) (k.follow hl h)
    · exact k.follow hl h

theorem settle (h : P s) : P s.settle := by
  unfold State.settle
  split
  next hl => exact k.followAll _ hl h
  · exact h

end FollowKeeps

namespace DispatchKeeps
variable {P : State → Prop} (k : DispatchKeeps P) {s : State}
include k

theorem dispatch (h : P s) : P s.dispatch := by
  have g := k.overflow _ (k.settings _ (k.placeAllKept h))
  unfold State.dispatch State.headWakes
  dsimp only
  split
  · exact k.wakeCause false g
  · exact g

end DispatchKeeps

theorem FinishKeeps.finish {P : State → Prop} (k : FinishKeeps P) {s : State} (h : P s) : P s.finish :=
  k.flags _ (k.settle (k.dispatch h))

end Sys2Proof.Machine
end

section
/-! PROOFS. What the operations on one channel leave alone, and the operations that touch the channels, the Water and Frost unit
and the Heating unit alone. -/

namespace Sys2Proof.Machine

/-! ### What a request leaves of a channel -/

/-- All of a channel that a request, a fade and a CYCLE phase leave alone. -/
def Channel.body (c : Channel) :
    (ChFn × Nat × Nat × Nat × Mode × Bool × Nat × Nat × RouteFn × Nat) × Bool × Bool × List Nat × Timer × Timer × Bool ×
      Nat × Nat × Option Nat × Nat × Timer :=
  (c.record, c.exempt, c.inhibit, c.trips, c.cooldown, c.blanking, c.openLoad, c.onSince, c.fullSince, c.givenClass,
    c.duty, c.dry)

section Body
variable (c : Channel)

@[simp] theorem Channel.requestOff_body : c.requestOff.body = c.body := rfl
@[simp] theorem Channel.startPeriod_body (now : Nat) : (c.startPeriod now).body = c.body := rfl

@[simp] theorem Channel.nextPhase_body (now : Nat) : (c.nextPhase now).body = c.body := by
  unfold Channel.nextPhase
  split <;> rfl

@[simp] theorem Channel.cycleRequest_body (now : Nat) : (c.cycleRequest now).body = c.body := by
  unfold Channel.cycleRequest
  split <;> rfl

@[simp] theorem Channel.requestWith_body (now : Nat) (t : Timer) : (c.requestWith now t).body = c.body := by
  unfold Channel.requestWith
  split
  · rfl
  · exact c.cycleRequest_body now

@[simp] theorem Channel.requestUntilOff_body (now : Nat) : (c.requestUntilOff now).body = c.body :=
  c.requestWith_body now _
@[simp] theorem Channel.requestOn_body (now : Nat) : (c.requestOn now).body = c.body := c.requestWith_body now _
@[simp] theorem Channel.requestTimed_body (now d : Nat) : (c.requestTimed now d).body = c.body :=
  c.requestWith_body now _

@[simp] theorem Channel.endFade_body : c.endFade.body = c.body := by
  unfold Channel.endFade
  split <;> rfl

@[simp] theorem Channel.setTarget_body (now interval target : Nat) :
    (c.setTarget now interval target).body = c.body := by
  unfold Channel.setTarget
  split
  · rfl
  · split
    · exact Channel.endFade_body _
    · split
      · exact Channel.endFade_body _
      · rfl

@[simp] theorem Channel.stepFade_body (now : Nat) : (c.stepFade now).body = c.body := by
  unfold Channel.stepFade
  generalize (if c.current < c.target then c.current + 1 else c.current - 1) = level
  dsimp only
  split
  · exact Channel.endFade_body _
  · rfl

@[simp] theorem Channel.fadeOut_body (now interval : Nat) : (c.fadeOut now interval).body = c.body := by
  unfold Channel.fadeOut
  rw [Channel.setTarget_body]
  split <;> rfl

@[simp] theorem Channel.endRequest_body (now : Nat) : (c.endRequest now).body = c.body := by
  unfold Channel.endRequest
  split
  · exact c.fadeOut_body _ _
  · rfl

@[simp] theorem Channel.aim_body (now target : Nat) : (c.aim now target).body = c.body := by
  unfold Channel.aim
  split
  · exact c.setTarget_body _ _ _
  · rfl

@[simp] theorem Channel.lightOn_body (now : Nat) : (c.lightOn now).body = c.body := by simp [Channel.lightOn]
@[simp] theorem Channel.lightLevel_body (now n : Nat) : (c.lightLevel now n).body = c.body := by
  simp [Channel.lightLevel]

@[simp] theorem Channel.lightTimed_body (now d : Nat) : (c.lightTimed now d).body = c.body := by
  unfold Channel.lightTimed
  dsimp only
  split <;> simp

@[simp] theorem Channel.applyScene_body (now fade level : Nat) : (c.applyScene now fade level).body = c.body := by
  unfold Channel.applyScene
  split
  · rfl
  · split <;> simp

end Body

theorem Channel.record_of_body {c d : Channel} (h : d.body = c.body) : d.record = c.record := congrArg Prod.fst h
theorem Channel.fn_of_record {c d : Channel} (h : d.record = c.record) : d.fn = c.fn := congrArg Prod.fst h
theorem Channel.exempt_of_body {c d : Channel} (h : d.body = c.body) : d.exempt = c.exempt :=
  congrArg (fun x => x.2.1) h
theorem Channel.inhibit_of_body {c d : Channel} (h : d.body = c.body) : d.inhibit = c.inhibit :=
  congrArg (fun x => x.2.2.1) h
theorem Channel.trips_of_body {c d : Channel} (h : d.body = c.body) : d.trips = c.trips :=
  congrArg (fun x => x.2.2.2.1) h
theorem Channel.cooldown_of_body {c d : Channel} (h : d.body = c.body) : d.cooldown = c.cooldown :=
  congrArg (fun x => x.2.2.2.2.1) h
theorem Channel.openLoad_of_body {c d : Channel} (h : d.body = c.body) : d.openLoad = c.openLoad :=
  congrArg (fun x => x.2.2.2.2.2.2.1) h
theorem Channel.givenClass_of_body {c d : Channel} (h : d.body = c.body) : d.givenClass = c.givenClass :=
  congrArg (fun x => x.2.2.2.2.2.2.2.2.2.1) h
theorem Channel.duty_of_body {c d : Channel} (h : d.body = c.body) : d.duty = c.duty :=
  congrArg (fun x => x.2.2.2.2.2.2.2.2.2.2.1) h

/-! ### Ordinary changes of a channel -/

/-- The channel keeps its function and its inhibit, only a dump valve or a fan becomes exempt, the output is not driven further, and
a blank channel stays blank. -/
structure Channel.Ordinary (c d : Channel) : Prop where
  fn : d.fn = c.fn
  inhibit : d.inhibit = c.inhibit
  exempt : d.exempt = true → c.exempt = true ∨ d.fn = .dumpValve ∨ d.fn = .burnerFan
  duty : d.duty = 0 ∨ d.duty = c.duty
  blank : c = Channel.blank → d = Channel.blank

theorem Channel.Ordinary.refl (c : Channel) : c.Ordinary c := ⟨rfl, rfl, .inl, .inr rfl, id⟩

theorem Channel.Ordinary.trans {c d e : Channel} (h : c.Ordinary d) (g : d.Ordinary e) : c.Ordinary e where
  fn := g.fn.trans h.fn
  inhibit := g.inhibit.trans h.inhibit
  exempt x := by
    rcases g.exempt x with y | y
    · rw [g.fn]; exact h.exempt y
    · exact .inr y
  duty := by
    have := h.duty
    rcases g.duty with y | y <;> omega
  blank x := g.blank (h.blank x)

theorem Channel.Ordinary.of_body {c d : Channel} (h : d.body = c.body) (b : c = Channel.blank → d = Channel.blank) :
    c.Ordinary d :=
  ⟨fn_of_record (record_of_body h), inhibit_of_body h, fun x => .inl (exempt_of_body h ▸ x), .inr (duty_of_body h), b⟩

theorem Channel.ne_blank {c : Channel} (h : c.fn ≠ .none) : c ≠ Channel.blank := fun e => h (e ▸ rfl)

/-- A change of a channel with a function. -/
theorem Channel.Ordinary.of_fn {c d : Channel} (n : c.fn ≠ .none) (h : d.body = c.body) : c.Ordinary d :=
  .of_body h fun e => absurd e (ne_blank n)

theorem Channel.ordinary_requestOff (c : Channel) (g : Option Nat) : c.Ordinary { c.requestOff with givenClass := g } ↔
    (c = Channel.blank → g = none) := by
  constructor
  · intro h e
    have := congrArg Channel.givenClass (h.blank e)
    exact this
  · intro h
    exact ⟨rfl, rfl, .inl, .inr rfl, fun e => by rw [h e, e]; rfl⟩

theorem Channel.ordinary_enterFault (c : Channel) (n : c ≠ Channel.blank) : c.Ordinary c.enterFault :=
  ⟨rfl, rfl, .inl, .inl rfl, fun e => absurd e n⟩

theorem Channel.ordinary_trip (c : Channel) (now : Nat) (n : c ≠ Channel.blank) : c.Ordinary (c.trip now) := by
  unfold Channel.trip
  dsimp only
  split
  · exact ⟨rfl, rfl, .inl, .inl rfl, fun e => absurd e n⟩
  · exact ⟨rfl, rfl, .inl, .inl rfl, fun e => absurd e n⟩

theorem Channel.ordinary_clearFault (c : Channel) (n : c.fn ≠ .none) (g : Option Nat) :
    c.Ordinary { c.clearFault with givenClass := g } := by
  unfold Channel.clearFault
  split <;> exact ⟨rfl, rfl, .inl, .inr rfl, fun e => absurd e (ne_blank n)⟩

/-! ### Units -/

/-- Nothing but channels, Water and Frost unit, Heating unit and Light unit is other, and every channel has changed in an ordinary
way. -/
structure UnitsAlone (s t : State) : Prop where
  rest : t = { s with sw := t.sw, wf := t.wf, ht := t.ht, light := t.light }
  channels : ∀ i : Fin 8, s.sw[i].Ordinary t.sw[i]

theorem UnitsAlone.refl (s : State) : UnitsAlone s s := ⟨rfl, fun _ => .refl _⟩

theorem UnitsAlone.trans {s t u : State} (h : UnitsAlone s t) (g : UnitsAlone t u) : UnitsAlone s u :=
  ⟨by rw [g.rest, h.rest], fun i => (h.channels i).trans (g.channels i)⟩

theorem UnitsAlone.life {s t : State} (h : UnitsAlone s t) : t.life = s.life := by rw [h.rest]; rfl

theorem UnitsAlone.of_sw {s t : State} (h : t = { s with sw := t.sw, wf := t.wf, ht := t.ht, light := t.light })
    (w : t.sw = s.sw) : UnitsAlone s t := ⟨h, fun i => by rw [w]; exact .refl _⟩

section Units
variable (s : State)

theorem units_onChannels (f : Channel → Channel) (h : ∀ c : Channel, c.Ordinary (f c)) : UnitsAlone s (s.onChannels f) :=
  ⟨rfl, fun i => by simpa using h s.sw[i]⟩

theorem units_onFunction (fn : ChFn) (f : Channel → Channel) (h : ∀ c : Channel, c.fn = fn → c.Ordinary (f c)) :
    UnitsAlone s (s.onFunction fn f) := by
  refine units_onChannels s _ fun c => ?_
  split
  next e => exact h c e
  · exact .refl c

theorem units_onBurnerAndFan (f : Channel → Channel)
    (h : ∀ c : Channel, c.fn = .burner ∨ c.fn = .burnerFan → c.Ordinary (f c)) : UnitsAlone s (s.onBurnerAndFan f) := by
  refine units_onChannels s _ fun c => ?_
  split
  next e => exact h c e
  · exact .refl c

theorem units_onTankHeat (n : Nat) (f : Channel → Channel) (h : ∀ c : Channel, c.fn = .tankHeat → c.Ordinary (f c)) :
    UnitsAlone s (s.onTankHeat n f) := by
  refine units_onChannels s _ fun c => ?_
  split
  next e => exact h c e.1
  · exact .refl c

theorem units_onGroup (fn : ChFn) (n : Nat) (f : Channel → Channel) (h : ∀ c : Channel, c.fn = fn → c.Ordinary (f c)) :
    UnitsAlone s (s.onGroup fn n f) := by
  refine units_onChannels s _ fun c => ?_
  split
  next e => exact h c e.1
  · exact .refl c

theorem units_onChannel (i : Fin 8) (f : Channel → Channel) (h : s.sw[i].Ordinary (f s.sw[i])) :
    UnitsAlone s (s.onChannel i f) := by
  refine ⟨rfl, fun j => ?_⟩
  by_cases e : j = i
  · subst e
    simpa using h
  · rw [State.onChannel_get_ne s e]
    exact .refl _

theorem units_onHeating (f : Heating → Heating) : UnitsAlone s (s.onHeating f) := .of_sw rfl rfl
theorem units_onWater (f : WaterFrost → WaterFrost) : UnitsAlone s (s.onWater f) := .of_sw rfl rfl
theorem units_convertLevels : UnitsAlone s s.convertLevels := units_onWater s _

theorem units_ite {p : Prop} [Decidable p] {t u : State} (h : p → UnitsAlone s t) (g : UnitsAlone s u) :
    UnitsAlone s (if p then t else u) := by
  split
  next hp => exact h hp
  · exact g

theorem Channel.fn_ne_none_of_heater {c : Channel} (h : c.fn = .burner ∨ c.fn = .burnerFan) : c.fn ≠ .none := by
  rcases h with h | h <;> rw [h] <;> simp

theorem units_giveBurnerClass : UnitsAlone s s.giveBurnerClass :=
  units_ite s (fun _ => units_onBurnerAndFan s _ fun _ h =>
    ⟨rfl, rfl, .inl, .inr rfl, fun e => absurd e (Channel.ne_blank (Channel.fn_ne_none_of_heater h))⟩) (.refl s)

theorem units_enterFiring : UnitsAlone s s.enterFiring := by
  refine (units_onBurnerAndFan s _ fun c h => ?_).trans (units_onHeating _ _)
  have n := Channel.fn_ne_none_of_heater h
  have o := Channel.Ordinary.of_fn n (c.requestUntilOff_body s.now)
  exact ⟨o.fn, o.inhibit, o.exempt, o.duty, fun e => absurd e (Channel.ne_blank n)⟩

theorem units_tryFire : UnitsAlone s s.tryFire := units_ite s (fun _ => units_enterFiring s) (.refl s)

theorem units_abandonFiring : UnitsAlone s s.abandonFiring :=
  (units_onBurnerAndFan s _ fun c _ => (c.ordinary_requestOff none).mpr fun _ => rfl).trans (units_onHeating _ _)

theorem units_burnerOff : UnitsAlone s s.burnerOff := by
  refine ((units_onFunction s .burner _ fun c _ => (c.ordinary_requestOff none).mpr fun _ => rfl).trans
    (units_onFunction _ .burnerFan (Channel.runOn s.now) fun c h => ?_)).trans (.of_sw rfl rfl)
  exact ⟨rfl, rfl, fun _ => .inr (.inr h), .inr rfl, fun e => absurd e (Channel.ne_blank (by simp [h]))⟩

theorem units_endRunOn : UnitsAlone s s.endRunOn := by
  refine (units_onFunction s .burnerFan _ fun c h => ?_).trans (units_onHeating _ _)
  exact ⟨rfl, rfl, by simp, .inr rfl, fun e => absurd e (Channel.ne_blank (by simp [h]))⟩

theorem units_stopRunOn : UnitsAlone s s.stopRunOn := units_ite s (fun _ => units_endRunOn s) (.refl s)

theorem units_heatingDisabled : UnitsAlone s s.heatingDisabled :=
  units_ite s (fun _ => units_ite s (fun _ => units_giveBurnerClass s)
    (units_ite s (fun _ => units_burnerOff s) (units_abandonFiring s))) (.refl s)

theorem units_heatingReacts : UnitsAlone s s.heatingReacts := by
  unfold State.heatingReacts
  split
  · exact units_ite s (fun _ => units_abandonFiring s) (units_ite s (fun _ => units_onHeating s _) (.refl s))
  · exact units_ite s (fun _ => units_burnerOff s) (.refl s)
  · exact .refl s

theorem units_chooseCabin : UnitsAlone s s.chooseCabin := by
  unfold State.chooseCabin
  split <;> exact units_onHeating s _

theorem units_actOnBurner : UnitsAlone s s.actOnBurner := by
  unfold State.actOnBurner
  split
  · exact units_tryFire s
  · exact units_ite s (fun _ => units_giveBurnerClass s) (units_abandonFiring s)
  · exact units_ite s (fun _ => units_burnerOff s) (units_giveBurnerClass s)
  · exact .refl s
  · exact .refl s

theorem units_heatingEvaluates : UnitsAlone s s.heatingEvaluates :=
  units_ite s (fun _ => ((units_chooseCabin s).trans (units_onHeating _ _)).trans (units_actOnBurner _)) (.refl s)

theorem units_heaterFollows (tank : Nat) (was new : Guard) : UnitsAlone s (s.heaterFollows tank was new) := by
  have n : ∀ c : Channel, c.fn = .tankHeat → c.fn ≠ .none := fun c h => by simp [h]
  unfold State.heaterFollows
  split
  · exact units_onTankHeat s _ _ fun c h => .of_fn (n c h) (c.requestUntilOff_body _)
  · exact units_onTankHeat s _ _ fun c h => .of_fn (n c h) (c.requestUntilOff_body _)
  · exact units_onTankHeat s _ _ fun c h => .of_fn (n c h) rfl
  · exact .refl s

theorem units_evaluateFresh : UnitsAlone s s.evaluateFresh :=
  units_ite s (fun _ => (units_onWater s _).trans (units_heaterFollows _ _ _ _)) (.refl s)

theorem units_evaluateGrey : UnitsAlone s s.evaluateGrey :=
  units_ite s (fun _ => (units_onWater s _).trans (units_heaterFollows _ _ _ _)) (.refl s)

theorem units_evaluateGuards : UnitsAlone s s.evaluateGuards :=
  units_ite s (fun _ => (units_evaluateFresh s).trans (units_evaluateGrey _)) (.refl s)

theorem units_waterEvaluates : UnitsAlone s s.waterEvaluates :=
  ((units_convertLevels s).trans (units_evaluateGuards _)).trans (units_onWater _ _)

theorem units_valveRuns : UnitsAlone s s.valveRuns := units_onWater s _

theorem units_endValveRun (i : Fin 8) (n : s.sw[i] ≠ Channel.blank) : UnitsAlone s (s.endValveRun i) :=
  (units_onChannel s i (fun c => { c with exempt := false }) ⟨rfl, rfl, fun e => (nomatch e), .inr rfl,
    fun e => absurd e n⟩).trans (units_valveRuns _)

theorem units_afterFault (i : Fin 8) : UnitsAlone s (s.afterFault i) := by
  unfold State.afterFault
  split
  next h => exact units_endValveRun s i (Channel.ne_blank (by rw [h]; simp))
  · exact units_stopRunOn s
  all_goals exact .refl s

theorem Channel.ordinary_openValve (c : Channel) (now : Nat) (h : c.fn = .dumpValve) : c.Ordinary (c.openValve now) := by
  have o := Ordinary.of_fn (by simp [h]) (c.requestTimed_body now Config.valveRunS)
  unfold Channel.openValve
  split
  · exact o
  · exact ⟨o.fn, o.inhibit, fun _ => .inr (.inl (o.fn.trans h)), o.duty, fun e => absurd e (ne_blank (by simp [h]))⟩

theorem units_dump : UnitsAlone s s.dump :=
  (((units_onFunction s .dumpValve _ fun c h => c.ordinary_openValve _ h).trans
    (units_onTankHeat _ freshTank Channel.requestOff fun c h => .of_fn (by simp [h]) rfl)).trans
      (units_onWater _ fun w => { w with fresh := .dumped, dumpTimer := none })).trans (units_valveRuns _)

theorem units_applyScene (n : Nat) : UnitsAlone s (s.applyScene n) := by
  unfold State.applyScene
  split
  next h =>
    refine ⟨rfl, fun i => ?_⟩
    have g : ∀ (j : Fin 8) fade level, s.sw[j].Ordinary (s.sw[j].applyScene s.now fade level) := fun j fade level => by
      refine .of_body (Channel.applyScene_body _ _ _ _) fun e => ?_
      rw [e]
      simp [Channel.applyScene, Channel.blank]
    fin_cases i <;> exact g _ _ _
  · exact .refl s

/-- A dead channel lets nothing of a request, an expiry or an OFF show. -/
theorem Channel.endRequest_blank (now : Nat) : Channel.blank.endRequest now = Channel.blank := rfl

theorem units_endTimer (i : Fin 8) : UnitsAlone s (s.onChannel i (Channel.endRequest s.now)) :=
  units_onChannel s i _ (.of_body (Channel.endRequest_body _ _) fun e => by rw [e]; rfl)

end Units

end Sys2Proof.Machine
end

section
/-! PROOFS. What keeps a predicate through every quiet change and every event: one field for each kind of change, and the two
case distinctions made once. -/

namespace Sys2Proof.Machine

/-! ### A change of life state -/

/-- A change of life state touches the cause in service and the pending causes, and calls for a recomputation. -/
theorem State.changeLife_eq (l : LifeState) (s : State) : ∃ sv p, s.changeLife l = { s with
    nc := { s.nc with life := l, lifeSince := s.now }
    lc := { s.lc with service := sv }
    ts := { s.ts with pending := p }
    lb := { s.lb with trigger := true } } := by
  unfold State.changeLife State.returnHeld
  dsimp only
  split
  · split
    · exact ⟨_, s.ts.pending, rfl⟩
    · exact ⟨none, _, rfl⟩
  next h => exact ⟨s.lc.service, s.ts.pending, rfl⟩

/-! ### What the peers' and the battery's operations touch -/

theorem islandEvent_cases {P : State → Prop} {s t : State} (h : P t) (g : P t.trigger) : P (islandEvent s t) := by
  unfold islandEvent
  split
  · exact h
  · exact g

/-- The choice of the view touches the view, and may call for a recomputation. -/
theorem State.updateView_eq (s : State) : ∃ b, s.updateView = { s with
    pt := { s.pt with view := s.chooseView }, lb := { s.lb with trigger := b } } := by
  unfold State.updateView
  split
  next h => exact ⟨s.lb.trigger, by rw [h]⟩
  · exact ⟨true, rfl⟩

/-- A sample of the Charge Counter touches the counter, the view, BATTERY_DUE and the call for a recomputation. -/
theorem State.ccTakes_eq (s : State) (shunt vbat : Int) : ∃ view p b, s.ccTakes shunt vbat = { s with
    cc := { s.cc.sample shunt vbat (s.temperature .batteryT) with next := some (s.now + Config.sampleMs) }
    pt := { s.pt with view := view }, ts := { s.ts with pending := p }, lb := { s.lb with trigger := b } } := by
  unfold State.ccTakes
  dsimp only
  obtain ⟨b, e⟩ := State.updateView_eq { s with
    cc := { s.cc.sample shunt vbat (s.temperature .batteryT) with next := some (s.now + Config.sampleMs) } }
  rw [e]
  split
  · exact ⟨_, _, b, rfl⟩
  · exact ⟨_, s.ts.pending, b, rfl⟩

/-- A change of the candidates touches CONFLICT with its period, the view, BATTERY_DUE and the call for a recomputation. -/
theorem State.takeCandidates_eq (s : State) (cs : List Candidate) : ∃ conflict period view p b, s.takeCandidates cs = { s with
    cc := { s.cc with conflict := conflict, period := period }
    pt := { s.pt with candidates := cs, view := view }
    ts := { s.ts with pending := p }, lb := { s.lb with trigger := b } } := by
  have h : ∃ conflict period p, (s.onPeers fun t => { t with candidates := cs }).syncConflict = { s with
      cc := { s.cc with conflict := conflict, period := period }
      pt := { s.pt with candidates := cs }, ts := { s.ts with pending := p } } := by
    unfold State.syncConflict
    split
    · exact ⟨_, _, _, rfl⟩
    · exact ⟨_, _, _, rfl⟩
    · exact ⟨s.cc.conflict, s.cc.period, s.ts.pending, rfl⟩
  obtain ⟨conflict, period, p, h⟩ := h
  unfold State.takeCandidates
  obtain ⟨b, e⟩ := State.updateView_eq (s.onPeers fun t => { t with candidates := cs }).syncConflict
  dsimp only
  rw [e, h]
  split
  · exact ⟨_, _, _, _, b, rfl⟩
  · exact ⟨_, _, _, _, true, rfl⟩

/-- The entry LOST with the longest silence, and none where no entry is LOST. -/
theorem longestSilent_spec (es : List Peer) :
    (longestSilent es = none ↔ ∀ e ∈ es, e.status ≠ .lost) ∧
      ∀ g, longestSilent es = some g →
        g ∈ es ∧ g.status = .lost ∧ ∀ e ∈ es, e.status = .lost → g.heardAt ≤ e.heardAt := by
  induction es using List.reverseRecOn with
  | nil => simp [longestSilent]
  | append_singleton es p ih =>
    obtain ⟨ih1, ih2⟩ := ih
    have step : longestSilent (es ++ [p]) = if p.status = .lost then
        (match longestSilent es with
          | none => some p
          | some b => if p.heardAt < b.heardAt then some p else some b) else longestSilent es := by
      simp only [longestSilent, List.foldl_append, List.foldl_cons, List.foldl_nil] <;> rfl
    rw [step]
    split
    next hp =>
      cases hb : longestSilent es with
      | none =>
        have none_lost := ih1.mp hb
        refine ⟨by simp [hp], fun g hg => ?_⟩
        cases hg
        refine ⟨by simp, hp, fun e he hl => ?_⟩
        rcases List.mem_append.mp he with he | he
        · exact absurd hl (none_lost e he)
        · rw [List.mem_singleton.mp he]
      | some b =>
        obtain ⟨h1, h2, h3⟩ := ih2 b hb
        dsimp only
        split
        next hlt =>
          refine ⟨by simp [hp], fun g hg => ?_⟩
          cases hg
          refine ⟨by simp, hp, fun e he hl => ?_⟩
          rcases List.mem_append.mp he with he | he
          · exact (Nat.le_of_lt hlt).trans (h3 e he hl)
          · rw [List.mem_singleton.mp he]
        next hle =>
          refine ⟨by simp [hp], fun g hg => ?_⟩
          cases hg
          refine ⟨by simp [h1], h2, fun e he hl => ?_⟩
          rcases List.mem_append.mp he with he | he
          · exact h3 e he hl
          · rw [List.mem_singleton.mp he]
            omega
    next hp =>
      refine ⟨by simp [ih1, hp, or_imp, forall_and], fun g hg => ?_⟩
      obtain ⟨h1, h2, h3⟩ := ih2 g hg
      refine ⟨by simp [h1], h2, fun e he hl => ?_⟩
      rcases List.mem_append.mp he with he | he
      · exact h3 e he hl
      · rw [List.mem_singleton.mp he] at hl
        exact absurd hl hp

/-- The entry of a station that a STATE makes is of that station. -/
theorem refreshed_addr (old : Peer) (src : Addr) (now : Nat) (p : List Byte) :
    (refreshed old (peerOf src now p)).addr = src := by
  unfold refreshed
  split <;> rfl

/-- A STATE is refused, or its station's entry stands last, after the entries of the others that stay. -/
theorem peerState_cases {P : State → Prop} {s : State} {src : Addr} {p : List Byte} (n : s.pt.entries.length ≤ 16)
    (full : P s.seeStranger)
    (same : ∀ old new, s.pt.entries.find? (fun e => e.addr = src) = some old → new = peerOf src s.now p →
      isEntryChange old new = false →
      P (s.setEntries (s.pt.entries.filter (fun e => e.addr ≠ src) ++ [refreshed old new])))
    (change : ∀ es new, es.Sublist s.pt.entries → es.length < 16 → (∀ e ∈ es, e.addr ≠ src) → new.addr = src →
      P (s.setEntries (es ++ [new])).entryChange) : P (s.peerState src p) := by
  unfold State.peerState
  dsimp only
  split
  next old ho =>
    have hl : (s.pt.entries.filter fun e => e.addr ≠ src).length < 16 := by
      refine Nat.lt_of_lt_of_le ?_ n
      refine List.length_filter_lt_length_iff_exists.mpr ⟨old, List.mem_of_find?_eq_some ho, ?_⟩
      simpa using List.find?_some ho
    split
    · exact change _ _ List.filter_sublist hl (by simp) (refreshed_addr old src s.now p)
    next hc => exact same old _ ho rfl (by simpa using hc)
  next hn =>
    have hsrc : ∀ e ∈ s.pt.entries, e.addr ≠ src := by simpa using hn
    split
    next hr => exact change _ _ (.refl _) hr hsrc rfl
    · split
      next gone hg =>
        refine change _ _ List.filter_sublist ?_ (fun e he => hsrc e (List.mem_of_mem_filter he)) rfl
        refine Nat.lt_of_lt_of_le ?_ n
        refine List.length_filter_lt_length_iff_exists.mpr ⟨gone, ?_, by simp⟩
        exact ((longestSilent_spec _).2 gone hg).1
      · exact full

/-! ### Requests and unit events that touch the units alone -/

theorem units_requestGroup (s : State) {fn : ChFn} {f : Channel → Channel} (o : Operate) (r : Option Requester) (hn : fn ≠ .none)
    (hf : ∀ c : Channel, (f c).body = c.body) : ∃ t c, UnitsAlone s t ∧ s.requestGroup fn f o r = t.reply r c := by
  refine ⟨_, _, units_onGroup s fn _ _ fun c e => ?_, rfl⟩
  split
  · exact .refl c
  · exact .of_fn (e ▸ hn) (hf c)

theorem units_offGroup (s : State) (fn : ChFn) (o : Operate) (r : Option Requester) :
    ∃ t c, UnitsAlone s t ∧ s.offGroup fn o r = t.reply r c := by
  refine ⟨_, _, units_onGroup s fn _ _ fun c _ => ?_, rfl⟩
  split
  next hs =>
    have hb : c ≠ Channel.blank := fun e => by rw [e] at hs; cases hs
    unfold Channel.clearFault
    rw [if_pos hs]
    exact ⟨rfl, rfl, .inl, .inr rfl, fun e => absurd e hb⟩
  · exact .of_body (Channel.endRequest_body _ _) fun e => by rw [e]; rfl

/-- A request that is not for a drive or for the node changes the units alone and is answered. -/
theorem serves_cases {Q : State → Prop} {s : State} {r : Option Requester} {u : State} (v : Serves s r u)
    (units : ∀ t c, UnitsAlone s t → Q (t.reply r c)) (moves : ∀ fn act, Q (s.moveDrives fn act r))
    (stores : Q (s.nodeStore r)) (restarts : Q (s.nodeRestart r)) : Q u := by
  have n : ∀ {fn : ChFn} {c : Channel}, fn ≠ .none → c.fn = fn → c.fn ≠ .none := fun h e => e ▸ h
  cases v with
  | reply c => exact units s c (.refl s)
  | requestGroup fn f o hfn hf =>
    have hn : fn ≠ .none := by rcases hfn with rfl | rfl <;> simp
    obtain ⟨t, c, g, e⟩ := units_requestGroup s o r (f := f) hn fun c => by
      simp only [List.mem_cons, List.not_mem_nil, or_false] at hf
      rcases hf with rfl | rfl | rfl | rfl | rfl <;> simp
    rw [e]
    exact units t c g
  | offGroup fn o =>
    obtain ⟨t, c, g, e⟩ := units_offGroup s fn o r
    rw [e]
    exact units t c g
  | pumpOn =>
    unfold State.pumpOn
    split
    · exact units s _ (.refl s)
    · split
      · exact units s _ (.refl s)
      · exact units _ _ (units_onFunction s .pump _ fun c e => .of_fn (n (by simp) e) (c.requestOn_body _))
  | pumpOff =>
    refine units _ _ (units_onFunction s .pump _ fun c e => ?_)
    split
    · exact c.ordinary_clearFault (n (by simp) e) c.clearFault.givenClass
    · exact .of_fn (n (by simp) e) rfl
  | heaterOn =>
    unfold State.heaterOn
    split
    · exact units s _ (.refl s)
    · exact units _ _ (units_onHeating s _)
  | heaterOff =>
    have u1 := units_onHeating s fun h => { h with heaterEnabled := false, normalDemand := false }
    refine units _ _ ((u1.trans (units_onBurnerAndFan _ _ fun c e => ?_)).trans (units_heatingDisabled _))
    have hc := Channel.fn_ne_none_of_heater e
    unfold Channel.heaterClears
    split
    · split
      · exact ⟨rfl, rfl, .inl, .inr rfl, fun x => absurd x (Channel.ne_blank hc)⟩
      · exact c.ordinary_clearFault hc none
    · exact .refl c
  | heaterSet x => exact units _ _ (units_onHeating s _)
  | heaterFrostHold x =>
    unfold State.heaterFrostHold
    split
    · exact units _ _ ((units_onHeating s _).trans (units_heatingDisabled _))
    · exact units _ _ (units_onHeating s _)
  | dumpReset =>
    unfold State.dumpReset
    split
    · exact units s _ (.refl s)
    · split
      · exact units s _ (.refl s)
      · split
        · exact units _ _ (units_onWater s _)
        · exact units s _ (.refl s)
  | resetVolume => exact units _ _ (units_onWater s _)
  | moveDrives fn act => exact moves fn act
  | nodeStore => exact stores
  | nodeRestart => exact restarts

theorem UnitEvent.alone {s u : State} (v : UnitEvent s u) : UnitsAlone s u := by
  cases v with
  | endTimer ch ht =>
    have u1 := units_endTimer s ch
    split
    next hf =>
      refine u1.trans (units_endValveRun _ ch (Channel.ne_blank ?_))
      rw [(u1.channels ch).fn, hf]
      simp
    next => exact u1.trans (units_stopRunOn _)
    all_goals exact u1
  | cyclePhase ch ht =>
    exact units_onChannel s ch _ (.of_body (Channel.nextPhase_body _ _) fun e => absurd (congrArg Channel.cycleTimer e) ht)
  | trip ch hd =>
    have u1 := units_onChannel s ch (Channel.trip s.now) (Channel.ordinary_trip _ _ fun e => by
      rw [e] at hd; exact absurd hd (by decide))
    split
    · exact u1.trans (units_afterFault _ ch)
    · exact u1
  | cooldownEnd ch ht =>
    exact units_onChannel s ch _ ⟨rfl, rfl, .inl, .inr rfl, fun e => absurd (congrArg Channel.cooldown e) ht⟩
  | fadeStep ch ht =>
    exact units_onChannel s ch _ (.of_body (Channel.stepFade_body _ _) fun e => absurd (congrArg Channel.fadeTimer e) ht)
  | wfEvaluation _ => exact units_waterEvaluates s
  | dryTimer ch ht =>
    exact units_onChannel s ch _ (Channel.ordinary_enterFault _ fun e => absurd (congrArg Channel.dry e) ht)
  | dump => exact units_dump s
  | htEvaluation x _ _ => exact (units_onHeating s _).trans (units_heatingEvaluates _)
  | minimumOnEnd => exact units_onHeating s _
  | burnerOut _ => exact (units_onHeating s _).trans (units_burnerOff _)
  | restEnd _ => exact (units_onHeating s _).trans (units_tryFire _)

/-! ### The kinds of change -/

/-- `P` is kept by the units, the inputs and the sample, and does not look at the view. -/
structure UnitKeeps (P : State → Prop) : Prop extends WakeKeeps P where
  units : ∀ s t, UnitsAlone s t → P s → P t := by intros; assumption
  inputs : ∀ s g v f, P s → P { s with gust := g, trv := v, sfe := f } := by intros; assumption
  view : ∀ s v, P s → P { s with interlock := v } := by intros; assumption
  charge : ∀ s shunt vbat, s.life.active = true → s.isBattery = true → P s → P (s.ccTakes shunt vbat)
  chargePeriod : ∀ s x y, P s → P { s with cc := { s.cc with sent := x, period := y } } := by intros; assumption

/-- The entry to COMMISSIONING up to its interlock event. -/
def State.commissioningUnits (an : Analog) (shunt vbat : Int) (s : State) : State :=
  let s1 := s.changeLife .commissioning
  let s2 := { s1 with
    nc := { s1.nc with closing := some (s.now + Config.closingMs), limit := some (s.now + Config.limitMs) }
    gust := { s1.gust with windowEnd := some (s.now + Config.gustWindowMs) } }
  ((s2.takeSample an).startCharge shunt vbat).waterEvaluates.formMeasureList.raiseUrgent

theorem State.enterCommissioning_eq (an : Analog) (shunt vbat : Int) (s : State) :
    s.enterCommissioning an shunt vbat = (s.commissioningUnits an shunt vbat).interlockEvent := rfl

namespace UnitKeeps
variable {P : State → Prop} (k : UnitKeeps P) {s : State}
include k

theorem inputEvent (g : GustDetector) (v : TravelLine) (f : SensorFrontEnd) (h : P s) :
    P ({ s with gust := g, trv := v, sfe := f } : State).interlockEvent :=
  k.toWakeKeeps.interlockEvent k.view (k.inputs s g v f h)

theorem startCharge (shunt vbat : Int) (hl : s.life.active = true) (h : P s) : P (s.startCharge shunt vbat) := by
  unfold State.startCharge
  split
  next hb => exact k.chargePeriod _ _ _ (k.charge s shunt vbat hl hb h)
  · exact h

theorem takeSample (an : Analog) (h : P s) : P (s.takeSample an) := k.inputs s s.gust s.trv _ h

theorem formMeasureList (h : P s) : P s.formMeasureList := k.inputs s s.gust s.trv _ h

/-- The units at the entry to COMMISSIONING, once the life state and the timers of the window are in place. -/
theorem commissioningUnits (an : Analog) (shunt vbat : Int)
    (h : P { s.changeLife .commissioning with
      nc := { (s.changeLife .commissioning).nc with
        closing := some (s.now + Config.closingMs), limit := some (s.now + Config.limitMs) }
      gust := { (s.changeLife .commissioning).gust with windowEnd := some (s.now + Config.gustWindowMs) } }) :
    P (s.commissioningUnits an shunt vbat) := by
  unfold State.commissioningUnits
  dsimp only
  refine k.onCauses _ (k.formMeasureList (k.units _ _ (units_waterEvaluates _)
    (k.startCharge shunt vbat ?_ (k.takeSample an h))))
  obtain ⟨sv, p, e⟩ := State.changeLife_eq .commissioning s
  rw [e]
  rfl

theorem enterCommissioning (an : Analog) (shunt vbat : Int)
    (h : P { s.changeLife .commissioning with
      nc := { (s.changeLife .commissioning).nc with
        closing := some (s.now + Config.closingMs), limit := some (s.now + Config.limitMs) }
      gust := { (s.changeLife .commissioning).gust with windowEnd := some (s.now + Config.gustWindowMs) } }) :
    P (s.enterCommissioning an shunt vbat) :=
  k.toWakeKeeps.interlockEvent k.view (k.commissioningUnits an shunt vbat h)

end UnitKeeps

/-- `P` does not look at the Peer Table either. -/
structure PeerKeeps (P : State → Prop) : Prop extends UnitKeeps P where
  peers : ∀ s x, P s → P { s with pt := x } := by intros; assumption

namespace PeerKeeps
variable {P : State → Prop} (k : PeerKeeps P) {s : State}
include k

theorem trigger (h : P s) : P s.trigger := k.grants s s.lb.grants h

theorem entryChange (h : P s) : P s.entryChange := k.toWakeKeeps.interlockEvent k.view (k.trigger h)

theorem setEntries (es : List Peer) (h : P s) : P (s.setEntries es) := k.peers s _ h

theorem peerState (src : Addr) (p : List Byte) (h : P s) : P (s.peerState src p) := by
  unfold State.peerState
  dsimp only
  split
  · split
    · exact k.entryChange (k.setEntries _ h)
    · exact k.setEntries _ h
  · split
    · exact k.entryChange (k.setEntries _ h)
    · split
      · exact k.entryChange (k.setEntries _ h)
      · unfold State.seeStranger
        dsimp only
        split
        · exact k.peers s _ h
        · exact k.trigger (k.peers s _ h)

theorem linkRecord (p : List Byte) (h : P s) : P (s.applyLink p) := by
  unfold State.applyLink
  dsimp only
  split
  · exact k.peers s _ h
  · exact k.trigger (k.peers s _ h)

theorem ages (a : Addr) (st : PeerStatus) (h : P s) :
    P ((s.setEntries (onEntry a (fun e => { e with status := st }) s.pt.entries)).entryChange) :=
  k.entryChange (k.setEntries _ h)

end PeerKeeps

/-- `P` does not look at the Link Controller, the queue or what Node Control holds beside the life state either. -/
structure PlainKeeps (P : State → Prop) : Prop extends PeerKeeps P where
  link : ∀ s x, P s → P { s with lc := x } := by intros; assumption
  flagsWord : ∀ s x, P s → P { s with nc := { s.nc with flags := x } } := by intros; assumption
  dispatcher : ∀ s x, P s → P { s with od := x } := by intros; assumption

namespace PlainKeeps
variable {P : State → Prop} (k : PlainKeeps P) {s : State}
include k

theorem syncFlags (h : P s) : P s.syncFlags := by
  unfold State.syncFlags
  split
  · exact h
  · exact k.onCauses _ (k.flagsWord s _ h)

theorem island (f : LinkController → LinkController) (h : P s) : P (islandEvent s (s.onLink f)) :=
  islandEvent_cases (k.link s _ h) (k.trigger (k.link s _ h))

theorem bitError (f : LinkController → LinkController) (g : Causes → Causes) (h : P s) :
    P (islandEvent s ((s.onLink f).onCauses g)) :=
  islandEvent_cases (k.onCauses g (k.link s _ h)) (k.trigger (k.onCauses g (k.link s _ h)))

theorem enqueue (e : Entry) (h : P s) : P (s.enqueue e) := by
  unfold State.enqueue
  split
  · dsimp only
    split
    · exact k.link _ _ (k.dispatcher s _ h)
    · exact k.dispatcher s _ h
  · exact k.dispatcher s _ h

end PlainKeeps

/-- A change of the Link Controller after which the node sends only what it sent before, but where its life state lets it send. -/
def SendsNoMore (f : LinkController → LinkController) (s : State) : Prop :=
  s.life.drivesSlots = true ∨ ∀ v, (f s.lc).service = some v → s.lc.service = some v ∨ v.sending = false

theorem SendsNoMore.of_service {f : LinkController → LinkController} {s : State} (h : (f s.lc).service = s.lc.service) :
    SendsNoMore f s := .inr fun _ e => .inl (h ▸ e)

theorem SendsNoMore.of_none {f : LinkController → LinkController} {s : State} (h : (f s.lc).service = none) :
    SendsNoMore f s := .inr fun v e => (by rw [h] at e; cases e)

/-- `P` is kept by every kind of change that an event brings. -/
structure EventKeeps (P : State → Prop) : Prop extends WakeKeeps P where
  clock : ∀ s n, P s → P { s with now := n } := by intros; assumption
  commands : ∀ s l, P s → P { s with pending := l } := by intros; assumption
  cold : ∀ s, P s → P s.coldReset
  warm : ∀ s, P s → P s.warmReset
  cause : ∀ s c, s.life = .reset → P s → P (s.endCause c)
  leaves : ∀ s, s.life = .reset → P s → P s.enterStrapRead
  restart : ∀ s, P s → P s.restart
  flags : ∀ s, P s → P s.syncFlags
  life : ∀ s, s.life.active = true → P s → P (s.changeLife .run)
  listens : ∀ s, s.life.active = true → P s → P (s.changeLife .listenOnly).stopSending
  dormant : ∀ s, s.life = .run → s.driveBusy = false → P s → P (s.changeLife .dormant)
  units : ∀ s t, UnitsAlone s t → P s → P t := by intros; assumption
  inputs : ∀ s g v f, ({ s with gust := g, trv := v, sfe := f } : State).interlockNow = s.interlockNow → P s →
    P { s with gust := g, trv := v, sfe := f } := by intros; assumption
  inputEvent : ∀ s g v f, P s → P ({ s with gust := g, trv := v, sfe := f } : State).interlockEvent
  role : ∀ s a r an shunt vbat, s.life = .strapRead → P s → P ((s.takeRole a r).enterCommissioning an shunt vbat)
  strapFault : ∀ s, s.life = .strapRead → P s → P s.enterStrapFault
  window : ∀ s x y, s.life = .commissioning → P s → P { s with
    nc := { s.nc with closing := x, limit := y }
    od := { s.od with inHand := none, iq := dropSettings s.od.iq } }
  closing : ∀ s, P s → P s.moveClosing := by intros; assumption
  started : ∀ s, s.life.operating = true → P s → P { s with nc := { s.nc with started := true } } := by
    intros; assumption
  receiver : ∀ s f, SendsNoMore f s → (f s.lc).linkFault = s.lc.linkFault → (f s.lc).alone = s.lc.alone → P s → P (s.onLink f) := by
    intros; assumption
  island : ∀ s f, SendsNoMore f s → P s → P (islandEvent s (s.onLink f))
  bitError : ∀ s f g, SendsNoMore f s → P s → P (islandEvent s ((s.onLink f).onCauses g))
  charge : ∀ s shunt vbat, s.life.active = true → s.isBattery = true → P s → P (s.ccTakes shunt vbat)
  chargePeriod : ∀ s x y, P s → P { s with cc := { s.cc with sent := x, period := y } } := by intros; assumption
  batteryA : ∀ s p, s.life = .commissioning → P s → P { s with cc := s.cc.takeA p } := by intros; assumption
  batteryV : ∀ s p, s.life = .commissioning → P s → P { s with cc := s.cc.takeV p } := by intros; assumption
  clashed : ∀ s, P s → P { s with pt := { s.pt with clash := true } } := by intros; assumption
  peerState : ∀ s src p, s.life.active = true → s.ownAddr ≠ some src → P s → P (s.peerState src p)
  cabins : ∀ s es, es.map (fun e : Peer => { e with cabin := none }) =
    s.pt.entries.map (fun e : Peer => { e with cabin := none }) → P s → P (s.setEntries es)
  candidates : ∀ s cs, P s → P (s.takeCandidates cs)
  ages : ∀ s a st, P s → P ((s.setEntries (onEntry a (fun e => { e with status := st }) s.pt.entries)).entryChange)
  stranger : ∀ s, P s → P (s.onPeers fun t => { t with stranger := none }).trigger := by intros; assumption
  linkRecord : ∀ s p, s.life = .commissioning → P s → P (s.applyLink p)
  holdoff : ∀ s, s.lb.holdoff ≠ none → P s →
    P ({ s with lb := { s.lb with s := s.lb.s.up, holdoff := none } } : State).trigger := by intros; assumption
  pop : ∀ s, P s → P s.popEntry
  enqueue : ∀ s e, P s → P (s.enqueue e)
  inHand : ∀ s x, P s → P (s.setInHand x) := by intros; assumption
  answerGone : ∀ s a l, s.ts.fifo = a :: l → P s → P { s with ts := { s.ts with fifo := l } }
  requests : ∀ s x y, s.life.operating = true → P s →
    P { s with od := { s.od with storePending := x, restartPending := y } } := by intros; assumption
  channelRecord : ∀ s i p, s.life = .commissioning → P s → P (s.onChannel i (Channel.takeRecord p))

/-! ### Changes of life state and of the units -/

theorem active_of_operating {l : LifeState} (h : l.operating = true) : l.active = true := by
  revert h
  cases l <;> decide

namespace EventKeeps
variable {P : State → Prop} (k : EventKeeps P) {s : State}
include k

theorem startUnits (hl : s.life.operating = true) (h : P s) : P s.startUnits :=
  k.units _ _ (units_heatingEvaluates _) (k.units _ _ (units_onHeating _ _) (k.started s hl h))

theorem enterListenOnly (hl : s.life.active = true) (h : P s) : P s.enterListenOnly := by
  have hn : ((s.changeLife .listenOnly).stopSending.stopMeasurePeriod.clearStore).life = .listenOnly := by
    have := State.changeLife_life .listenOnly s
    unfold State.stopSending
    split <;> exact this
  unfold State.enterListenOnly
  split
  · exact k.restart s h
  · have g := k.store _ (k.stopMeasurePeriod (k.listens s hl h))
    dsimp only
    refine k.evaluateBothForced ?_
    split
    · exact g
    · exact k.startUnits (by rw [hn]; rfl) g

theorem enterRun (hl : s.life.active = true) (h : P s) : P s.enterRun := by
  refine k.evaluateBothForced (k.startUnits ?_ (k.startMeasurePeriod (k.life s hl h)))
  exact congrArg LifeState.operating (State.changeLife_life .run s)

theorem endWindow (hl : s.life = .commissioning) (h : P s) : P s.endWindow := by
  have g := k.window s none none hl h
  have ha : s.life.active = true := by rw [hl]; rfl
  unfold State.endWindow
  dsimp only
  split
  · exact k.enterListenOnly ha g
  · exact k.enterRun ha g

theorem clash (hl : s.life.active = true) (h : P s) : P s.clash := by
  unfold State.clash
  dsimp only
  split
  · exact k.enterListenOnly hl (k.clashed s h)
  · exact k.enterListenOnly hl (k.clashed s h)
  · exact k.clashed s h

theorem enterDormant (hl : s.life = .run) (hb : s.driveBusy = false) (h : P s) : P s.enterDormant := by
  have hd := State.changeLife_life .dormant s
  have g := k.onCauses (fun c => { c with measureDue := false }) (k.stopMeasurePeriod (k.dormant s hl hb h))
  have u1 := units_onFunction ((s.changeLife .dormant).stopMeasurePeriod.onCauses fun c => { c with measureDue := false })
    .pump Channel.requestOff fun c h => .of_fn (by simp [h]) rfl
  have u2 := units_onHeating (State.onFunction .pump Channel.requestOff
    ((s.changeLife .dormant).stopMeasurePeriod.onCauses fun c => { c with measureDue := false }))
    fun h => { h with normalDemand := false }
  have u := (u1.trans u2).trans (units_heatingDisabled _)
  have g := k.flags _ (k.units _ _ u g)
  unfold State.enterDormant
  dsimp only
  split
  · refine k.wake _ ?_ g
    unfold State.syncFlags
    split <;> exact u.life.trans hd
  · exact g

theorem answerLeaves (h : P s) : P s.answerLeaves := by
  unfold State.answerLeaves
  split
  · exact h
  next a l hf =>
    have g := k.answerGone s a l hf h
    dsimp only
    split
    · exact g
    · split
      · split
        next hc => exact k.enterDormant hc.1 (by simpa using hc.2) (k.store _ g)
        · exact k.store _ g
      · exact g
    · split
      · exact k.restart _ g
      · exact g

theorem causeCompletes (v : Service) (h : P s) : P (s.causeCompletes v) := by
  unfold State.causeCompletes
  split
  · exact h
  · exact k.chargePeriod s _ _ h
  · exact k.scheduler s { s.ts with statePeriod := _, spacing := _, hello := _ } rfl h
  · exact k.answerLeaves h
  · exact k.inputs s s.gust s.trv s.sfe.advance rfl h

/-! ### Requests -/

theorem nodeStore (r : Option Requester) (hl : s.life.operating = true) (h : P s) : P (s.nodeStore r) := by
  unfold State.nodeStore
  split
  · split
    · exact k.reply _ _ h
    · exact k.placeAnswer _ (k.requests s true _ hl h)
  next hr =>
    split
    · exact h
    next hb => exact k.enterDormant hr (by simpa using hb) h
  · exact k.reply _ _ h
  · exact h

theorem nodeRestart (r : Option Requester) (hl : s.life.operating = true) (h : P s) : P (s.nodeRestart r) := by
  unfold State.nodeRestart
  split
  · exact k.placeAnswer _ (k.requests s _ true hl h)
  · exact k.restart s h
  · exact k.restart s h
  · exact k.restart s h
  · exact h

theorem serves {r : Option Requester} {u : State} (hl : s.life.operating = true) (v : Serves s r u) (h : P s) : P u :=
  serves_cases v (fun _ c g => k.reply r c (k.units _ _ g h)) (fun fn act => k.moveDrives fn act r hl h)
    (k.nodeStore r hl h) (k.nodeRestart r hl h)

/-! ### Records -/

theorem formMeasureList (h : P s) : P s.formMeasureList := k.inputs s s.gust s.trv _ rfl h

theorem applyRoute (p : List Byte) (h : P s) : P (s.applyRoute p) := by
  unfold State.applyRoute State.moveSpeed
  dsimp only
  split
  · exact k.inputEvent s s.gust s.trv _ h
  · exact k.inputEvent s s.gust s.trv _ h

theorem applies {p : List Byte} {u : State} (hl : s.life = .commissioning) (v : Applies s p u) (h : P s) : P u := by
  cases v with
  | channel => exact k.formMeasureList (k.channelRecord s _ p hl h)
  | driveFunction => exact k.formMeasureList (k.onDrive _ _ (.function _ hl) h)
  | drive => exact k.formMeasureList (k.onDrive _ _ (.record p hl) h)
  | route => exact k.applyRoute p h
  | trv => exact k.inputs s s.gust _ s.sfe rfl h
  | frost => exact k.units _ _ (units_onWater s _) h
  | water => exact k.units _ _ (units_onWater s _) h
  | heat => exact k.units _ _ (units_onHeating s _) h
  | wind => exact k.inputs s _ s.trv s.sfe rfl h
  | batteryA => exact k.batteryA s p hl h
  | batteryV => exact k.batteryV s p hl h
  | link => exact k.linkRecord s p hl h
  | curve => exact k.units _ _ (.of_sw rfl rfl) h
  | scene => exact k.units _ _ (.of_sw rfl rfl) h

/-! ### Telegrams -/

theorem driveHeard (h : P s) : P s.driveHeard :=
  k.receiver s (fun l => { l with heardSlot := s.life.drivesSlots }) (.of_service rfl) rfl rfl h

theorem driveTaken (h : P s) : P s.driveTaken :=
  k.receiver s (fun l => { l with takenSlot := s.life.drivesSlots }) (.of_service rfl) rfl rfl h

end EventKeeps

theorem takeReading_cabin (now : Nat) (l : List (Nat × Int)) (e : Peer) :
    { l.foldl (Peer.takeReading now) e with cabin := none } = { e with cabin := none } := by
  induction l generalizing e with
  | nil => rfl
  | cons r l ih =>
    rw [List.foldl_cons, ih]
    unfold Peer.takeReading
    split <;> rfl

theorem onEntry_cabin (a : Addr) (f : Peer → Peer) (hf : ∀ e, { f e with cabin := none } = { e with cabin := none })
    (es : List Peer) :
    (onEntry a f es).map (fun e : Peer => { e with cabin := none }) = es.map (fun e : Peer => { e with cabin := none }) := by
  unfold onEntry
  rw [List.map_map]
  refine List.map_congr_left fun e _ => ?_
  dsimp only [Function.comp]
  split
  · exact hf e
  · rfl

theorem operating_of_canTake {s : State} {e : Entry} (h : s.canTake e = true) : s.life.operating = true := by
  unfold State.canTake takesOperate at h
  cases hl : s.life <;> simp_all [LifeState.operating]

theorem active_of_receivable {s : State} (h : s.receivable = true) : s.life.active = true := by
  unfold State.receivable at h
  simp only [Bool.and_eq_true] at h
  exact h.1.1.1

namespace EventKeeps
variable {P : State → Prop} (k : EventKeeps P) {s : State}
include k

theorem hears {src : Addr} {b : Bool} {p : List Byte} {u : State} (hl : s.life.active = true)
    (hs : s.ownAddr ≠ some src) (v : Hears s src b p u) (h : P s) : P u := by
  cases v with
  | nothing => exact h
  | state => exact k.peerState s src p hl hs h
  | battery => exact k.candidates s _ h
  | measure => exact k.cabins s _ (onEntry_cabin _ _ (takeReading_cabin _ _) _) h
  | scene n _ => exact k.units _ _ (units_applyScene s n) h
  | wake => exact k.wakeCause false h
  | takenWake => exact k.wakeCause false (k.driveTaken h)
  | operate _ => exact k.enqueue s _ h
  | settings _ => exact k.enqueue s _ h

theorem ownDriveEvent (before : State) (h : P s.interlockEvent) : P (s.ownDriveEvent before) := by
  unfold State.ownDriveEvent
  dsimp only
  split
  · exact k.wakeCause true h
  · exact h

/-! ### Every event -/

theorem event {u : State} (v : Event s u) (h : P s) : P u := by
  cases v with
  | role a r an sh vb hl => exact k.role s a r an sh vb hl h
  | strapFault hl => exact k.strapFault s hl h
  | windowEnds hl => exact k.endWindow hl h
  | ccSample sh vb hl hb => exact k.charge s sh vb hl hb h
  | bitError sv f _ _ n => exact k.bitError s f _ (.of_none n) h
  | outcome sv f _ _ n => exact k.causeCompletes sv (k.island s f (.of_none n) h)
  | clash hr =>
    have hl := active_of_receivable hr
    exact k.clash (s := s.onLink LinkController.readTelegram) hl (k.receiver s _ (.of_service rfl) rfl rfl h)
  | telegram src b p u hr ho v =>
    have hl := active_of_receivable hr
    exact k.hears (s := (s.onLink LinkController.readTelegram).driveHeard) hl ho v
      (k.driveHeard (k.receiver s LinkController.readTelegram (.of_service rfl) rfl rfl h))
  | ages a p st _ => exact k.ages s a st h
  | strangerEnd => exact k.stranger s h
  | candidateEnd a c _ => exact k.candidates s _ h
  | holdoffEnd hh => exact k.holdoff s hh h
  | stall i ht => exact k.wakeForForced _ (k.evaluateForced i (k.onDrive i _ (.stalls ht) h))
  | jam i ht => exact k.onDrive i _ (.jams ht) h
  | brakeEnd i ht => exact k.wakeForForced _ (k.endBraking i ht h)
  | waitEnd i ht =>
    refine k.wakeForForced _ (k.returnToOrigin i ?_ (k.resolve i _ h))
    obtain ⟨sl, hsl⟩ := State.drive_resolve s i .refusedLowPower
    rw [hsl]
    exact ht
  | gustWindow _ => exact k.inputEvent s _ s.trv s.sfe h
  | lockoutEnd => exact k.inputEvent s _ s.trv s.sfe h
  | trvReleased _ => exact k.inputEvent s s.gust _ s.sfe h
  | trvAsserted _ => exact k.wakeCause false (k.inputEvent s s.gust _ s.sfe h)
  | speedTimeout => exact k.inputEvent s s.gust s.trv _ h
  | input i b _ => exact k.ownDriveEvent s (k.inputEvent s s.gust s.trv _ h)
  | speedPulse _ => exact k.ownDriveEvent s (k.inputEvent s s.gust s.trv _ h)
  | units u v => exact k.units _ _ v.alone h
  | request e u _ hc v => exact k.serves (s := s.popEntry) (operating_of_canTake hc) v (k.pop s h)
  | record p x u hl v => exact k.closing _ (k.applies (s := s.setInHand x) hl v (k.inHand s x h))
  | skip x _ => exact k.inHand s x h

/-! ### Every quiet change -/

theorem quietChange {t : State} (v : Quiet s t) (h : P s) : P t := by
  cases v with
  | coldReset => exact k.cold s h
  | warmReset => exact k.warm s h
  | causeEnds c hl => exact k.cause s c hl h
  | leavesReset c hl => exact k.leaves (s.endCause c) (by cases c <;> exact hl) (k.cause s c hl h)
  | batteryPeriod x => exact k.onCauses _ (k.chargePeriod s s.cc.sent x h)
  | receiver f hf => exact k.receiver s f (.of_service hf.1) hf.2.1 hf.2.2 h
  | latch f g hl h1 h2 => exact k.onCauses g (k.receiver s f (.inl hl) h1 h2 h)
  | withdraw f g hf => exact k.onCauses g (k.receiver s f (.inr fun v e => .inr (hf.1 v e)) hf.2.1 hf.2.2 h)
  | cabinExpiry a => exact k.cabins s _ (onEntry_cabin a (fun e => { e with cabin := none }) (fun _ => rfl) _) h
  | blankingEnd ch =>
    refine k.units _ _ (units_onChannel s ch _ ⟨rfl, rfl, .inl, .inr rfl, fun e => ?_⟩) h
    rw [e]; rfl
  | historyEnd ch =>
    refine k.units _ _ (units_onChannel s ch _ ⟨rfl, rfl, .inl, .inr rfl, fun e => ?_⟩) h
    rw [e]; rfl
  | openLoad ch hd =>
    refine k.units _ _ (units_onChannel s ch _ ⟨rfl, rfl, .inl, .inr rfl, fun e => ?_⟩) h
    rw [e] at hd
    exact absurd hd (by decide)
  | hallPulse i => exact k.onDrive i _ .pulse h
  | sample a => exact k.inputs s s.gust s.trv _ rfl h
  | anemometer => exact k.inputs s _ s.trv s.sfe rfl h
  | flowPulse =>
    exact k.units _ _ ((units_onWater s _).trans (units_onFunction _ .pump _ fun c e =>
      ⟨rfl, rfl, .inl, .inr rfl, fun x => absurd x (Channel.ne_blank (by simp [e]))⟩)) h
  | timers x hx _ => exact k.scheduler s x hx h

/-- Kept by events, and restored by `finish`. -/
theorem keptByEveryStep (hf : ∀ u, P u → P u.finish) : KeptByEveryStep P :=
  keptByEveryStep_of_cases k.clock k.commands (fun _ _ h v => k.quietChange v h) (fun _ _ h v => k.event v h) hf

end EventKeeps

end Sys2Proof.Machine
end

section
/-! PROOFS. O2: queues, Peer Table, charge count and drive positions stay in their bounds. -/

namespace Sys2Proof.Machine

/-! ### Queues -/

theorem dropSettings_length_le (l : List Entry) : (dropSettings l).length ≤ l.length := by
  induction l with
  | nil => exact le_rfl
  | cons e es ih =>
    unfold dropSettings
    split
    · exact le_rfl
    · exact ih.trans (Nat.le_succ _)

theorem takeSettings_length_le (s : State) : s.takeSettings.od.iq.length ≤ s.od.iq.length := by
  unfold State.takeSettings
  split
  · split
    next e es _ h =>
      rw [h]
      split
      · rw [h]
      · exact Nat.le_succ _
    · exact le_rfl
  · exact dropSettings_length_le _

theorem QueuesBounded.changeLife {s : State} (l : LifeState) (h : QueuesBounded s) : QueuesBounded (s.changeLife l) := by
  obtain ⟨sv, p, e⟩ := s.changeLife_eq l
  rw [e]
  exact h

theorem queues_unitKeeps : UnitKeeps QueuesBounded where
  place s l h g := by
    obtain ⟨h, a, rfl⟩ := h
    exact ⟨g.1, by simpa using h⟩
  wakes s _ h := h.changeLife _
  scheduler s x e h := ⟨h.1, by rw [e]; exact h.2⟩
  store s h := ⟨h.1, by simpa [State.clearStore] using h.2⟩
  units s t u h := by rw [u.rest]; exact h
  charge s _ _ _ _ h := by
    unfold State.ccTakes State.updateView
    dsimp only
    split <;> split <;> exact h
  drive s i d _ h := by cases i <;> exact h

theorem QueuesBounded.syncFlags {s : State} (h : QueuesBounded s) : QueuesBounded s.syncFlags := by
  unfold State.syncFlags
  split <;> exact h

theorem QueuesBounded.warmState {s : State} : QueuesBounded s.warmState := by simp [QueuesBounded, State.warmState, State.reset, Dispatcher.atReset, Scheduler.atReset]

theorem queues_eventKeeps : EventKeeps QueuesBounded where
  toWakeKeeps := queues_unitKeeps.toWakeKeeps
  cold s _ := by simp [QueuesBounded, State.coldReset, State.reset, Dispatcher.atReset, Scheduler.atReset]
  warm s h := by
    unfold State.warmReset
    split
    · exact h
    · exact QueuesBounded.warmState (s := s)
  cause s c _ h := by cases c <;> exact h
  leaves s _ h := h
  restart s _ := QueuesBounded.warmState (s := s)
  flags s h := h.syncFlags
  life s _ h := h.changeLife _
  listens s _ h := queues_unitKeeps.toWakeKeeps.stopSending (fun _ _ h => h) (h.changeLife _)
  dormant s _ _ h := h.changeLife _
  units := queues_unitKeeps.units
  inputEvent s g v f h := queues_unitKeeps.inputEvent g v f h
  role s a r an sh vb _ h := queues_unitKeeps.enterCommissioning an sh vb
    (QueuesBounded.changeLife (s := s.takeRole a r) .commissioning h)
  strapFault s _ h := h
  window s x y _ h := ⟨(dropSettings_length_le _).trans h.1, h.2⟩
  island s f _ h := islandEvent_cases (P := QueuesBounded) h h
  bitError s f g _ h := islandEvent_cases (P := QueuesBounded) h h
  charge := queues_unitKeeps.charge
  peerState s src p _ _ h := by
    have e : ∀ t : State, QueuesBounded t → QueuesBounded t.entryChange := fun t h =>
      queues_unitKeeps.toWakeKeeps.interlockEvent queues_unitKeeps.view (s := t.trigger) h
    unfold State.peerState
    dsimp only
    split
    · split
      · exact e _ h
      · exact h
    · split
      · exact e _ h
      · split
        · exact e _ h
        · unfold State.seeStranger
          dsimp only
          split <;> exact h
  cabins s es _ h := h
  candidates s cs h := by
    obtain ⟨c, x, v, p, b, e⟩ := s.takeCandidates_eq cs
    rw [e]
    exact h
  ages s a st h := queues_unitKeeps.toWakeKeeps.interlockEvent queues_unitKeeps.view (s := State.trigger _) h
  linkRecord s p _ h := by
    unfold State.applyLink
    dsimp only
    split <;> exact h
  pop s h := ⟨by simp [State.popEntry]; have := h.1; omega, h.2⟩
  enqueue s e h := by
    unfold State.enqueue
    split
    next hr =>
      have : s.od.iq.length < 6 := hr
      have g : QueuesBounded { s with od := { s.od with iq := s.od.iq ++ [e] } } := ⟨by simpa using this, h.2⟩
      dsimp only
      split <;> exact g
    · exact h
  answerGone s a l e h := by
    refine ⟨h.1, ?_⟩
    have := h.2
    rw [e, List.length_cons] at this
    exact (Nat.le_succ _).trans this
  channelRecord s i p _ h := h

theorem queues_finishKeeps : FinishKeeps QueuesBounded where
  toWakeKeeps := queues_unitKeeps.toWakeKeeps
  settings s h := by
    refine ⟨(takeSettings_length_le s).trans h.1, ?_⟩
    have e : s.takeSettings.ts = s.ts := by
      unfold State.takeSettings
      split
      · split
        · split <;> rfl
        · rfl
      · rfl
    rw [e]
    exact h.2
  overflow s h := by
    refine ⟨?_, h.2⟩
    unfold Dispatcher.clearOverflow
    dsimp only
    split <;> exact h.1
  locks s _ h := h
  channels s _ h := h
  heating s _ h := queues_unitKeeps.units _ _ (units_heatingReacts s) h
  flags s h := h.syncFlags

theorem queuesBounded_kept : KeptByEveryStep QueuesBounded :=
  queues_eventKeeps.keptByEveryStep fun _ h => queues_finishKeeps.finish h

/-! ### Peer Table -/

theorem PeersSound.of_eq {s t : State} (h : PeersSound s) (he : t.pt.entries = s.pt.entries)
    (ha : t.ownAddr = s.ownAddr) (hl : t.life.active = false → s.life.active = false) : PeersSound t := by
  obtain ⟨h1, h2, h3, h4⟩ := h
  unfold PeersSound
  rw [he, ha]
  exact ⟨h1, h2, h3, fun n => h4 (hl n)⟩

theorem PeersSound.empty {s : State} (h : s.pt.entries = []) : PeersSound s := by
  unfold PeersSound
  rw [h]
  simp

theorem PeersSound.changeLife {s : State} (l : LifeState) (h : PeersSound s)
    (hl : l.active = false → s.life.active = false) : PeersSound (s.changeLife l) := by
  obtain ⟨sv, p, e⟩ := s.changeLife_eq l
  refine h.of_eq (by rw [e]) (by rw [e]; rfl) ?_
  rw [s.changeLife_life]
  exact hl

theorem peers_unitKeeps : UnitKeeps PeersSound where
  drive s i d _ h := by cases i <;> exact h
  wakes s _ h := h.changeLife _ (by simp [LifeState.active])
  units s t u h := by rw [u.rest]; exact h
  charge s sh vb _ _ h := by
    obtain ⟨v, p, b, e⟩ := s.ccTakes_eq sh vb
    rw [e]
    exact h

theorem PeersSound.entryChange {s : State} (h : PeersSound s) : PeersSound s.entryChange :=
  peers_unitKeeps.toWakeKeeps.interlockEvent peers_unitKeeps.view (s := s.trigger) h

/-- Other entries of the same stations. -/
theorem PeersSound.setEntries {s : State} {es : List Peer} (h : PeersSound s)
    (e : es.map (·.addr) = s.pt.entries.map (·.addr)) : PeersSound (s.setEntries es) := by
  obtain ⟨h1, h2, h3, h4⟩ := h
  have len : es.length = s.pt.entries.length := by simpa using congrArg List.length e
  refine ⟨len ▸ h1, ?_, fun x hx => ?_, fun n => ?_⟩
  · show (es.map (·.addr)).Nodup
    rw [e]
    exact h2
  · have : x.addr ∈ s.pt.entries.map (·.addr) := e ▸ List.mem_map_of_mem hx
    obtain ⟨y, hy, hxy⟩ := List.mem_map.mp this
    rw [← hxy]
    exact h3 y hy
  · have := h4 n
    rw [this] at len
    exact List.length_eq_zero_iff.mp len

theorem onEntry_addr (a : Addr) (f : Peer → Peer) (hf : ∀ e, (f e).addr = e.addr) (es : List Peer) :
    (onEntry a f es).map (·.addr) = es.map (·.addr) := by
  unfold onEntry
  rw [List.map_map]
  refine List.map_congr_left fun e _ => ?_
  dsimp only [Function.comp]
  split
  · exact hf e
  · rfl

theorem PeersSound.takes {s : State} {es : List Peer} {new : Peer} (h : PeersSound s) (sub : es.Sublist s.pt.entries)
    (room : es.length < 16) (n : ∀ e ∈ es, e.addr ≠ new.addr) (own : s.ownAddr ≠ some new.addr)
    (hl : s.life.active = true) : PeersSound (s.setEntries (es ++ [new])) := by
  obtain ⟨-, h2, h3, -⟩ := h
  refine ⟨by simpa [State.setEntries, State.onPeers] using room, ?_, fun e he => ?_, fun x => ?_⟩
  · show ((es ++ [new]).map (·.addr)).Nodup
    rw [List.map_append, List.nodup_append]
    refine ⟨h2.sublist (sub.map _), by simp, ?_⟩
    simpa using n
  · rcases List.mem_append.mp he with he | he
    · exact h3 e (sub.subset he)
    · rw [List.mem_singleton.mp he]
      exact own
  · rw [show (s.setEntries (es ++ [new])).life = s.life from rfl, hl] at x
    cases x

theorem PeersSound.syncFlags {s : State} (h : PeersSound s) : PeersSound s.syncFlags := by
  unfold State.syncFlags
  split <;> exact h

theorem PeersSound.peerState {s : State} {src : Addr} {p : List Byte} (hl : s.life.active = true)
    (own : s.ownAddr ≠ some src) (h : PeersSound s) : PeersSound (s.peerState src p) := by
  refine peerState_cases h.1 ?_ (fun old new ho hn _ => ?_) fun es new sub room n e => ?_
  · unfold State.seeStranger
    dsimp only
    split <;> exact h
  · subst hn
    have e := refreshed_addr old src s.now p
    refine h.takes List.filter_sublist ?_ (by simp [e]) (by rwa [e]) hl
    refine Nat.lt_of_lt_of_le ?_ h.1
    exact List.length_filter_lt_length_iff_exists.mpr
      ⟨old, List.mem_of_find?_eq_some ho, by simpa using List.find?_some ho⟩
  · exact (h.takes sub room (by simpa [e] using n) (by rwa [e]) hl).entryChange

theorem peers_eventKeeps : EventKeeps PeersSound where
  toWakeKeeps := peers_unitKeeps.toWakeKeeps
  cold s _ := .empty rfl
  warm s h := by
    unfold State.warmReset
    split
    · exact h
    · exact .empty rfl
  cause s c _ h := by cases c <;> exact h
  leaves s hl h := h.of_eq rfl rfl fun _ => by rw [hl]; rfl
  restart s _ := .empty rfl
  flags s h := h.syncFlags
  life s _ h := h.changeLife _ (by simp [LifeState.active])
  listens s _ h := peers_unitKeeps.toWakeKeeps.stopSending (fun _ _ h => h) (h.changeLife _ (by simp [LifeState.active]))
  dormant s _ _ h := h.changeLife _ (by simp [LifeState.active])
  units := peers_unitKeeps.units
  inputEvent s g v f h := peers_unitKeeps.inputEvent g v f h
  role s a r an sh vb hl h := by
    have none : s.pt.entries = [] := h.2.2.2 (by rw [hl]; rfl)
    refine peers_unitKeeps.enterCommissioning an sh vb ?_
    obtain ⟨sv, p, e⟩ := (s.takeRole a r).changeLife_eq .commissioning
    rw [e]
    exact .empty none
  strapFault s hl h := .empty (h.2.2.2 (by rw [hl]; rfl))
  window s x y _ h := h
  island s f _ h := islandEvent_cases (P := PeersSound) h h
  bitError s f g _ h := islandEvent_cases (P := PeersSound) h h
  charge := peers_unitKeeps.charge
  peerState s src p hl own h := h.peerState hl own
  cabins s es e h := h.setEntries (by simpa [List.map_map, Function.comp_def] using congrArg (List.map (·.addr)) e)
  candidates s cs h := by
    obtain ⟨c, x, v, p, b, e⟩ := s.takeCandidates_eq cs
    rw [e]
    exact h
  ages s a st h := (h.setEntries (onEntry_addr a (fun e => { e with status := st }) (fun _ => rfl) _)).entryChange
  linkRecord s p _ h := by
    unfold State.applyLink
    dsimp only
    split <;> exact h
  pop s h := h
  enqueue s e h := by
    unfold State.enqueue
    split
    · dsimp only
      split <;> exact h
    · exact h
  answerGone s a l _ h := h
  channelRecord s i p _ h := h

theorem takeSettings_od (s : State) : ∃ d, s.takeSettings = { s with od := d } := by
  unfold State.takeSettings
  split
  · split
    · split
      · exact ⟨s.od, rfl⟩
      · exact ⟨_, rfl⟩
    · exact ⟨s.od, rfl⟩
  · exact ⟨_, rfl⟩

theorem peers_finishKeeps : FinishKeeps PeersSound where
  toWakeKeeps := peers_unitKeeps.toWakeKeeps
  settings s h := by
    obtain ⟨d, e⟩ := takeSettings_od s
    rw [e]
    exact h
  overflow s h := h
  locks s _ h := h
  channels s _ h := h
  heating s _ h := peers_unitKeeps.units _ _ (units_heatingReacts s) h
  flags s h := h.syncFlags

theorem peersSound_kept : KeptByEveryStep PeersSound :=
  peers_eventKeeps.keptByEveryStep fun _ h => peers_finishKeeps.finish h

/-! ### Charge count -/

theorem CountSound.of_eq {c d : ChargeCounter} (h : CountSound c) (hp : d.params = c.params) (hc : d.count = c.count) :
    CountSound d := by
  unfold CountSound
  rw [hp, hc]
  exact h

theorem CountSound.none {c : ChargeCounter} (h : c.count = none) : CountSound c := by
  unfold CountSound
  rw [h]
  intro n e
  cases e

theorem CountSound.some {c : ChargeCounter} {n : Count} (h : c.count = some n) (hq : n.q ≤ c.params.qFull) (hf : n.f < 100)
    (hc : n.capacity = c.params.cNom) : CountSound c := by
  unfold CountSound
  rw [h]
  rintro m ⟨⟩
  exact ⟨hq, hf, hc⟩

theorem CcParams.socEstimate_le (p : CcParams) (v : Nat) : p.socEstimate v ≤ 100 := by
  unfold CcParams.socEstimate clampInt
  omega

theorem CountSound.estimate (c : ChargeCounter) : CountSound c.estimate := by
  refine .some rfl ?_ (by simp) rfl
  have := c.params.socEstimate_le c.v
  calc c.params.qFull * c.params.socEstimate c.v / 100
      ≤ c.params.qFull * 100 / 100 := Nat.div_le_div_right (Nat.mul_le_mul_left _ this)
    _ = c.params.qFull := by omega

theorem CountSound.charge {c : ChargeCounter} {n : Count} (hn : c.count = Option.some n) (h : CountSound c) :
    CountSound (c.charge n) := by
  obtain ⟨hq, hf, hc⟩ := h n hn
  unfold ChargeCounter.charge
  dsimp only
  split
  · split
    · exact .some rfl le_rfl (by simp) hc
    next hle => exact .some rfl (Nat.le_of_not_lt hle) (Nat.mod_lt _ (by simp)) hc
  next hi =>
    split
    · exact .some rfl (Nat.zero_le _) hf hc
    · exact .some rfl (by show ((n.q : Int) + c.iS).toNat ≤ c.params.qFull; omega) hf hc

theorem CountSound.update {c : ChargeCounter} (h : CountSound c) : CountSound c.update := by
  unfold ChargeCounter.update
  split
  · exact .estimate _
  next n hn => exact h.charge hn

/-- The runs of CUT touch CUT and themselves alone. -/
theorem ChargeCounter.advanceCut_eq (c : ChargeCounter) :
    ∃ cut clear run, c.advanceCut = { c with cut := cut, clearRun := clear, cutRun := run } := by
  unfold ChargeCounter.advanceCut
  generalize (if c.params.vCut + 400 ≤ c.v then c.clearRun + 1 else 0) = clear
  generalize (if c.v < c.params.vCut then c.cutRun + 1 else 0) = run
  dsimp only
  split
  · split
    · exact ⟨false, 0, 0, rfl⟩
    · exact ⟨c.cut, clear, 0, rfl⟩
  · split
    · exact ⟨true, 0, 0, rfl⟩
    · exact ⟨c.cut, 0, run, rfl⟩

theorem CountSound.advanceCut {c : ChargeCounter} (h : CountSound c) : CountSound c.advanceCut := by
  obtain ⟨_, _, _, e⟩ := c.advanceCut_eq
  exact h.of_eq (by rw [e]) (by rw [e])

theorem CountSound.advanceSync {c : ChargeCounter} (h : CountSound c) : CountSound c.advanceSync := by
  unfold ChargeCounter.advanceSync
  generalize (if c.params.vFull ≤ c.v ∧ 0 ≤ c.iS ∧ c.iS ≤ c.params.iTail then c.syncRun + 1 else 0) = run
  dsimp only
  split
  · intro m hm
    obtain ⟨n, hn, rfl⟩ := Option.map_eq_some_iff.mp hm
    exact ⟨Nat.le_refl c.params.qFull, by simp, (h n hn).2.2⟩
  · exact h

theorem CountSound.take {c : ChargeCounter} (shunt vbat : Int) (tb : Option Int) (h : CountSound c) :
    CountSound (c.take shunt vbat tb) := h.of_eq rfl rfl

theorem CountSound.enterRing {c : ChargeCounter} (h : CountSound c) : CountSound c.enterRing := h.of_eq rfl rfl

theorem CountSound.results {c : ChargeCounter} (h : CountSound c) : CountSound c.results := by
  unfold ChargeCounter.results
  split
  · exact h
  · exact h.of_eq rfl rfl

theorem CountSound.handOn {c : ChargeCounter} (h : CountSound c) : CountSound c.handOn := h.of_eq rfl rfl

theorem CountSound.sample {c : ChargeCounter} (shunt vbat : Int) (tb : Option Int) (h : CountSound c) :
    CountSound (c.sample shunt vbat tb) :=
  (h.take shunt vbat tb).update.enterRing.advanceCut.advanceSync.results.handOn

theorem Count.rescale_le {n : Count} {cap : Nat} (h : n.q ≤ n.capacity * 3600000) :
    (n.rescale cap).q ≤ cap * 3600000 := by
  have : n.q * cap ≤ n.capacity * (cap * 3600000) := by
    calc n.q * cap ≤ n.capacity * 3600000 * cap := Nat.mul_le_mul_right _ h
      _ = n.capacity * (cap * 3600000) := by ring
  exact Nat.div_le_of_le_mul this

theorem CountSound.warm {c : ChargeCounter} (h : CountSound c) : CountSound c.warm := by
  intro m hm
  obtain ⟨n, hn, rfl⟩ := Option.map_eq_some_iff.mp hm
  obtain ⟨hq, hf, hc⟩ := h n hn
  exact ⟨Count.rescale_le (by rwa [hc]), hf, rfl⟩

theorem CountSound.takeA {c : ChargeCounter} (p : List Byte) (h : CountSound c) : CountSound (c.takeA p) := by
  intro m hm
  obtain ⟨n, hn, rfl⟩ := Option.map_eq_some_iff.mp hm
  obtain ⟨hq, hf, hc⟩ := h n hn
  have hq : n.q ≤ n.capacity * 3600000 := by rwa [hc]
  split
  next e => exact ⟨by unfold CcParams.qFull; rw [← show n.capacity = (c.takeA p).params.cNom from e]; exact hq, hf, e⟩
  · exact ⟨Count.rescale_le hq, hf, rfl⟩

theorem CountSound.takeV {c : ChargeCounter} (p : List Byte) (h : CountSound c) : CountSound (c.takeV p) := by
  unfold ChargeCounter.takeV
  dsimp only
  split
  · exact .estimate _
  · exact h

theorem CountSound.changeLife {s : State} (l : LifeState) (h : CountSound s.cc) : CountSound (s.changeLife l).cc := by
  obtain ⟨sv, p, e⟩ := s.changeLife_eq l
  rw [e]
  exact h

theorem count_plainKeeps : PlainKeeps fun s => CountSound s.cc where
  drive s i d _ h := by cases i <;> exact h
  wakes s _ h := h.changeLife _
  units s t u h := by rw [u.rest]; exact h
  charge s sh vb _ _ h := by
    obtain ⟨v, p, b, e⟩ := s.ccTakes_eq sh vb
    rw [e]
    exact h.sample sh vb _

theorem count_eventKeeps : EventKeeps fun s => CountSound s.cc where
  toWakeKeeps := count_plainKeeps.toWakeKeeps
  cold s _ := .none rfl
  warm s h := by
    unfold State.warmReset
    split
    · exact h
    · exact h.warm
  cause s c _ h := by cases c <;> exact h
  leaves s _ h := h
  restart s h := h.warm
  flags s h := count_plainKeeps.syncFlags h
  life s _ h := h.changeLife _
  listens s _ h := count_plainKeeps.toWakeKeeps.stopSending (fun _ _ h => h) (h.changeLife _)
  dormant s _ _ h := h.changeLife _
  units := count_plainKeeps.units
  inputEvent s g v f h := count_plainKeeps.inputEvent g v f h
  role s a r an sh vb _ h := by
    refine count_plainKeeps.enterCommissioning an sh vb (CountSound.changeLife (s := s.takeRole a r) _ ?_)
    show CountSound (if r = .battery then s.cc else ChargeCounter.atReset)
    split
    · exact h
    · exact .none rfl
  strapFault s _ _ := .none rfl
  window s x y _ h := h
  island s f _ h := count_plainKeeps.island f h
  bitError s f g _ h := count_plainKeeps.bitError f g h
  charge := count_plainKeeps.charge
  batteryA s p _ h := h.takeA p
  batteryV s p _ h := h.takeV p
  peerState s src p _ _ h := count_plainKeeps.peerState src p h
  cabins s es _ h := h
  candidates s cs h := by
    obtain ⟨c, x, v, p, b, e⟩ := s.takeCandidates_eq cs
    rw [e]
    exact h
  ages s a st h := count_plainKeeps.ages a st h
  linkRecord s p _ h := count_plainKeeps.linkRecord p h
  pop s h := h
  enqueue s e h := count_plainKeeps.enqueue e h
  answerGone s a l _ h := h
  channelRecord s i p _ h := h

theorem PlainKeeps.takeSettings {P : State → Prop} (k : PlainKeeps P) {s : State} (h : P s) : P s.takeSettings := by
  obtain ⟨d, e⟩ := takeSettings_od s
  rw [e]
  exact k.dispatcher s d h

theorem count_finishKeeps : FinishKeeps fun s => CountSound s.cc where
  toWakeKeeps := count_plainKeeps.toWakeKeeps
  settings s h := count_plainKeeps.takeSettings h
  overflow s h := h
  locks s _ h := h
  channels s _ h := h
  heating s _ h := count_plainKeeps.units _ _ (units_heatingReacts s) h
  flags s h := count_plainKeeps.syncFlags h

theorem countSound_kept : KeptByEveryStep fun s => CountSound s.cc :=
  count_eventKeeps.keptByEveryStep fun _ h => count_finishKeeps.finish h

end Sys2Proof.Machine
end

section
/-! PROOFS. O2: the positions of the drives; the bounds together. -/

namespace Sys2Proof.Machine

theorem PositionSound.life {l m : LifeState} {d : Drive} (h : PositionSound l d)
    (e : m.operating = false → l.operating = false) : PositionSound m d :=
  ⟨h.1, h.2.1, h.2.2.1, h.2.2.2.1, fun n => h.2.2.2.2 (e n)⟩

/-- Only an operating node moves a drive. -/
theorem PositionSound.operating {l : LifeState} {d : Drive} (h : PositionSound l d) (b : d.state.busy = true) :
    l.operating = true := by
  by_contra n
  have := (h.2.2.2.2 (by simpa using n)).1
  rw [b] at this
  cases this

theorem busy_of_underWay {s : DriveState} (h : s.underWay = true) : s.busy = true := by
  revert h
  cases s <;> decide

theorem busy_of_travelling {s : DriveState} (h : s.travelling = true) : s.busy = true := by
  revert h
  cases s <;> decide

/-- In an operating life state a drive under way needs only a position in range. -/
theorem PositionSound.of_underWay {l : LifeState} {d : Drive} (o : l.operating = true) (p : d.position ≤ d.travelPulses)
    (b : d.state.underWay = true) : PositionSound l d := by
  refine ⟨p, fun e => ?_, fun e => ?_, fun e => ?_, fun e => ?_⟩
  · rw [e] at b; cases b
  · rw [e] at b; cases b
  · rw [e] at b; cases b
  · rw [o] at e; cases e

theorem Drive.reverse_underWay (d : Drive) (now : Nat) (dir : Dir) (h : d.state.underWay = true) :
    (d.reverse now dir).state.underWay = true := by
  unfold Drive.reverse
  split
  · exact h
  · rfl

theorem Drive.reverse_position (d : Drive) (now : Nat) (dir : Dir) :
    (d.reverse now dir).position = d.position ∧ (d.reverse now dir).travelPulses = d.travelPulses := by
  unfold Drive.reverse
  split <;> exact ⟨rfl, rfl⟩

theorem PositionSound.rest {l : LifeState} {d : Drive} (st : DriveState) (o : l.operating = true)
    (p : d.position ≤ d.travelPulses) (r : st = .retracted → d.position = 0)
    (x : st = .extended → d.position = d.travelPulses) : PositionSound l (d.rest st) := by
  refine ⟨p, r, x, fun _ => ⟨fun e => (nomatch e), fun e => (nomatch e)⟩, fun e => ?_⟩
  rw [o] at e
  cases e

theorem PositionSound.blank (l : LifeState) (fn : DriveFn) : PositionSound l (Drive.blank fn) :=
  ⟨Nat.zero_le _, fun e => (nomatch e), fun e => (nomatch e), fun e => (nomatch e),
    fun _ => ⟨rfl, by simp [Drive.blank], fun _ => rfl⟩⟩

theorem PositionSound.enterJam {l : LifeState} {d : Drive} (o : l.operating = true) (p : d.position ≤ d.travelPulses) :
    PositionSound l d.enterJam := by
  refine ⟨p, fun e => (nomatch e), fun e => (nomatch e), fun e => (nomatch e), fun e => ?_⟩
  rw [o] at e
  cases e

theorem PositionSound.stalled {l : LifeState} {d : Drive} (t : d.state.travelling = true) (h : PositionSound l d) :
    PositionSound l d.stalled := by
  have o := h.operating (busy_of_travelling t)
  have n : l.operating ≠ false := by simp [o]
  unfold Drive.stalled
  split
  · split
    · exact ⟨Nat.le_refl d.travelPulses, fun e => (nomatch e), fun _ => rfl, fun e => (nomatch e), fun e => absurd e n⟩
    · exact .enterJam o h.1
  · split
    · exact ⟨Nat.zero_le _, fun _ => rfl, fun e => (nomatch e), fun e => (nomatch e), fun e => absurd e n⟩
    · exact .enterJam o h.1
  · exact h

theorem PositionSound.pulse {l : LifeState} {d : Drive} (now : Nat) (h : PositionSound l d) :
    PositionSound l (d.pulse now) := by
  have up : min d.travelPulses (d.position + 1) ≤ d.travelPulses := Nat.min_le_left _ _
  have down : d.position - 1 ≤ d.travelPulses := (Nat.sub_le _ _).trans h.1
  have o : d.state.underWay = true → l.operating = true := fun b => h.operating (busy_of_underWay b)
  unfold Drive.pulse
  dsimp only
  split
  next hs => exact .of_underWay (o (by rw [hs]; rfl)) up (by show d.state.underWay = true; rw [hs]; rfl)
  next hs => exact .of_underWay (o (by rw [hs]; rfl)) down (by show d.state.underWay = true; rw [hs]; rfl)
  next hs _ => exact .of_underWay (o (by rw [hs]; rfl)) up (by show d.state.underWay = true; rw [hs]; rfl)
  next hs _ => exact .of_underWay (o (by rw [hs]; rfl)) down (by show d.state.underWay = true; rw [hs]; rfl)
  · exact h

/-- Before the window ends a drive at rest takes new parameters, and its position with them. -/
theorem PositionSound.ofRecord {l : LifeState} {d : Drive} (p : List Byte) (o : l.operating = false)
    (h : PositionSound l d) : PositionSound l (d.ofRecord p) := by
  obtain ⟨-, h2, -, -, h5⟩ := h
  obtain ⟨hb, hj, hu⟩ := h5 o
  unfold Drive.ofRecord
  dsimp only
  cases hs : d.state <;> rw [hs] at hb hj hu h2
  case unknown => simp [PositionSound, hu, DriveState.busy]
  case retracted => simp [PositionSound, h2, DriveState.busy]
  case extended => simp [PositionSound, DriveState.busy]
  case parked => simp [PositionSound, DriveState.busy]
  case jammed => exact absurd rfl hj
  all_goals cases hb

theorem PositionSound.takeFunction {l : LifeState} {d : Drive} (fn : DriveFn) (h : PositionSound l d) :
    PositionSound l (d.takeFunction fn) := by
  unfold Drive.takeFunction
  split
  · exact h
  · exact .blank l fn

theorem PositionSound.warm (l : LifeState) (d : Drive) : PositionSound l d.warm := by
  unfold Drive.warm
  dsimp only
  split
  · exact ⟨Nat.zero_le _, fun _ => rfl, fun e => (nomatch e), fun e => (nomatch e),
      fun _ => ⟨rfl, by simp, fun e => (nomatch e)⟩⟩
  · exact ⟨Nat.le_refl (Drive.blank d.fn).travelPulses, fun e => (nomatch e), fun _ => rfl, fun e => (nomatch e),
      fun _ => ⟨rfl, by simp, fun e => (nomatch e)⟩⟩
  · exact ⟨Nat.min_le_right _ _, fun e => (nomatch e), fun e => (nomatch e), fun e => (nomatch e),
      fun _ => ⟨rfl, by simp, fun e => (nomatch e)⟩⟩
  · exact .blank l d.fn

/-- Every move of a drive keeps its position in its bounds. -/
theorem PositionSound.moves {l : LifeState} {v : Interlock} {now : Nat} {d e : Drive} (m : d.Moves l v now e)
    (h : PositionSound l d) : PositionSound l e := by
  have o : d.state.underWay = true → l.operating = true := fun b => h.operating (busy_of_underWay b)
  cases m with
  | slot sl => exact h
  | forced c homing o _ _ => exact .of_underWay o h.1 rfl
  | forcedReverse c hs =>
    have u : d.state.underWay = true := by rw [hs]; rfl
    obtain ⟨e1, e2⟩ := d.reverse_position now .retract
    exact .of_underWay (o u) (by rw [e1, e2]; exact h.1) (d.reverse_underWay now .retract u)
  | forcedBraking c hs | forcedTravel c hs | haltsBraking hs _ =>
    have u : d.state.underWay = true := by rw [hs]; rfl
    exact .of_underWay (o u) h.1 u
  | returns hs =>
    have ho := h.operating (by rw [hs]; rfl)
    obtain ⟨h1, h2⟩ := h.2.2.2.1 hs
    refine .rest _ ho h.1 (fun e => h1 ?_) (fun e => h2 ?_) <;> cases hd : d.origin <;> simp_all
  | stops st u _ hst => exact .rest st (o u) h.1 (by rcases hst with rfl | rfl | rfl <;> simp) (by rcases hst with rfl | rfl | rfl <;> simp)
  | waits origin dir homing t sl o ho =>
    refine ⟨h.1, fun e => (nomatch e), fun e => (nomatch e), fun _ => ⟨fun e => ?_, fun e => ?_⟩,
      fun e => by rw [o] at e; cases e⟩
    · cases e
      rcases ho with ⟨-, ho⟩ | ⟨hw, ho⟩
      · exact h.2.1 ho.symm
      · refine (h.2.2.2.1 hw).1 ?_
        cases hd : d.origin <;> simp_all
    · cases e
      rcases ho with ⟨-, ho⟩ | ⟨hw, ho⟩
      · exact h.2.2.1 ho.symm
      · refine (h.2.2.2.1 hw).2 ?_
        cases hd : d.origin <;> simp_all
  | travels dir hs _ =>
    have ho := h.operating (by rcases hs with hs | ⟨hs, -⟩ <;> rw [hs] <;> rfl)
    exact .of_underWay ho h.1 (by cases dir <;> rfl)
  | reverses dir u _ =>
    obtain ⟨e1, e2⟩ := d.reverse_position now dir
    exact .of_underWay (o u) (by rw [e1, e2]; exact h.1) (d.reverse_underWay now dir u)
  | stalls ht => exact h.stalled ht
  | jams ht => exact .enterJam (h.operating (busy_of_travelling ht)) h.1
  | pulse => exact h.pulse now
  | function fn _ => exact h.takeFunction fn
  | record p hl => exact h.ofRecord p (by rw [hl]; rfl)

theorem PositionsSound.setDrive {s : State} (i : DriveId) {d : Drive} (m : s.MayMove i d) (h : PositionsSound s) :
    PositionsSound (s.setDrive i d) := by
  cases i with
  | ma => exact ⟨h.1.moves m, h.2⟩
  | mb => exact ⟨h.1, h.2.moves m⟩

theorem PositionsSound.changeLife {s : State} (l : LifeState) (h : PositionsSound s)
    (hl : l.operating = false → s.life.operating = false) : PositionsSound (s.changeLife l) := by
  obtain ⟨sv, p, e⟩ := s.changeLife_eq l
  rw [e]
  exact ⟨h.1.life hl, h.2.life hl⟩

theorem positions_plainKeeps : PlainKeeps PositionsSound where
  drive s i d m h := h.setDrive i m
  wakes s hd h := h.changeLife _ (by simp [LifeState.operating])
  units s t u h := by rw [u.rest]; exact h
  charge s sh vb _ _ h := by
    obtain ⟨v, p, b, e⟩ := s.ccTakes_eq sh vb
    rw [e]
    exact h

theorem PositionsSound.warmState (s : State) : PositionsSound s.warmState := ⟨.warm _ _, .warm _ _⟩

theorem positions_eventKeeps : EventKeeps PositionsSound where
  toWakeKeeps := positions_plainKeeps.toWakeKeeps
  cold s _ := ⟨.blank _ _, .blank _ _⟩
  warm s h := by
    unfold State.warmReset
    split
    · exact h
    · exact PositionsSound.warmState s
  cause s c _ h := by cases c <;> exact h
  leaves s hl h := ⟨h.1.life fun _ => by rw [hl]; rfl, h.2.life fun _ => by rw [hl]; rfl⟩
  restart s _ := ⟨.warm _ _, .warm _ _⟩
  flags s h := positions_plainKeeps.syncFlags h
  life s _ h := h.changeLife _ (by simp [LifeState.operating])
  listens s _ h := positions_plainKeeps.toWakeKeeps.stopSending (fun _ _ h => h) (h.changeLife _ (by simp [LifeState.operating]))
  dormant s _ _ h := h.changeLife _ (by simp [LifeState.operating])
  units := positions_plainKeeps.units
  inputEvent s g v f h := positions_plainKeeps.inputEvent g v f h
  role s a r an sh vb hl h := by
    refine positions_plainKeeps.enterCommissioning an sh vb ?_
    have t : PositionsSound (s.takeRole a r) := by
      have k : ∀ fn (d : Drive), PositionSound s.life d → PositionSound s.life (d.takeRole fn) := fun fn d h =>
        h.takeFunction fn
      exact ⟨k _ _ h.1, k _ _ h.2⟩
    exact t.changeLife _ fun _ => by rw [show (s.takeRole a r).life = s.life from rfl, hl]; rfl
  strapFault s _ _ := ⟨.blank _ _, .blank _ _⟩
  window s x y _ h := h
  island s f _ h := positions_plainKeeps.island f h
  bitError s f g _ h := positions_plainKeeps.bitError f g h
  charge := positions_plainKeeps.charge
  peerState s src p _ _ h := positions_plainKeeps.peerState src p h
  cabins s es _ h := h
  candidates s cs h := by
    obtain ⟨c, x, v, p, b, e⟩ := s.takeCandidates_eq cs
    rw [e]
    exact h
  ages s a st h := positions_plainKeeps.ages a st h
  linkRecord s p _ h := positions_plainKeeps.linkRecord p h
  pop s h := h
  enqueue s e h := positions_plainKeeps.enqueue e h
  answerGone s a l _ h := h
  channelRecord s i p _ h := h

theorem positions_finishKeeps : FinishKeeps PositionsSound where
  toWakeKeeps := positions_plainKeeps.toWakeKeeps
  settings s h := positions_plainKeeps.takeSettings h
  overflow s h := h
  locks s _ h := h
  channels s _ h := h
  heating s _ h := positions_plainKeeps.units _ _ (units_heatingReacts s) h
  flags s h := positions_plainKeeps.syncFlags h

theorem positionsSound_kept : KeptByEveryStep PositionsSound :=
  positions_eventKeeps.keptByEveryStep fun _ h => positions_finishKeeps.finish h

/-- Settles O2: each bound is kept by every kind of change (`EventKeeps`) and by what follows from it (`FinishKeeps`). -/
theorem boundsStayKept : Obligations.BoundsStayKept :=
  ⟨queuesBounded_kept, peersSound_kept, countSound_kept, positionsSound_kept⟩

end Sys2Proof.Machine
end

section
/-! PROOFS. O3: the interlock view stays that of its inputs, and the drives keep to it. -/

namespace Sys2Proof.Machine

/-! ### A drive and its forced cause -/

/-- What `InterlockKept` says of a drive beside the view: its forced cause, its wait, and that only an operating node drives it. -/
structure Drive.Kept (life : LifeState) (d : Drive) : Prop where
  forced : d.forced.isSome → d.state = .retracting ∨ (d.state = .braking ∧ d.direction = some .retract)
  origin : d.state = .waitGrant → d.origin = some .retracted ∨ d.origin = some .extended ∨ d.origin = some .parked ∨
    d.origin = some .unknown ∨ d.origin = some .jammed
  busy : life.operating = false → d.state.busy = false

theorem interlockKept_iff {life : LifeState} {v : Interlock} {d : Drive} :
    InterlockKept life v d ↔ (d.state = .extending → extendRefusal d.fn v = none) ∧ d.Kept life :=
  ⟨fun ⟨h1, h2, h3, h4⟩ => ⟨h1, h2, h3, h4⟩, fun ⟨h1, h2⟩ => ⟨h1, h2.forced, h2.origin, h2.busy⟩⟩

namespace Drive.Kept
variable {l : LifeState} {d : Drive}

theorem operating (h : d.Kept l) (b : d.state.busy = true) : l.operating = true := by
  by_contra n
  have := h.busy (by simpa using n)
  rw [b] at this
  cases this

theorem unforced (h : d.Kept l) (n : d.state ≠ .retracting)
    (m : d.state = .braking → d.direction ≠ some .retract) : d.forced = none := by
  by_contra e
  rcases h.forced (Option.isSome_iff_ne_none.mpr e) with r | ⟨b, r⟩
  · exact n r
  · exact m b r

theorem onLife {m : LifeState} (h : d.Kept l) (e : m.operating = false → l.operating = false) : d.Kept m :=
  ⟨h.forced, h.origin, fun n => h.busy (e n)⟩

/-- A drive at rest without a forced cause. -/
theorem atRest (f : d.forced = none) (b : d.state.busy = false) : d.Kept l :=
  ⟨fun e => (by rw [f] at e; cases e), fun e => (by rw [e] at b; cases b), fun _ => b⟩

theorem rest (f : d.forced = none) {st : DriveState} (b : st.busy = false) : (d.rest st).Kept l := .atRest f b

/-- A drive under way in an operating node. -/
theorem underWay (o : l.operating = true) (b : d.state.underWay = true)
    (f : d.forced.isSome → d.state = .retracting ∨ (d.state = .braking ∧ d.direction = some .retract)) : d.Kept l :=
  ⟨f, fun e => (by rw [e] at b; cases b), fun e => by rw [o] at e; cases e⟩

theorem reverse (h : d.Kept l) (now : Nat) (dir : Dir) (u : d.state.underWay = true) (f : d.forced = none) :
    (d.reverse now dir).Kept l := by
  refine .underWay (h.operating (busy_of_underWay u)) (d.reverse_underWay now dir u) fun e => ?_
  have : (d.reverse now dir).forced = none := by
    unfold Drive.reverse
    split <;> exact f
  rw [this] at e
  cases e

theorem stalled (h : d.Kept l) : d.stalled.Kept l := by
  unfold Drive.stalled
  split
  · split
    · exact .atRest rfl rfl
    · exact .atRest rfl rfl
  · split
    · exact .atRest rfl rfl
    · exact .atRest rfl rfl
  · exact h

theorem pulse (h : d.Kept l) (now : Nat) : (d.pulse now).Kept l := by
  unfold Drive.pulse
  dsimp only
  split <;> exact ⟨h.forced, h.origin, h.busy⟩

theorem warm (d : Drive) : d.warm.Kept l := by
  unfold Drive.warm
  dsimp only
  split <;> exact .atRest rfl rfl

theorem takeFunction (h : d.Kept l) (fn : DriveFn) : (d.takeFunction fn).Kept l := by
  unfold Drive.takeFunction
  split
  · exact h
  · exact .atRest rfl rfl

/-- Every move of a drive keeps it. -/
theorem moves {v : Interlock} {now : Nat} {e : Drive} (m : d.Moves l v now e) (h : d.Kept l) : e.Kept l := by
  cases m with
  | slot sl => exact ⟨h.forced, h.origin, h.busy⟩
  | forced c homing o _ _ => exact .underWay o rfl fun _ => .inl rfl
  | forcedReverse c hs =>
    refine .underWay (h.operating (by rw [hs]; rfl)) (d.reverse_underWay now .retract (by rw [hs]; rfl)) fun _ => ?_
    simp [Drive.reverse, hs]
  | forcedBraking c hs =>
    exact .underWay (h.operating (by rw [hs]; rfl)) (by simp [hs, DriveState.underWay]) fun _ => .inr ⟨hs, rfl⟩
  | forcedTravel c hs =>
    exact .underWay (h.operating (by rw [hs]; rfl)) (by simp [hs, DriveState.underWay]) fun _ => .inl hs
  | returns hs =>
    refine .rest (h.unforced (by simp [hs]) (by simp [hs])) ?_
    rcases h.origin hs with e | e | e | e | e <;> rw [e] <;> rfl
  | stops st u hf hst =>
    refine .rest ?_ (by rcases hst with rfl | rfl | rfl <;> rfl)
    by_contra f
    obtain ⟨h1, h2⟩ := hf (Option.isSome_iff_ne_none.mpr f)
    exact f (h.unforced h1 h2)
  | waits origin dir homing t sl o ho =>
    have f : d.forced = none := by
      rcases ho with ⟨hb, -⟩ | ⟨hw, -⟩
      · exact h.unforced (fun e => by rw [e] at hb; cases hb) (fun e => by rw [e] at hb; cases hb)
      · exact h.unforced (by simp [hw]) (by simp [hw])
    refine ⟨fun e => (by rw [f] at e; cases e), fun _ => ?_, fun e => by rw [o] at e; cases e⟩
    rcases ho with ⟨hb, rfl⟩ | ⟨hw, rfl⟩
    · revert hb
      cases d.state <;> simp [DriveState.busy]
    · rcases h.origin hw with e | e | e | e | e <;> rw [e] <;> simp
  | travels dir hs hr =>
    have o := h.operating (by rcases hs with hs | ⟨hs, -⟩ <;> rw [hs] <;> rfl)
    refine .underWay o (by cases dir <;> rfl) fun e => .inl ?_
    rcases h.forced e with g | ⟨g, g'⟩
    · rcases hs with hs | ⟨hs, -⟩ <;> rw [hs] at g <;> cases g
    · rcases hs with hs | ⟨-, hd⟩
      · rw [hs] at g; cases g
      · rw [hd] at g'
        cases g'
        rfl
  | reverses dir u f => exact h.reverse now dir u f
  | haltsBraking hs f =>
    exact .underWay (h.operating (by rw [hs]; rfl)) (by simp [hs, DriveState.underWay]) fun e => by rw [f] at e; cases e
  | stalls _ => exact h.stalled
  | jams ht => exact .atRest rfl rfl
  | pulse => exact h.pulse now
  | function fn _ => exact h.takeFunction fn
  | record p _ => exact ⟨h.forced, h.origin, h.busy⟩

end Drive.Kept

/-- A move lets a drive extend only where the view does not refuse it. -/
theorem InterlockKept.moves {life : LifeState} {v : Interlock} {now : Nat} {d e : Drive} (m : d.Moves life v now e)
    (h : InterlockKept life v d) : InterlockKept life v e := by
  obtain ⟨x, k⟩ := interlockKept_iff.mp h
  refine interlockKept_iff.mpr ⟨?_, k.moves m⟩
  cases m with
  | slot | record => exact x
  | forced | waits | jams => exact fun e => (nomatch e)
  | forcedReverse c hs => simp [Drive.reverse, hs]
  | forcedBraking c hs | forcedTravel c hs | haltsBraking hs _ => simp [hs]
  | returns hs =>
    intro e
    have e : d.origin.getD .unknown = .extending := e
    rcases k.origin hs with o | o | o | o | o <;> rw [o] at e <;> cases e
  | stops st _ _ hst => rcases hst with rfl | rfl | rfl <;> exact fun e => (nomatch e)
  | travels dir _ hr =>
    cases dir with
    | extend => exact fun _ => hr rfl
    | retract => exact fun e => (nomatch e)
  | reverses dir u f =>
    unfold Drive.reverse
    split
    next hs => simp [hs]
    · exact fun e => (nomatch e)
  | stalls ht =>
    unfold Drive.stalled
    split
    · split <;> exact fun e => (nomatch e)
    · split <;> exact fun e => (nomatch e)
    · exact x
  | pulse =>
    unfold Drive.pulse
    dsimp only
    split <;> exact x
  | function fn _ =>
    unfold Drive.takeFunction
    split
    · exact x
    · exact fun e => (nomatch e)

/-! ### The interlock event -/

/-- What `evaluateForced` leaves extending was extending, with no forced cause to take. -/
theorem evaluateForced_extending {s : State} {i : DriveId} (h : ((s.evaluateForced i).drive i).state = .extending) :
    (s.evaluateForced i).drive i = s.drive i ∧
      (s.life.operating = true → (s.drive i).forced = none → forcedCauseOf (s.drive i).fn s.interlock = none) := by
  have acts : ∀ c, ((match (s.drive i).state with
      | .extended | .parked => s.setDrive i ((s.drive i).forcedRetract s.now c false)
      | .unknown => s.setDrive i ((s.drive i).forcedRetract s.now c true)
      | .extending => s.setDrive i { (s.drive i).reverse s.now .retract with forced := some c }
      | .braking => s.setDrive i { (s.drive i) with direction := some .retract, forced := some c }
      | .retracting => s.setDrive i { (s.drive i) with forced := some c }
      | .waitGrant =>
        let s1 := (s.resolve i .cancelled).leaveGrantList i
        match (s.drive i).origin with
        | some .retracted => s1.onDrive i (Drive.rest .retracted)
        | some .extended | some .parked => s1.onDrive i (Drive.forcedRetract s.now c false)
        | _ => s1.onDrive i (Drive.forcedRetract s.now c true)
      | .retracted | .jammed => s).drive i).state ≠ .extending := by
    intro c
    split
    case h_7 =>
      dsimp only
      split <;> simp [State.onDrive, Drive.rest, Drive.forcedRetract, Drive.travel]
    case h_4 hs => simp [Drive.reverse, hs]
    all_goals simp_all [Drive.forcedRetract, Drive.travel]
  unfold State.evaluateForced at h ⊢
  dsimp only at h ⊢
  cases hf : (s.drive i).forced with
  | some _ => simp_all
  | none =>
    cases hc : forcedCauseOf (s.drive i).fn s.interlock with
    | none => simp_all
    | some c =>
      rw [hf, hc] at h
      cases hl : s.life <;> rw [hl] at h
      case run | dormant | listenOnly => exact absurd h (acts c)
      all_goals exact ⟨rfl, fun o => by cases o⟩

theorem State.drive_resolve_ne {s : State} {i j : DriveId} (n : j ≠ i) (c : AnswerCode) :
    (s.resolve i c).drive j = s.drive j := by
  unfold State.resolve
  split
  · split
    · rw [State.drive_place]
      exact State.drive_setDrive_ne s n _
    · exact State.drive_setDrive_ne s n _
  · rfl
  · rfl

/-- The forced causes of one drive leave the other. -/
theorem State.drive_evaluateForced_ne {s : State} {i j : DriveId} (n : j ≠ i) :
    (s.evaluateForced i).drive j = s.drive j := by
  have d : ∀ (t : State) x, (t.setDrive i x).drive j = t.drive j := fun t x => State.drive_setDrive_ne t n x
  have w : ∀ f : Drive → Drive, (((s.resolve i .cancelled).leaveGrantList i).onDrive i f).drive j = s.drive j := fun f => by
    rw [State.onDrive, d, State.drive_leaveGrantList, State.drive_resolve_ne n]
  unfold State.evaluateForced
  dsimp only
  split
  case h_1 | h_2 | h_3 =>
    split
    case h_7 => split <;> exact w _
    case h_8 | h_9 => rfl
    all_goals exact d _ _
  · rfl

theorem State.drive_comeToRest_ne {s : State} {i j : DriveId} (n : j ≠ i) (st : DriveState) :
    (s.comeToRest i st).drive j = s.drive j :=
  (State.drive_evaluateForced_ne n).trans (State.drive_setDrive_ne s n _)

theorem State.drive_stopUnsourced_ne {s : State} {i j : DriveId} (n : j ≠ i) :
    (s.stopUnsourced i).drive j = s.drive j := by
  unfold State.stopUnsourced
  dsimp only
  split
  · exact State.drive_comeToRest_ne n _
  · rfl

/-- A drive that extends on without its source does so under an active drive. -/
theorem stopUnsourced_extending {s : State} {i : DriveId} (h : ((s.stopUnsourced i).drive i).state = .extending) :
    (s.stopUnsourced i).drive i = s.drive i ∧
      ((s.drive i).fn = .step → s.interlock.sourceKnown = false → s.interlock.driveActive = true) := by
  unfold State.stopUnsourced at h ⊢
  dsimp only at h ⊢
  split at h
  next hs =>
    have := (evaluateForced_extending h).1
    unfold State.comeToRest at h
    rw [this] at h
    simp [State.onDrive, Drive.rest] at h
  next hs =>
    rw [if_neg hs]
    refine ⟨rfl, fun hf hk => ?_⟩
    by_contra hd
    exact hs ⟨hf, h, by simp [hk], by simpa using hd⟩

/-- A view that neither forces a drive nor leaves it without its source does not refuse its extension. -/
theorem extendRefusal_eq_none {fn : DriveFn} {v : Interlock} (h : forcedCauseOf fn v = none)
    (k : fn = .step → v.sourceKnown = false → v.driveActive = true) : extendRefusal fn v = none := by
  cases fn with
  | none => rfl
  | step =>
    have a : v.driveActive = false := by simpa [forcedCauseOf] using h
    have b : v.sourceKnown = true := by
      by_contra e
      have := k rfl (by simpa using e)
      rw [a] at this
      cases this
    simp [extendRefusal, a, b]
  | awning =>
    obtain ⟨a, b⟩ : v.driveActive = false ∧ v.wind = false := by
      cases ha : v.driveActive <;> cases hb : v.wind <;> simp [forcedCauseOf, ha, hb] at h ⊢
    simp [extendRefusal, a, b]

theorem InterlocksKept.kept {s : State} (h : InterlocksKept s) (i : DriveId) : (s.drive i).Kept s.life := by
  cases i
  · exact (interlockKept_iff.mp h.2.1).2
  · exact (interlockKept_iff.mp h.2.2).2

theorem interlocks_motionKeeps : MotionKeeps InterlocksKept where
  drive s i d m h := by
    cases i with
    | ma => exact ⟨h.1, h.2.1.moves m, h.2.2⟩
    | mb => exact ⟨h.1, h.2.1, h.2.2.moves m⟩

theorem InterlockKept.onLife {l m : LifeState} {v : Interlock} {d : Drive} (h : InterlockKept l v d)
    (e : m.operating = false → l.operating = false) : InterlockKept m v d := by
  obtain ⟨x, k⟩ := interlockKept_iff.mp h
  exact interlockKept_iff.mpr ⟨x, k.onLife e⟩

theorem InterlocksKept.changeLife {s : State} (l : LifeState) (h : InterlocksKept s)
    (e : l.operating = false → s.life.operating = false) : InterlocksKept (s.changeLife l) := by
  obtain ⟨sv, p, q⟩ := s.changeLife_eq l
  rw [q]
  exact ⟨h.1, h.2.1.onLife e, h.2.2.onLife e⟩

theorem interlocks_wakeKeeps : WakeKeeps InterlocksKept where
  toMotionKeeps := interlocks_motionKeeps
  wakes s _ h := h.changeLife _ (by simp [LifeState.operating])

theorem interlockNow_of_motionAlone {s t : State} (h : MotionAlone s t) : t.interlockNow = s.interlockNow := by
  rw [h]
  rfl

/-- What `Drive.Kept` says, of both drives. -/
def DrivesKept (s : State) : Prop := ∀ i, (s.drive i).Kept s.life

theorem drivesKept_motionKeeps : MotionKeeps DrivesKept where
  drive s i d m h j := by
    have e : (s.setDrive i d).life = s.life := by cases i <;> rfl
    rw [e]
    by_cases n : j = i
    · subst n
      rw [State.drive_setDrive]
      exact (h j).moves m
    · rw [State.drive_setDrive_ne s n]
      exact h j

/-- Once the view is current, the two drives that stop or are forced keep to it. -/
theorem DrivesKept.takeView {s : State} (h : DrivesKept s) (c : s.interlock = s.interlockNow) :
    InterlocksKept ((s.stopUnsourced .ma).stopUnsourced .mb).evaluateBothForced := by
  have keep : ∀ {P : State → Prop}, MotionKeeps P → P s →
      P ((s.stopUnsourced .ma).stopUnsourced .mb).evaluateBothForced := fun k h =>
    k.evaluateBothForced (k.stopUnsourced .mb (k.stopUnsourced .ma h))
  have k := keep drivesKept_motionKeeps h
  have a := keep (motionKeeps_alone s) (.refl s)
  have hv := a.interlock
  have alone1 : MotionAlone s (s.stopUnsourced .ma) := (motionKeeps_alone s).stopUnsourced .ma (.refl s)
  have alone2 : MotionAlone s ((s.stopUnsourced .ma).stopUnsourced .mb) := (motionKeeps_alone s).stopUnsourced .mb alone1
  have alone3 : MotionAlone s (((s.stopUnsourced .ma).stopUnsourced .mb).evaluateForced .ma) :=
    (motionKeeps_alone s).evaluateForced .ma alone2
  -- a drive that extends at the end extended at the start, with its source and without a cause
  have extends_on : ∀ i, ((((s.stopUnsourced .ma).stopUnsourced .mb).evaluateBothForced).drive i).state = .extending →
      (((s.stopUnsourced .ma).stopUnsourced .mb).evaluateBothForced).drive i = s.drive i ∧
        ((s.drive i).fn = .step → s.interlock.sourceKnown = false → s.interlock.driveActive = true) ∧
        (s.life.operating = true → (s.drive i).forced = none → forcedCauseOf (s.drive i).fn s.interlock = none) := by
    intro i e
    unfold State.evaluateBothForced at e ⊢
    cases i with
    | ma =>
      rw [State.drive_evaluateForced_ne (by simp)] at e ⊢
      obtain ⟨e1, f⟩ := evaluateForced_extending e
      have n : ((s.stopUnsourced .ma).stopUnsourced .mb).drive .ma = (s.stopUnsourced .ma).drive .ma :=
        State.drive_stopUnsourced_ne (by simp)
      rw [e1, n] at e
      obtain ⟨e2, g⟩ := stopUnsourced_extending e
      rw [n, e2, alone2.life, alone2.interlock] at f
      exact ⟨e1.trans (n.trans e2), g, f⟩
    | mb =>
      obtain ⟨e1, f⟩ := evaluateForced_extending e
      have n : (((s.stopUnsourced .ma).stopUnsourced .mb).evaluateForced .ma).drive .mb =
          ((s.stopUnsourced .ma).stopUnsourced .mb).drive .mb := State.drive_evaluateForced_ne (by simp)
      have m : (s.stopUnsourced .ma).drive .mb = s.drive .mb := State.drive_stopUnsourced_ne (by simp)
      rw [e1, n] at e
      obtain ⟨e2, g⟩ := stopUnsourced_extending e
      rw [n, e2, m, alone3.life, alone3.interlock] at f
      rw [m, alone1.interlock] at g
      exact ⟨e1.trans (n.trans (e2.trans m)), g, f⟩
  have keeps : ∀ i, InterlockKept ((s.stopUnsourced .ma).stopUnsourced .mb).evaluateBothForced.life
      ((s.stopUnsourced .ma).stopUnsourced .mb).evaluateBothForced.interlock
      (((s.stopUnsourced .ma).stopUnsourced .mb).evaluateBothForced.drive i) := fun i => by
    refine interlockKept_iff.mpr ⟨fun e => ?_, k i⟩
    obtain ⟨e1, g, f⟩ := extends_on i e
    rw [e1] at e
    rw [e1, hv]
    have o := (h i).operating (by rw [e]; rfl)
    exact extendRefusal_eq_none (f o ((h i).unforced (by simp [e]) (by simp [e]))) g
  exact ⟨by rw [hv, interlockNow_of_motionAlone a, c], keeps .ma, keeps .mb⟩

/-- An interlock event brings the view up to date, and the drives with it. -/
theorem DrivesKept.interlockEvent {s : State} (h : DrivesKept s)
    (x : ∀ i, (s.drive i).state = .extending → extendRefusal (s.drive i).fn s.interlock = none) :
    InterlocksKept s.interlockEvent := by
  unfold State.interlockEvent
  split
  next e =>
    exact ⟨e.symm, interlockKept_iff.mpr ⟨x .ma, h .ma⟩, interlockKept_iff.mpr ⟨x .mb, h .mb⟩⟩
  · exact interlocks_wakeKeeps.wakeForForced _ (DrivesKept.takeView (s := { s with interlock := s.interlockNow }) h rfl)

theorem InterlocksKept.interlockEvent {s t : State} (h : InterlocksKept s)
    (e : ∀ i, t.drive i = s.drive i) (v : t.interlock = s.interlock) (l : t.life = s.life) :
    InterlocksKept t.interlockEvent := by
  have x : ∀ i, InterlockKept s.life s.interlock (s.drive i) := fun i => by
    cases i
    · exact h.2.1
    · exact h.2.2
  refine DrivesKept.interlockEvent (fun i => ?_) fun i => ?_
  · rw [e i, l]
    exact (interlockKept_iff.mp (x i)).2
  · rw [e i, v]
    exact (interlockKept_iff.mp (x i)).1

end Sys2Proof.Machine
end

section
/-! PROOFS. O3: every kind of change keeps the interlock, together with the Peer Table's law. -/

namespace Sys2Proof.Machine

/-! ### The view and the entries -/

/-- The view looks at the flags of the entries that count. -/
theorem interlockNow_setEntries {s : State} {es : List Peer}
    (h : ∀ f : Peer → Bool, (∀ e, f { e with cabin := none, heardAt := 0 } = f e) → es.any f = s.pt.entries.any f) :
    (s.setEntries es).interlockNow = s.interlockNow := by
  have p : ∀ f, (s.setEntries es).peerFlag f = s.peerFlag f := fun f =>
    h (fun p => p.counted && f p.flags) fun _ => rfl
  have r : ∀ f, (s.setEntries es).routed f = s.routed f := fun _ => rfl
  have a : (s.setEntries es).ignitionActive = s.ignitionActive := rfl
  have b : (s.setEntries es).speedActive = s.speedActive := rfl
  unfold State.interlockNow
  simp only [p, r, a, b]
  rfl

theorem any_of_cabins {es ds : List Peer} (h : es.map (fun e : Peer => { e with cabin := none }) =
    ds.map (fun e : Peer => { e with cabin := none })) (f : Peer → Bool)
    (hf : ∀ e, f { e with cabin := none, heardAt := 0 } = f e) : es.any f = ds.any f := by
  have g : ∀ l : List Peer, (l.map (fun e : Peer => { e with cabin := none })).any f = l.any f := fun l => by
    rw [List.any_map]
    refine congrArg l.any (funext fun e => ?_)
    exact (hf { e with cabin := none }).symm.trans (hf e)
  rw [← g es, h, g ds]

/-- An unchanged entry that moves to the end of the table changes nothing that the view looks at. -/
theorem any_of_refresh {es : List Peer} {src : Addr} {old x : Peer} (n : (es.map (·.addr)).Nodup)
    (ho : es.find? (fun e => e.addr = src) = some old) (f : Peer → Bool) (hx : f x = f old) :
    (es.filter (fun e => e.addr ≠ src) ++ [x]).any f = es.any f := by
  have mem := List.mem_of_find?_eq_some ho
  have hsrc : old.addr = src := by simpa using List.find?_some ho
  rw [Bool.eq_iff_iff]
  simp only [List.any_append, List.any_filter, List.any_cons, List.any_nil, Bool.or_false, Bool.or_eq_true, List.any_eq_true,
    Bool.and_eq_true, decide_eq_true_eq, hx]
  constructor
  · rintro (⟨e, he, -, hfe⟩ | hfo)
    · exact ⟨e, he, hfe⟩
    · exact ⟨old, mem, hfo⟩
  · rintro ⟨e, he, hfe⟩
    by_cases q : e.addr = src
    · have : e = old := List.inj_on_of_nodup_map n he mem (q.trans hsrc.symm)
      exact .inr (this ▸ hfe)
    · exact .inl ⟨e, he, q, hfe⟩

/-- A STATE that changes nothing renews the instant of the entry alone. -/
theorem refreshed_same {old new : Peer} (h : isEntryChange old new = false) :
    { refreshed old new with heardAt := old.heardAt } = old := by
  unfold isEntryChange at h
  simpa using (Bool.or_eq_false_iff.mp h).2

theorem interlockNow_refresh {s : State} {src : Addr} {old new : Peer} (n : (s.pt.entries.map (·.addr)).Nodup)
    (ho : s.pt.entries.find? (fun e => e.addr = src) = some old) (c : isEntryChange old new = false) :
    (s.setEntries (s.pt.entries.filter (fun e => e.addr ≠ src) ++ [refreshed old new])).interlockNow =
      s.interlockNow := by
  refine interlockNow_setEntries fun f hf => any_of_refresh n ho f ?_
  have e := refreshed_same c
  calc f (refreshed old new) = f { refreshed old new with cabin := none, heardAt := 0 } := (hf _).symm
    _ = f { ({ refreshed old new with heardAt := old.heardAt } : Peer) with cabin := none, heardAt := 0 } := rfl
    _ = f old := by rw [e]; exact hf old

/-! ### Every kind of change -/

/-- The interlock is kept where only what it does not look at has changed. -/
theorem InterlocksKept.of_eq {s t : State} (h : InterlocksKept s) (n : t.interlockNow = s.interlockNow)
    (v : t.interlock = s.interlock) (d : t.ma = s.ma ∧ t.mb = s.mb)
    (l : t.life.operating = false → s.life.operating = false) : InterlocksKept t := by
  obtain ⟨h1, h2, h3⟩ := h
  unfold InterlocksKept
  rw [n, v, d.1, d.2]
  exact ⟨h1, h2.onLife l, h3.onLife l⟩

theorem InterlockKept.idle {l : LifeState} {v : Interlock} {d : Drive} (k : d.Kept l) (b : d.state.busy = false) :
    InterlockKept l v d := interlockKept_iff.mpr ⟨fun e => (by rw [e] at b; cases b), k⟩

theorem InterlocksKept.warmState (s : State) : InterlocksKept s.warmState :=
  have w : ∀ d : Drive, d.warm.Kept .reset := Drive.Kept.warm
  ⟨rfl, .idle (w s.ma) ((w s.ma).busy rfl), .idle (w s.mb) ((w s.mb).busy rfl)⟩

/-- In COMMISSIONING, drives that keep to it. -/
theorem drivesKept_unitKeeps : UnitKeeps fun s => s.life = .commissioning ∧ DrivesKept s where
  drive s i d m h := ⟨by cases i <;> exact h.1, drivesKept_motionKeeps.drive s i d m h.2⟩
  wakes s hd h := by rw [hd] at h; cases h.1
  units s t u h := by rw [u.rest]; exact h
  charge s sh vb _ _ h := by
    obtain ⟨v, p, b, e⟩ := s.ccTakes_eq sh vb
    rw [e]
    exact h

theorem InterlocksKept.enterCommissioning {s : State} (a : Addr) (r : Role) (an : Analog) (sh vb : Int)
    (hl : s.life = .strapRead) (h : InterlocksKept s) :
    InterlocksKept ((s.takeRole a r).enterCommissioning an sh vb) := by
  have k : ∀ i, ((s.takeRole a r).drive i).Kept .commissioning := fun i => by
    have o : LifeState.commissioning.operating = false → s.life.operating = false := fun _ => by rw [hl]; rfl
    cases i with
    | ma => exact ((h.kept .ma).onLife o).takeFunction r.maFunction
    | mb => exact ((h.kept .mb).onLife o).takeFunction .none
  have u := drivesKept_unitKeeps.commissioningUnits (s := s.takeRole a r) an sh vb (by
    obtain ⟨sv, p, e⟩ := (s.takeRole a r).changeLife_eq .commissioning
    rw [e]
    exact ⟨rfl, k⟩)
  rw [State.enterCommissioning_eq]
  refine u.2.interlockEvent fun i e => ?_
  have b := (u.2 i).busy (by rw [u.1]; rfl)
  rw [e] at b
  cases b

theorem interlocks_eventKeeps : EventKeeps fun s => InterlocksKept s ∧ PeersSound s where
  drive s i d m h := ⟨interlocks_motionKeeps.drive s i d m h.1, peers_unitKeeps.drive s i d m h.2⟩
  wakes s hd h := ⟨interlocks_wakeKeeps.wakes s hd h.1, peers_unitKeeps.wakes s hd h.2⟩
  cold s _ := ⟨⟨rfl, .idle (.atRest rfl rfl) rfl, .idle (.atRest rfl rfl) rfl⟩, .empty rfl⟩
  warm s h := by
    refine ⟨?_, peers_eventKeeps.warm s h.2⟩
    unfold State.warmReset
    split
    · exact h.1
    · exact InterlocksKept.warmState s
  cause s c _ h := by cases c <;> exact h
  leaves s hl h := ⟨h.1.of_eq rfl rfl ⟨rfl, rfl⟩ fun _ => by rw [hl]; rfl, peers_eventKeeps.leaves s hl h.2⟩
  restart s _ := ⟨(InterlocksKept.warmState s).of_eq rfl rfl ⟨rfl, rfl⟩ fun _ => rfl, .empty rfl⟩
  flags s h := by
    unfold State.syncFlags
    split <;> exact h
  life s a h := ⟨h.1.changeLife _ (by simp [LifeState.operating]), peers_eventKeeps.life s a h.2⟩
  listens s a h := by
    refine ⟨?_, peers_eventKeeps.listens s a h.2⟩
    have g := h.1.changeLife .listenOnly (by simp [LifeState.operating])
    unfold State.stopSending
    split <;> exact g
  dormant s hl hb h := ⟨h.1.changeLife _ (by simp [LifeState.operating]), peers_eventKeeps.dormant s hl hb h.2⟩
  units s t u h := by rw [u.rest]; exact h
  inputs s g v f n h := ⟨h.1.of_eq n rfl ⟨rfl, rfl⟩ id, h.2⟩
  inputEvent s g v f h := ⟨h.1.interlockEvent (fun i => by cases i <;> rfl) rfl rfl, peers_unitKeeps.inputEvent g v f h.2⟩
  role s a r an sh vb hl h := ⟨h.1.enterCommissioning a r an sh vb hl, peers_eventKeeps.role s a r an sh vb hl h.2⟩
  strapFault s hl h := ⟨⟨h.1.1, .idle (.atRest rfl rfl) rfl, .idle (.atRest rfl rfl) rfl⟩,
    peers_eventKeeps.strapFault s hl h.2⟩
  window s x y _ h := h
  island s f _ h := islandEvent_cases (P := fun s => InterlocksKept s ∧ PeersSound s) h h
  bitError s f g _ h := islandEvent_cases (P := fun s => InterlocksKept s ∧ PeersSound s) h h
  charge s sh vb _ _ h := by
    obtain ⟨v, p, b, e⟩ := s.ccTakes_eq sh vb
    rw [e]
    exact h
  peerState s src p hl own h := by
    refine ⟨?_, h.2.peerState hl own⟩
    have e : ∀ es, InterlocksKept (s.setEntries es).entryChange := fun es =>
      h.1.interlockEvent (t := (s.setEntries es).trigger) (fun i => by cases i <;> rfl) rfl rfl
    refine peerState_cases h.2.1 ?_ (fun old new ho _ c => ?_) fun es new _ _ _ _ => e _
    · unfold State.seeStranger
      dsimp only
      split <;> exact h.1
    · exact h.1.of_eq (interlockNow_refresh h.2.2.1 ho c) rfl ⟨rfl, rfl⟩ id
  cabins s es e h := ⟨h.1.of_eq (interlockNow_setEntries (any_of_cabins e)) rfl ⟨rfl, rfl⟩ id,
    peers_eventKeeps.cabins s es e h.2⟩
  candidates s cs h := by
    obtain ⟨c, x, v, p, b, e⟩ := s.takeCandidates_eq cs
    rw [e]
    exact h
  ages s a st h := ⟨h.1.interlockEvent (t := State.trigger _) (fun i => by cases i <;> rfl) rfl rfl,
    peers_eventKeeps.ages s a st h.2⟩
  linkRecord s p _ h := by
    unfold State.applyLink
    dsimp only
    split <;> exact h
  pop s h := h
  enqueue s e h := by
    unfold State.enqueue
    split
    · dsimp only
      split <;> exact h
    · exact h
  answerGone s a l _ h := h
  channelRecord s i p _ h := h

theorem interlocks_finishKeeps : FinishKeeps fun s => InterlocksKept s ∧ PeersSound s where
  toWakeKeeps := interlocks_eventKeeps.toWakeKeeps
  settings s h := by
    obtain ⟨d, e⟩ := takeSettings_od s
    rw [e]
    exact h
  overflow s h := h
  locks s _ h := h
  channels s _ h := h
  heating s _ h := by
    rw [(units_heatingReacts s).rest]
    exact h
  flags s h := interlocks_eventKeeps.flags s h

/-- Settles O3: the view is brought up to date by the interlock event that follows each change of its inputs, which stops or forces
in every drive that the new view refuses (`DrivesKept.takeView`); no other move starts a refused extension. -/
theorem interlocksStayKept : Obligations.InterlocksStayKept :=
  interlocks_eventKeeps.keptByEveryStep fun _ h => interlocks_finishKeeps.finish h

end Sys2Proof.Machine
end

section
/-! PROOFS. O4: every driven output stays granted, throttled or exempt. -/

namespace Sys2Proof.Machine

/-! ### The granted output -/

theorem Channel.settled_of_evaluate {e : ChEnv} {c : Channel} (h : c.evaluate e = c) : c.Settled e ∧ c.refresh e = c := by
  obtain ⟨d, k, g⟩ := Channel.evaluate_shape e c
  have s : c.Settled e := h ▸ g ▸ k.refresh
  exact ⟨s, s.evaluate.symm.trans h⟩

theorem Channel.duty_of_refresh {e : ChEnv} {c : Channel} (h : c.refresh e = c) (n : c.duty ≠ 0) : c.dutyOf e ≠ 0 := by
  intro z
  unfold Channel.refresh at h
  dsimp only at h
  rw [if_pos z] at h
  exact n (congrArg Channel.duty h).symm

theorem Channel.state_of_dutyOf {e : ChEnv} {c : Channel} (h : c.dutyOf e ≠ 0) : c.state = .on := by
  by_contra n
  unfold Channel.dutyOf at h
  rw [if_neg (fun x => n x.1)] at h
  exact h rfl

/-- A decision other than HELD is made in an operating node for one of the three reasons of R61. -/
theorem Channel.granted_of_decision {e : ChEnv} {c : Channel} (h : c.grantDecision e ≠ .held) :
    e.life.operating = true ∧ (c.exempt = true ∨ c.classUsed < e.sEff.rank ∨
      (c.classUsed = e.sEff.rank ∧ c.dimmable = true ∧ e.applied ≠ 0)) := by
  unfold Channel.grantDecision at h
  cases hl : e.life <;> rw [hl] at h
  case run | dormant | listenOnly =>
    refine ⟨rfl, ?_⟩
    dsimp only at h
    split at h
    next x => exact .inl x
    · split at h
      next x => exact .inr (.inl x)
      · split at h
        next x => exact .inr (.inr x)
        · exact absurd rfl h
  all_goals exact absurd rfl h

theorem Channel.granted_of_evaluate {e : ChEnv} {c : Channel} (h : c.evaluate e = c) (n : c.duty ≠ 0) :
    e.life.operating = true ∧ (c.exempt = true ∨ c.classUsed < e.sEff.rank ∨
      (c.classUsed = e.sEff.rank ∧ c.dimmable = true ∧ e.applied ≠ 0)) := by
  obtain ⟨s, r⟩ := Channel.settled_of_evaluate h
  have on := Channel.state_of_dutyOf (Channel.duty_of_refresh r n)
  apply Channel.granted_of_decision
  rcases s with s | s | ⟨-, s, -⟩ | ⟨-, s⟩
  · rw [on] at s; cases s
  · rw [on] at s; cases s
  · rw [on] at s; cases s
  · rcases s with ⟨-, s, -⟩ | ⟨s, -, -⟩ | ⟨s, -, -⟩
    · rw [on] at s; cases s
    · simp [s]
    · simp [s]

/-! ### What every kind of change keeps -/

/-- The clauses of the first law beside the driven outputs; and where the blocks do not run no output is driven. -/
def FirstReady (s : State) : Prop :=
  (∀ i : Fin 8, s.sw[i].exempt = true → s.sw[i].fn = .dumpValve ∨ s.sw[i].fn = .burnerFan) ∧
    (s.lb.applied ≠ 0 → 32 ≤ s.lb.applied ∧ s.lb.cutUsed = false) ∧
    (s.life.active = false → ∀ i : Fin 8, s.sw[i].duty = 0)

theorem State.onFunction_get (s : State) (fn : ChFn) (f : Channel → Channel) (i : Fin 8) :
    (s.onFunction fn f).sw[i] = if s.sw[i].fn = fn then f s.sw[i] else s.sw[i] := by
  simp [State.onFunction]

theorem FirstLaw.ready {s : State} (h : FirstLaw s) : FirstReady s := by
  refine ⟨h.2.1, h.2.2, fun n i => ?_⟩
  by_contra d
  have := active_of_operating (h.1 i d).1
  rw [n] at this
  cases this

namespace FirstReady
variable {s t : State}

theorem exempt (h : FirstReady s) {i : Fin 8} (x : s.sw[i].exempt = true) :
    s.sw[i].fn = .dumpValve ∨ s.sw[i].fn = .burnerFan := h.1 i x
theorem applied (h : FirstReady s) : s.lb.applied ≠ 0 → 32 ≤ s.lb.applied ∧ s.lb.cutUsed = false := h.2.1
theorem dark (h : FirstReady s) (n : s.life.active = false) (i : Fin 8) : s.sw[i].duty = 0 := h.2.2 n i

theorem onLife (h : FirstReady s) (l : LifeState) (a : l.active = false → s.life.active = false) :
    FirstReady (s.changeLife l) := by
  obtain ⟨sv, p, e⟩ := s.changeLife_eq l
  rw [e]
  exact ⟨fun _ => h.exempt, h.applied, fun n => h.dark (a n)⟩

theorem units (u : UnitsAlone s t) (h : FirstReady s) : FirstReady t := by
  have lb : t.lb = s.lb := by rw [u.rest]
  refine ⟨fun i x => ?_, by rw [lb]; exact h.applied, fun n i => ?_⟩
  · rcases (u.channels i).exempt x with y | y
    · rw [(u.channels i).fn]
      exact h.exempt y
    · exact y
  · have := h.dark (by rwa [← u.life]) i
    rcases (u.channels i).duty with d | d <;> omega

/-- Channels that are neither exempt nor driven. -/
theorem of_channels (c : ∀ i : Fin 8, s.sw[i].exempt = false ∧ s.sw[i].duty = 0)
    (a : s.lb.applied ≠ 0 → 32 ≤ s.lb.applied ∧ s.lb.cutUsed = false) : FirstReady s :=
  ⟨fun i x => (by rw [(c i).1] at x; cases x), a, fun _ i => (c i).2⟩

end FirstReady

theorem Channels.atReset_get (i : Fin 8) : Channels.atReset[i] = Channel.blank := by
  fin_cases i <;> rfl

theorem Role.channels_get (r : Role) (i : Fin 8) : r.channels[i].exempt = false ∧ r.channels[i].duty = 0 := by
  cases r <;> revert i <;> decide

theorem FirstReady.ofReset {s : State} (w : s.sw = Channels.atReset) (a : s.lb.applied = 0) : FirstReady s :=
  .of_channels (fun i => by rw [w, Channels.atReset_get]; exact ⟨rfl, rfl⟩) fun n => absurd a n

theorem first_plainKeeps : PlainKeeps FirstReady where
  drive s i d _ h := by cases i <;> exact h
  wakes s _ h := h.onLife .run (by simp [LifeState.active])
  units s t u h := h.units u
  charge s sh vb _ _ h := by
    obtain ⟨v, p, b, e⟩ := s.ccTakes_eq sh vb
    rw [e]
    exact h

theorem first_eventKeeps : EventKeeps FirstReady where
  toWakeKeeps := first_plainKeeps.toWakeKeeps
  cold s _ := .ofReset rfl rfl
  warm s h := by
    unfold State.warmReset
    split
    · exact h
    · exact .ofReset rfl rfl
  cause s c _ h := by cases c <;> exact h
  leaves s hl h := ⟨h.1, h.applied, fun _ => h.dark (by rw [hl]; rfl)⟩
  restart s _ := .ofReset rfl rfl
  flags s h := first_plainKeeps.syncFlags h
  life s _ h := h.onLife _ (by simp [LifeState.active])
  listens s _ h := first_plainKeeps.toWakeKeeps.stopSending (fun _ _ h => h) (h.onLife _ (by simp [LifeState.active]))
  dormant s _ _ h := h.onLife _ (by simp [LifeState.active])
  units s t u h := h.units u
  inputEvent s g v f h := first_plainKeeps.inputEvent g v f h
  role s a r an sh vb _ h := by
    have t : FirstReady (s.takeRole a r) := .of_channels r.channels_get h.applied
    exact first_plainKeeps.enterCommissioning an sh vb (t.onLife .commissioning (by simp [LifeState.active]))
  strapFault s hl h := ⟨h.1, h.applied, fun _ => h.dark (by rw [hl]; rfl)⟩
  window s x y _ h := h
  island s f _ h := first_plainKeeps.island f h
  bitError s f g _ h := first_plainKeeps.bitError f g h
  charge := first_plainKeeps.charge
  peerState s src p _ _ h := first_plainKeeps.peerState src p h
  cabins s es _ h := h
  candidates s cs h := by
    obtain ⟨c, x, v, p, b, e⟩ := s.takeCandidates_eq cs
    rw [e]
    exact h
  ages s a st h := first_plainKeeps.ages a st h
  linkRecord s p _ h := first_plainKeeps.linkRecord p h
  pop s h := h
  enqueue s e h := first_plainKeeps.enqueue e h
  answerGone s a l _ h := h
  channelRecord s i p hl h := by
    refine ⟨fun j => ?_, h.applied, fun n => by rw [show (s.onChannel i _).life = s.life from rfl, hl] at n; cases n⟩
    by_cases e : j = i
    · subst e
      rw [State.onChannel_get]
      unfold Channel.takeRecord
      dsimp only
      split
      next f => exact fun x => f ▸ h.exempt x
      · exact fun x => (nomatch x)
    · rw [State.onChannel_get_ne s e]
      exact h.1 j

theorem Channel.evaluate_exempt (e : ChEnv) (c : Channel) : (c.evaluate e).exempt = c.exempt ∧ (c.evaluate e).fn = c.fn := by
  obtain ⟨hr, hc, -⟩ := Channel.kept_evaluate False e c
  exact ⟨congrArg (fun x => x.2.2.2.2.2.1) (hc (.inr id)), Channel.fn_of_record hr⟩

theorem appliedOf_cases (life : LifeState) (f : Nat) : appliedOf life f = 0 ∨ (appliedOf life f = f ∧ 32 ≤ f) := by
  unfold appliedOf
  split
  · split
    next h => exact .inr ⟨rfl, h⟩
    · exact .inl rfl
  · split
    next h => exact .inr ⟨rfl, h⟩
    · exact .inl rfl
  · exact .inl rfl

/-- Under CUT a recomputation leaves S at ALL_SHED (R42, R43). -/
theorem State.budget_cut {s : State} (h : s.budget.cutUsed = true) : s.budget.s = .allShed := by
  have cut : s.limitUsed.2 = true := h
  unfold State.budget shedStep
  dsimp only
  rw [cut]
  split
  · rfl
  · split
    · rfl
    · rw [rawShed_of_cut, if_pos (show Shed.allShed.rank ≤ s.lb.s.rank from Nat.zero_le _)]

/-- The throttle that a recomputation applies (R47, R48). -/
theorem State.budget_applied (s : State) (n : s.budget.applied ≠ 0) : 32 ≤ s.budget.applied ∧ s.budget.cutUsed = false := by
  have e : s.budget.applied = appliedOf s.life s.budget.f := rfl
  rcases appliedOf_cases s.life s.budget.f with z | ⟨f, g⟩
  · exact absurd (e.trans z) n
  · refine ⟨by rw [e, f]; exact g, ?_⟩
    by_contra c
    have z : s.budget.f = 0 := by
      show (if s.life = .commissioning then 0 else throttleOf s.budget.s _ _ _ _ _) = 0
      rw [State.budget_cut (by simpa using c)]
      split <;> rfl
    rw [z] at g
    exact absurd g (by decide)

theorem first_finishKeeps : FinishKeeps FirstReady where
  toWakeKeeps := first_plainKeeps.toWakeKeeps
  settings s h := first_plainKeeps.takeSettings h
  overflow s h := h
  locks s hl h := by
    refine ⟨fun i => ?_, h.applied, fun n => by rw [show s.syncLocks.life = s.life from rfl, hl] at n; cases n⟩
    have e : s.syncLocks.sw[i].exempt = s.sw[i].exempt ∧ s.syncLocks.sw[i].fn = s.sw[i].fn := by
      simp [State.syncLocks]
    rw [e.1, e.2]
    exact h.1 i
  budget s _ h := ⟨h.1, s.budget_applied, h.dark⟩
  channels s hl h := by
    refine ⟨fun i => ?_, h.applied, fun n => by rw [show s.evaluateChannels.life = s.life from rfl, hl] at n; cases n⟩
    have e := Channel.evaluate_exempt s.chEnv s.sw[i]
    have g : s.evaluateChannels.sw[i] = s.sw[i].evaluate s.chEnv := by simp [State.evaluateChannels]
    rw [g, e.1, e.2]
    exact h.1 i
  heating s _ h := h.units (units_heatingReacts s)
  flags s h := first_plainKeeps.syncFlags h

theorem finish_inactive {s : State} (h : s.life.active = false) : s.finish.life.active = false := by
  rcases (finish_changes s).1 .life (by simp) with e | ⟨e, -⟩
  · rwa [e]
  · rw [e] at h; cases h

/-- What follows from an event grants every output that it drives. -/
theorem FirstReady.finish {s : State} (h : FirstReady s) : FirstLaw s.finish := by
  have f := first_finishKeeps.finish h
  refine ⟨fun i d => ?_, f.1, f.applied⟩
  cases a : s.life.active with
  | false => exact absurd (f.dark (finish_inactive a) i) d
  | true =>
    obtain ⟨o, g⟩ := Channel.granted_of_evaluate (finish_outputs s a i) d
    refine ⟨o, ?_⟩
    rcases g with g | g | ⟨g, dim, app⟩
    · exact .inl g
    · exact .inr (.inl g)
    · exact .inr (.inr ⟨g, dim, f.applied app⟩)

/-! ### Quiet changes -/

theorem FirstLaw.ofReset {s : State} (w : s.sw = Channels.atReset) (a : s.lb.applied = 0) : FirstLaw s := by
  have r := FirstReady.ofReset w a
  exact ⟨fun i d => absurd (by rw [w, Channels.atReset_get]; rfl) d, r.1, r.applied⟩

/-- A change of the channels that leaves functions, outputs and what grants them. -/
theorem FirstLaw.of_sw {s t : State} (h : FirstLaw s) (l : t.life = s.life) (b : t.lb = s.lb)
    (c : ∀ i : Fin 8, t.sw[i].fn = s.sw[i].fn ∧ t.sw[i].duty = s.sw[i].duty ∧ t.sw[i].exempt = s.sw[i].exempt ∧
      t.sw[i].classUsed = s.sw[i].classUsed ∧ t.sw[i].dimmable = s.sw[i].dimmable) : FirstLaw t := by
  obtain ⟨granted, exempt, applied⟩ := h
  refine ⟨fun i => ?_, fun i => ?_, by rw [b]; exact applied⟩
  · obtain ⟨-, d, x, k, m⟩ := c i
    have := granted i
    unfold Channel.Granted at this ⊢
    rw [l, b, d, x, k, m]
    exact this
  · obtain ⟨f, -, x, -⟩ := c i
    rw [f, x]
    exact exempt i

theorem FirstLaw.onChannel {s : State} (h : FirstLaw s) (i : Fin 8) {f : Channel → Channel}
    (c : ∀ c, (f c).fn = c.fn ∧ (f c).duty = c.duty ∧ (f c).exempt = c.exempt ∧ (f c).classUsed = c.classUsed ∧
      (f c).dimmable = c.dimmable) : FirstLaw (s.onChannel i f) := by
  refine h.of_sw rfl rfl fun j => ?_
  by_cases e : j = i
  · subst e
    rw [State.onChannel_get]
    exact c _
  · rw [State.onChannel_get_ne s e]
    exact ⟨rfl, rfl, rfl, rfl, rfl⟩

theorem FirstLaw.quiet {s t : State} (h : FirstLaw s) (v : Quiet s t) : FirstLaw t := by
  cases v with
  | coldReset => exact .ofReset rfl rfl
  | warmReset =>
    unfold State.warmReset
    split
    · exact h
    · exact .ofReset rfl rfl
  | causeEnds c _ => cases c <;> exact h
  | leavesReset c hl =>
    have d := h.ready.dark (by rw [hl]; rfl)
    cases c <;> exact ⟨fun i n => absurd (d i) n, h.2⟩
  | batteryPeriod | receiver | latch | withdraw | cabinExpiry | sample | anemometer | timers => exact h
  | blankingEnd ch | historyEnd ch | openLoad ch => exact h.onChannel ch fun _ => ⟨rfl, rfl, rfl, rfl, rfl⟩
  | hallPulse i => cases i <;> exact h
  | flowPulse =>
    refine h.of_sw rfl rfl fun i => ?_
    rw [State.onFunction_get]
    split <;> exact ⟨rfl, rfl, rfl, rfl, rfl⟩

/-- Settles O4: `finish` evaluates the channels against the pair in hand, and an evaluation drives only what the decision of R61
grants. -/
theorem firstLawStaysKept : Obligations.FirstLawStaysKept :=
  keptByEveryStep_of_cases (Q := FirstReady) (fun _ _ h => h) (fun _ _ h => h) (fun _ _ h v => h.quiet v)
    (fun _ _ h v => first_eventKeeps.event v h.ready) fun _ h => h.finish

end Sys2Proof.Machine
end

section
/-! PROOFS. O5: outputs, flags word and pump locks stay current. -/

namespace Sys2Proof.Machine

/-! ### Channels where the blocks do not run -/

theorem Channel.evaluate_blank (e : ChEnv) : Channel.blank.evaluate e = Channel.blank := rfl

theorem channels_eq_atReset {v : Vector Channel 8} : v = Channels.atReset ↔ ∀ i : Fin 8, v[i] = Channel.blank := by
  constructor
  · rintro rfl i
    exact Channels.atReset_get i
  · intro h
    ext1 i hi
    exact (h ⟨i, hi⟩).trans (Channels.atReset_get ⟨i, hi⟩).symm

theorem atRest_units {s t : State} (u : UnitsAlone s t) (h : ChannelsAtRest s) : ChannelsAtRest t := fun n =>
  channels_eq_atReset.mpr fun i => (u.channels i).blank (channels_eq_atReset.mp (h (by rwa [← u.life])) i)

theorem ChannelsAtRest.ofActive {s : State} (h : s.life.active = true) : ChannelsAtRest s := fun n => by
  rw [h] at n
  cases n

theorem ChannelsAtRest.onLife {s : State} (l : LifeState) (a : l.active = true) : ChannelsAtRest (s.changeLife l) :=
  .ofActive (by rw [s.changeLife_life]; exact a)

theorem atRest_plainKeeps : PlainKeeps ChannelsAtRest where
  drive s i d _ h := by cases i <;> exact h
  wakes s _ h := .onLife .run rfl
  units s t u h := atRest_units u h
  charge s sh vb _ _ h := by
    obtain ⟨v, p, b, e⟩ := s.ccTakes_eq sh vb
    rw [e]
    exact h

theorem atRest_eventKeeps : EventKeeps ChannelsAtRest where
  toWakeKeeps := atRest_plainKeeps.toWakeKeeps
  cold s _ := fun _ => rfl
  warm s h := by
    unfold State.warmReset
    split
    · exact h
    · exact fun _ => rfl
  cause s c _ h := by cases c <;> exact h
  leaves s hl h := fun _ => h (by rw [hl]; rfl)
  restart s _ := fun _ => rfl
  flags s h := atRest_plainKeeps.syncFlags h
  life s _ h := .onLife _ rfl
  listens s _ h := atRest_plainKeeps.toWakeKeeps.stopSending (fun _ _ h => h) (.onLife _ rfl)
  dormant s _ _ h := .onLife _ rfl
  units s t u h := atRest_units u h
  inputEvent s g v f h := atRest_plainKeeps.inputEvent g v f h
  role s a r an sh vb _ h := atRest_plainKeeps.enterCommissioning an sh vb
    (ChannelsAtRest.onLife (s := s.takeRole a r) .commissioning rfl)
  strapFault s hl h := fun _ => h (by rw [hl]; rfl)
  window s x y _ h := h
  island s f _ h := atRest_plainKeeps.island f h
  bitError s f g _ h := atRest_plainKeeps.bitError f g h
  charge := atRest_plainKeeps.charge
  peerState s src p _ _ h := atRest_plainKeeps.peerState src p h
  cabins s es _ h := h
  candidates s cs h := by
    obtain ⟨c, x, v, p, b, e⟩ := s.takeCandidates_eq cs
    rw [e]
    exact h
  ages s a st h := atRest_plainKeeps.ages a st h
  linkRecord s p _ h := atRest_plainKeeps.linkRecord p h
  pop s h := h
  enqueue s e h := atRest_plainKeeps.enqueue e h
  answerGone s a l _ h := h
  channelRecord s i p hl _ := .ofActive (by rw [show (s.onChannel i _).life = s.life from rfl, hl]; rfl)

theorem atRest_finishKeeps : FinishKeeps ChannelsAtRest where
  toWakeKeeps := atRest_plainKeeps.toWakeKeeps
  settings s h := atRest_plainKeeps.takeSettings h
  overflow s h := h
  locks s hl _ := .ofActive hl
  channels s hl _ := .ofActive hl
  heating s _ h := atRest_units (units_heatingReacts s) h
  flags s h := atRest_plainKeeps.syncFlags h

/-! ### Outputs -/

theorem OutputsCurrent.atReset {s : State} (h : s.sw = Channels.atReset) : OutputsCurrent s := fun i => by
  rw [h, Channels.atReset_get]
  exact Channel.evaluate_blank _

/-- A refresh leaves a channel whose duty is what request, mode and inhibit make it, with its timers stopped where it is 0. -/
theorem Channel.refresh_eq_self_iff {e : ChEnv} {c : Channel} :
    c.refresh e = c ↔ c.dutyOf e = c.duty ∧ (c.duty = 0 → c.blanking = none ∧ c.dry = none) := by
  unfold Channel.refresh
  dsimp only
  constructor
  · intro h
    split at h
    next z =>
      have d := congrArg Channel.duty h
      exact ⟨z.trans d, fun _ => ⟨(congrArg Channel.blanking h).symm, (congrArg Channel.dry h).symm⟩⟩
    next n =>
      split at h
      next z =>
        have d := congrArg Channel.duty h
        exact absurd (d.trans z) n
      next z => exact ⟨congrArg Channel.duty h, fun z' => absurd z' z⟩
  · rintro ⟨d, t⟩
    rw [d]
    split
    next z =>
      obtain ⟨b, y⟩ := t z
      cases c
      simp_all
    next n =>
      rw [Channel.fullSinceAt_duty e.now rfl]

theorem Channel.evaluate_eq_self_iff {e : ChEnv} {c : Channel} :
    c.evaluate e = c ↔ c.Settled e ∧ c.dutyOf e = c.duty ∧ (c.duty = 0 → c.blanking = none ∧ c.dry = none) := by
  rw [← Channel.refresh_eq_self_iff]
  exact ⟨Channel.settled_of_evaluate, fun ⟨h, r⟩ => h.evaluate.trans r⟩

/-- The clock does not matter to a channel that is as an evaluation leaves it. -/
theorem Channel.evaluate_now {e : ChEnv} {c : Channel} (n : Nat) (h : c.evaluate e = c) : c.evaluate { e with now := n } = c := by
  obtain ⟨g, d, b⟩ := Channel.evaluate_eq_self_iff.mp h
  exact Channel.evaluate_eq_self_iff.mpr ⟨g, d, b⟩

theorem OutputsCurrent.now {s : State} (n : Nat) (h : OutputsCurrent s) : OutputsCurrent { s with now := n } := fun i =>
  Channel.evaluate_now n (h i)

/-- Channels that differ in what an evaluation does not look at. -/
theorem OutputsCurrent.onChannel {s : State} (h : OutputsCurrent s) (i : Fin 8) {f : Channel → Channel}
    (k : s.sw[i].evaluate s.chEnv = s.sw[i] → (f s.sw[i]).evaluate s.chEnv = f s.sw[i]) :
    OutputsCurrent (s.onChannel i f) := fun j => by
  show ((s.onChannel i f).sw[j]).evaluate s.chEnv = _
  by_cases e : j = i
  · subst e
    rw [State.onChannel_get]
    exact k (h j)
  · rw [State.onChannel_get_ne s e]
    exact h j

theorem OutputsCurrent.quiet {s t : State} (h : OutputsCurrent s) (r : ChannelsAtRest s) (v : Quiet s t) :
    OutputsCurrent t := by
  cases v with
  | coldReset => exact .atReset rfl
  | warmReset =>
    unfold State.warmReset
    split
    · exact h
    · exact .atReset rfl
  | causeEnds c _ => cases c <;> exact h
  | leavesReset c hl =>
    have w := r (by rw [hl]; rfl)
    cases c <;> exact .atReset w
  | batteryPeriod | receiver | latch | withdraw | cabinExpiry | sample | anemometer | timers => exact h
  | blankingEnd ch =>
    refine h.onChannel ch fun k => ?_
    obtain ⟨g, d, b⟩ := Channel.evaluate_eq_self_iff.mp k
    exact Channel.evaluate_eq_self_iff.mpr ⟨g, d, fun z => ⟨rfl, (b z).2⟩⟩
  | historyEnd ch | openLoad ch _ =>
    refine h.onChannel ch fun k => ?_
    obtain ⟨g, d, b⟩ := Channel.evaluate_eq_self_iff.mp k
    exact Channel.evaluate_eq_self_iff.mpr ⟨g, d, b⟩
  | hallPulse i => cases i <;> exact h
  | flowPulse =>
    intro i
    show Channel.evaluate s.chEnv ((State.onFunction .pump _ _).sw[i]) = _
    rw [State.onFunction_get]
    have k := h i
    split
    · obtain ⟨g, d, b⟩ := Channel.evaluate_eq_self_iff.mp k
      refine Channel.evaluate_eq_self_iff.mpr ⟨g, d, fun z => ⟨(b z).1, ?_⟩⟩
      show Option.map _ s.sw[i].dry = none
      rw [(b z).2]
      rfl
    · exact k

/-- What follows from an event leaves every output as its inputs make it. -/
theorem ChannelsAtRest.finish {s : State} (h : ChannelsAtRest s) : OutputsCurrent s.finish ∧ ChannelsAtRest s.finish := by
  have g := atRest_finishKeeps.finish h
  refine ⟨?_, g⟩
  cases a : s.life.active with
  | true => exact finish_outputs s a
  | false => exact .atReset (g (finish_inactive a))

theorem outputsCurrent_kept : KeptByEveryStep fun s => OutputsCurrent s ∧ ChannelsAtRest s :=
  keptByEveryStep_of_cases (Q := ChannelsAtRest) (fun _ n h => ⟨h.1.now n, h.2⟩) (fun _ _ h => h)
    (fun _ _ h v => ⟨h.1.quiet h.2 v, atRest_eventKeeps.quietChange v h.2⟩)
    (fun _ _ h v => atRest_eventKeeps.event v h.2) fun _ h => h.finish

/-! ### The flags word -/

theorem anyChannel_onChannel {s : State} {i : Fin 8} {f : Channel → Channel} {p : Channel → Bool}
    (h : p (f s.sw[i]) = p s.sw[i]) : (s.onChannel i f).anyChannel p = s.anyChannel p :=
  anyChannel_congr fun j => by
    by_cases e : j = i
    · subst e
      rw [State.onChannel_get]
      exact h
    · rw [State.onChannel_get_ne s e]

/-- A change of a channel that keeps its state changes no flag. -/
theorem flagsOf_onChannel {s : State} {i : Fin 8} {f : Channel → Channel} (h : (f s.sw[i]).state = s.sw[i].state) :
    (s.onChannel i f).flagsOf = s.flagsOf := by
  have c : (s.onChannel i f).channelFault = s.channelFault := by
    unfold State.channelFault
    rw [anyChannel_onChannel (by rw [h])]
    rfl
  show (if s.life.active then _ else _) = _
  rw [c]
  rfl

theorem Drive.pulse_jam (d : Drive) (now : Nat) : (d.pulse now).jam = d.jam := by
  unfold Drive.pulse
  dsimp only
  split <;> rfl

theorem FlagsCurrent.onLink {s : State} {f : LinkController → LinkController} (h : FlagsCurrent s)
    (l : (f s.lc).linkFault = s.lc.linkFault) (a : (f s.lc).alone = s.lc.alone) : FlagsCurrent (s.onLink f) := by
  have i : (s.onLink f).island = s.island := by
    show ((f s.lc).linkFault || (f s.lc).alone) = _
    rw [l, a]
    rfl
  show s.nc.flags = if s.life.active then _ else _
  rw [i]
  exact h

theorem FlagsCurrent.quiet {s t : State} (h : FlagsCurrent s) (v : Quiet s t) : FlagsCurrent t := by
  cases v with
  | coldReset => rfl
  | warmReset =>
    unfold State.warmReset
    split
    · exact h
    · rfl
  | causeEnds c _ => cases c <;> exact h
  | leavesReset c hl =>
    have e : s.flagsOf = { Flags.clear with hello := s.ts.hello } := by
      unfold State.flagsOf
      rw [if_neg (by rw [hl]; simp [LifeState.active])]
    have g : s.nc.flags = { Flags.clear with hello := s.ts.hello } := Eq.trans h e
    cases c <;> exact g
  | batteryPeriod | cabinExpiry | sample | anemometer => exact h
  | receiver f r => exact h.onLink r.2.1 r.2.2
  | latch f g _ l a => exact h.onLink l a
  | withdraw f g w => exact h.onLink w.2.1 w.2.2
  | timers x _ hello =>
    show s.nc.flags = if s.life.active then _ else _
    dsimp only
    rw [hello]
    exact h
  | blankingEnd ch | historyEnd ch | openLoad ch _ => exact Eq.trans h (flagsOf_onChannel rfl).symm
  | hallPulse i =>
    have c : (s.onDrive i (Drive.pulse s.now)).channelFault = s.channelFault := by
      cases i with
      | ma => exact congrArg (fun j => (s.anyChannel (fun c => c.state = .fault) || j) || s.mb.jam) (s.ma.pulse_jam s.now)
      | mb => exact congrArg (fun j => (s.anyChannel (fun c => c.state = .fault) || s.ma.jam) || j) (s.mb.pulse_jam s.now)
    refine Eq.trans (show _ = s.nc.flags by cases i <;> rfl) (Eq.trans h ?_)
    unfold State.flagsOf
    rw [c]
    cases i <;> rfl
  | flowPulse =>
    have c : ((s.onWater fun w => w.convertPulses (w.remainder + 100)).onFunction .pump fun c =>
        { c with dry := c.dry.map fun _ => s.now + Config.dryFlowMs }).channelFault = s.channelFault := by
      unfold State.channelFault
      rw [anyChannel_congr (s := s) (p := fun c => c.state = .fault) fun i => ?_]
      · rfl
      · rw [State.onFunction_get]
        split <;> rfl
    show s.nc.flags = if s.life.active then _ else _
    rw [c]
    exact h

theorem flagsCurrent_kept : KeptByEveryStep FlagsCurrent :=
  keptByEveryStep_of_cases (Q := fun _ => True) (fun _ _ h => h) (fun _ _ h => h) (fun _ _ h v => h.quiet v)
    (fun _ _ _ _ => trivial) fun u _ => finish_flags u

/-! ### The pump locks -/

/-- `LocksCurrent` without its premise. -/
def LocksHold (s : State) : Prop :=
  s.wf.locks = s.locksNow ∧ ∀ i : Fin 8, s.sw[i].inhibit = (decide (s.sw[i].fn = ChFn.pump) && s.wf.locks.any)

theorem LocksHold.syncLocks (s : State) : LocksHold s.syncLocks := by
  have f : s.syncLocks.channelFaulted .pump = s.channelFaulted .pump := anyChannel_congr fun i => by simp [State.syncLocks]
  refine ⟨?_, fun i => by simp [State.syncLocks]⟩
  show s.locksNow = { s.locksNow with fault := s.syncLocks.channelFaulted .pump }
  rw [f]
  rfl

/-- Only channels that keep function, inhibit and FAULT, and what the locks do not look at, have changed. -/
theorem LocksHold.of_sw {s t : State} (h : LocksHold s) (w : t.wf.locks = s.wf.locks)
    (n : t.locksNow = { s.locksNow with fault := t.channelFaulted .pump })
    (c : ∀ i : Fin 8, t.sw[i].fn = s.sw[i].fn ∧ t.sw[i].inhibit = s.sw[i].inhibit ∧
      (t.sw[i].state = .fault ↔ s.sw[i].state = .fault)) : LocksHold t := by
  obtain ⟨h1, h2⟩ := h
  have f : t.channelFaulted .pump = s.channelFaulted .pump := anyChannel_congr fun i => by
    obtain ⟨e, -, q⟩ := c i
    simp only [e, decide_eq_decide.mpr q]
  refine ⟨?_, fun i => ?_⟩
  · rw [n, f, w, h1]
    rfl
  · obtain ⟨e, q, -⟩ := c i
    rw [e, q, w]
    exact h2 i

theorem Channel.refresh_inhibit (e : ChEnv) (c : Channel) : (c.refresh e).inhibit = c.inhibit := by
  unfold Channel.refresh
  dsimp only
  split
  · rfl
  · split <;> rfl

theorem Channel.evaluate_inhibit (e : ChEnv) (c : Channel) : (c.evaluate e).inhibit = c.inhibit := by
  unfold Channel.evaluate
  split
  · exact Channel.refresh_inhibit e c
  · exact Channel.refresh_inhibit e c
  all_goals
    split
    · exact Channel.refresh_inhibit e _
    · split <;> exact Channel.refresh_inhibit e _

theorem locks_followKeeps : FollowKeeps LocksHold where
  drive s i d _ h := by cases i <;> exact h
  locks s _ _ := LocksHold.syncLocks s
  channels s _ h := h.of_sw rfl rfl fun i => by
    have k := (frame_evaluateChannels s .channels (by simp)).2.2 i
    have g : s.evaluateChannels.sw[i] = s.sw[i].evaluate s.chEnv := by simp [State.evaluateChannels]
    exact ⟨Channel.fn_of_record k.1, by rw [g, Channel.evaluate_inhibit], k.2.2.2.2.1⟩
  heating s _ h := by
    have u := units_heatingReacts s
    have w : s.heatingReacts.wf = s.wf := by
      unfold State.heatingReacts
      split
      · split
        · rfl
        · split <;> rfl
      · split <;> rfl
      · rfl
    have p : ∀ f, s.heatingReacts.peerFlag f = s.peerFlag f := fun f => by rw [u.rest]; rfl
    refine h.of_sw (by rw [w]) ?_ fun i => ?_
    · show ({ freshEmpty := s.heatingReacts.wf.freshEmpty, dumped := s.heatingReacts.wf.fresh = .dumped,
              greyFull := s.heatingReacts.wf.greyFull || s.heatingReacts.peerFlag (·.greyFull),
              fault := s.heatingReacts.channelFaulted .pump, dormant := s.heatingReacts.life = .dormant } : PumpLocks) = _
      rw [w, p, u.life]
      rfl
    · exact ⟨(u.channels i).fn, (u.channels i).inhibit, ((frame_heatingReacts s .channels (by simp)).2.2 i).2.2.2.2.1⟩
  flags s h := by
    unfold State.syncFlags
    split <;> exact h

theorem locks_follow {s : State} (hl : s.life.active = true) : LocksHold s.follow := by
  unfold State.follow
  dsimp only
  split
  · exact locks_followKeeps.recompute hl (LocksHold.syncLocks s)
  · exact locks_followKeeps.channelsFollow hl (LocksHold.syncLocks s)

theorem locks_settle {s : State} (hl : s.life.active = true) : LocksHold s.settle := by
  have hf := locks_follow hl
  unfold State.settle
  rw [if_pos hl]
  show LocksHold (if s.follow.callsForRecompute then s.follow.followAll 7 else s.follow)
  split
  · exact locks_followKeeps.followAll 7 (active_of_frame (frame_follow s) (by simp) hl) hf
  · exact hf

/-- What follows from an event brings the pump locks up to date. -/
theorem locks_finish (s : State) : LocksCurrent s.finish := fun hl => by
  have ha : s.dispatch.life.active = true := by
    by_contra n
    have e : s.finish.life = s.dispatch.life := by
      have w : s.dispatch.settle = s.dispatch := by unfold State.settle; rw [if_neg n]
      unfold State.finish State.syncFlags
      rw [w]
      split <;> rfl
    exact n (e ▸ hl)
  exact locks_followKeeps.flags _ (locks_settle ha)

theorem LocksCurrent.quiet {s t : State} (h : LocksCurrent s) (v : Quiet s t) : LocksCurrent t := by
  have off : ∀ {u : State}, u.life = .reset ∨ u.life = .strapRead → LocksCurrent u := fun e n => by
    rcases e with e | e <;> rw [e] at n <;> cases n
  have one : ∀ (i : Fin 8) (f : Channel → Channel), (∀ c, (f c).fn = c.fn ∧ (f c).inhibit = c.inhibit ∧ (f c).state = c.state) →
      LocksCurrent (s.onChannel i f) := fun i f k n => by
    refine LocksHold.of_sw (h n) rfl rfl fun j => ?_
    by_cases e : j = i
    · subst e
      rw [State.onChannel_get]
      obtain ⟨k1, k2, k3⟩ := k s.sw[j]
      exact ⟨k1, k2, by rw [k3]⟩
    · rw [State.onChannel_get_ne s e]
      exact ⟨rfl, rfl, Iff.rfl⟩
  cases v with
  | coldReset => exact off (.inl rfl)
  | warmReset =>
    unfold State.warmReset
    split
    · exact h
    · exact off (.inl rfl)
  | causeEnds c _ => cases c <;> exact h
  | leavesReset c _ => exact off (.inr rfl)
  | batteryPeriod | receiver | latch | withdraw | sample | anemometer | timers => exact h
  | cabinExpiry a =>
    intro n
    have p : (s.setEntries (onEntry a (fun e => { e with cabin := none }) s.pt.entries)).peerFlag (·.greyFull) =
        s.peerFlag (·.greyFull) :=
      any_of_cabins (onEntry_cabin a (fun e => { e with cabin := none }) (fun _ => rfl) _) (fun p => p.counted && p.flags.greyFull)
        fun _ => rfl
    obtain ⟨h1, h2⟩ := h n
    refine ⟨h1.trans ?_, h2⟩
    unfold State.locksNow
    rw [p]
    rfl
  | blankingEnd ch | historyEnd ch | openLoad ch _ => exact one ch _ fun _ => ⟨rfl, rfl, rfl⟩
  | hallPulse i => cases i <;> exact h
  | flowPulse =>
    intro n
    refine LocksHold.of_sw (h n) rfl rfl fun j => ?_
    rw [State.onFunction_get]
    split <;> exact ⟨rfl, rfl, Iff.rfl⟩

theorem locksCurrent_kept : KeptByEveryStep LocksCurrent :=
  keptByEveryStep_of_cases (Q := fun _ => True) (fun _ _ h => h) (fun _ _ h => h) (fun _ _ h v => h.quiet v)
    (fun _ _ _ _ => trivial) fun u _ => locks_finish u

/-- Settles O5: the outputs by the fixpoint that the last evaluation of `finish` reaches, the flags word and the locks because `finish`
makes them anew from the units. -/
theorem outputsFlagsAndLocksStayCurrent : Obligations.OutputsFlagsAndLocksStayCurrent :=
  ⟨outputsCurrent_kept, flagsCurrent_kept, locksCurrent_kept⟩

end Sys2Proof.Machine
end

section
/-! PROOFS. O6: what every kind of change keeps of the shed level, up to the recomputation that it calls for. -/

namespace Sys2Proof.Machine

/-! ### S_raw by a given own want -/

/-- The totals of R38 with own wants `w`. -/
def State.totalsWith (s : State) (w : Wants) : Wants :=
  let peers := s.pt.entries.foldl (fun w p => w.add p.wants) w
  if s.pt.stranger.isSome then { peers with w1 := peers.w1 + s.pt.strangerReserve } else peers

/-- The S_raw that a recomputation with own wants `w` finds (R42). -/
def State.rawWith (s : State) (w : Wants) : Shed :=
  let t := s.totalsWith w
  rawShed s.limitUsed.2 s.limitUsed.1 (t.w0 + t.w1) (t.w0 + t.w1 + t.w2) (t.w0 + t.w1 + t.w2 + t.w3)

theorem State.totals_eq (s : State) : s.totals = s.totalsWith s.ownWants := rfl

theorem State.budget_sRaw_eq (s : State) : s.budget.sRaw = some (s.rawWith s.ownWants) := rfl

/-- S_raw rises as the sums fall. -/
theorem rawShed_antitone {cut : Bool} {l t1 t2 t3 u1 u2 u3 : Nat} (h1 : u1 ≤ t1) (h2 : u2 ≤ t2) (h3 : u3 ≤ t3) :
    (rawShed cut l t1 t2 t3).rank ≤ (rawShed cut l u1 u2 u3).rank := by
  unfold rawShed
  cases cut with
  | true => exact Nat.le_refl _
  | false =>
    simp only [Bool.false_eq_true, if_false]
    split_ifs <;> simp [Shed.rank] <;> omega

theorem foldl_wants (es : List Peer) (w : Wants) : es.foldl (fun w p => w.add p.wants) w =
    ⟨w.w0 + (es.map (·.wants.w0)).sum, w.w1 + (es.map (·.wants.w1)).sum, w.w2 + (es.map (·.wants.w2)).sum,
      w.w3 + (es.map (·.wants.w3)).sum⟩ := by
  induction es generalizing w with
  | nil => simp
  | cons e es ih =>
    rw [List.foldl_cons, ih]
    simp [Wants.add, Nat.add_assoc]

/-- The reserve of R38, where a stranger is held. -/
def State.reserveHeld (s : State) : Nat := if s.pt.stranger.isSome then s.pt.strangerReserve else 0

theorem State.totalsWith_eq (s : State) (w : Wants) : s.totalsWith w =
    ⟨w.w0 + (s.pt.entries.map (·.wants.w0)).sum, w.w1 + (s.pt.entries.map (·.wants.w1)).sum + s.reserveHeld,
      w.w2 + (s.pt.entries.map (·.wants.w2)).sum, w.w3 + (s.pt.entries.map (·.wants.w3)).sum⟩ := by
  unfold State.totalsWith State.reserveHeld
  rw [foldl_wants]
  dsimp only
  split <;> rfl

/-- Entries with no greater wants make no lower S_raw. -/
theorem rawWith_setEntries {s : State} {es : List Peer} (w : Wants)
    (h : ∀ f : Wants → Nat, (es.map fun e => f e.wants).sum ≤ (s.pt.entries.map fun e => f e.wants).sum) :
    (s.rawWith w).rank ≤ ((s.setEntries es).rawWith w).rank := by
  have h0 : (es.map (·.wants.w0)).sum ≤ (s.pt.entries.map (·.wants.w0)).sum := h (·.w0)
  have h1 : (es.map (·.wants.w1)).sum ≤ (s.pt.entries.map (·.wants.w1)).sum := h (·.w1)
  have h2 : (es.map (·.wants.w2)).sum ≤ (s.pt.entries.map (·.wants.w2)).sum := h (·.w2)
  have h3 : (es.map (·.wants.w3)).sum ≤ (s.pt.entries.map (·.wants.w3)).sum := h (·.w3)
  have e : (s.setEntries es).limitUsed = s.limitUsed := rfl
  have r : (s.setEntries es).reserveHeld = s.reserveHeld := rfl
  unfold State.rawWith
  rw [State.totalsWith_eq, State.totalsWith_eq, e, r]
  have x : (s.setEntries es).pt.entries = es := rfl
  rw [x]
  refine rawShed_antitone ?_ ?_ ?_ <;> dsimp only <;> omega

/-! ### What stands until the next recomputation -/

/-- What `ShedSound` says of the Load Budget where no recomputation is called for, with the own wants of the last one. -/
def ShedSettled (s : State) : Prop :=
  (∀ raw, s.lb.sRaw = some raw → s.lb.s.rank ≤ raw.rank) ∧
    (s.lb.holdoff ≠ none → ∃ raw, s.lb.sRaw = some raw ∧ s.lb.s.rank < raw.rank) ∧
    (s.life = .commissioning → s.lb.s = .allShed) ∧
    (s.lb.sEff = effectiveShed s.life s.lb.s ∧ s.lb.applied = appliedOf s.life s.lb.f) ∧
    s.lb.s.rank ≤ (s.rawWith s.lb.wOwn).rank

/-- What every kind of change keeps of the Load Budget: where the blocks run, a recomputation is called for or it is settled. -/
def ShedReady (s : State) : Prop :=
  (s.life.active = false → (∀ raw, s.lb.sRaw = some raw → s.lb.s.rank ≤ raw.rank) ∧ s.lb.holdoff = none ∧
    s.lb.sEff = effectiveShed s.life s.lb.s ∧ s.lb.applied = appliedOf s.life s.lb.f) ∧
    (s.life.active = true → s.lb.trigger = true ∨ ShedSettled s)

theorem ShedSound.ready {s : State} (h : ShedSound s) : ShedReady s := by
  obtain ⟨h1, h2, h3, h4, h5, h6⟩ := h
  refine ⟨fun a => ⟨h1, h3 a, h6⟩, fun a => .inr ⟨h1, h4, h5, h6, ?_⟩⟩
  obtain ⟨c, r⟩ := h2 a
  have w : s.ownWants = s.lb.wOwn := by
    unfold State.callsForRecompute at c
    simpa using (Bool.or_eq_false_iff.mp c).2
  rw [← w]
  exact r _ s.budget_sRaw_eq

theorem inactive_pair {l : LifeState} (h : l.active = false) (x : Shed) (f : Nat) :
    effectiveShed l x = .allShed ∧ appliedOf l f = 0 := by
  revert h
  cases l <;> simp [LifeState.active, effectiveShed, appliedOf]

namespace ShedReady
variable {s t : State}

theorem triggered (h : ShedReady s) : ShedReady s.trigger := ⟨h.1, fun _ => .inl rfl⟩

theorem onLife (l : LifeState) (a : l.active = true) : ShedReady (s.changeLife l) := by
  obtain ⟨sv, p, e⟩ := s.changeLife_eq l
  rw [e]
  refine ⟨fun n => ?_, fun _ => .inl rfl⟩
  rw [show State.life _ = l from rfl, a] at n
  cases n

theorem ofReset (l : s.life = .reset ∨ s.life = .strapRead) (b : s.lb = LoadBudget.atReset) : ShedReady s := by
  have n : s.life.active = false := by rcases l with l | l <;> rw [l] <;> rfl
  obtain ⟨p, q⟩ := inactive_pair n s.lb.s s.lb.f
  refine ⟨fun _ => ?_, fun a => by rw [n] at a; cases a⟩
  rw [p, q, b]
  exact ⟨fun _ e => (nomatch e), rfl, rfl, rfl⟩

/-- From one life state without running blocks to another. -/
theorem inactive (h : ShedReady s) (a : s.life.active = false) (b : t.life.active = false) (e : t.lb = s.lb) :
    ShedReady t := by
  obtain ⟨h1, h2, h3⟩ := h.1 a
  rw [(inactive_pair a _ 0).1, (inactive_pair a s.lb.s s.lb.f).2] at h3
  refine ⟨fun _ => ?_, fun c => (by rw [b] at c; cases c)⟩
  rw [(inactive_pair b _ 0).1, (inactive_pair b t.lb.s t.lb.f).2, e]
  exact ⟨h1, h2, h3.1, h3.2⟩

/-- Where neither the limit nor the wants in hand have moved against S. -/
theorem of_raw (h : ShedReady s) (l : t.life = s.life) (e : t.lb = s.lb)
    (r : s.lb.trigger = false → ShedSettled s → s.lb.s.rank ≤ (t.rawWith s.lb.wOwn).rank) : ShedReady t := by
  obtain ⟨h1, h2⟩ := h
  unfold ShedReady ShedSettled
  rw [l, e]
  refine ⟨h1, fun a => ?_⟩
  rcases h2 a with c | c
  · exact .inl c
  · cases g : s.lb.trigger with
    | true => exact .inl rfl
    | false =>
      have r := r g c
      obtain ⟨c1, c2, c3, c4, -⟩ := c
      exact .inr ⟨c1, c2, c3, c4, r⟩

theorem of_limit (h : ShedReady s) (l : t.life = s.life) (e : t.lb = s.lb) (u : t.limitUsed = s.limitUsed)
    (w : ∀ w, t.totalsWith w = s.totalsWith w) : ShedReady t :=
  h.of_raw l e fun _ c => by
    have : t.rawWith s.lb.wOwn = s.rawWith s.lb.wOwn := by
      unfold State.rawWith
      rw [u, w]
    rw [this]
    exact c.2.2.2.2

theorem updateView (h : ShedReady s) : ShedReady s.updateView := by
  unfold State.updateView
  split
  · exact h
  · exact ⟨h.1, fun _ => .inl rfl⟩

end ShedReady

/-! ### Events -/

theorem limitUsed_congr {s t : State} (v : t.pt.view = s.pt.view) (l : t.pt.lIsland = s.pt.lIsland) (i : t.island = s.island)
    (a : t.ownAddr = s.ownAddr) : t.limitUsed = s.limitUsed := by
  unfold State.limitUsed State.ownSource
  rw [v, l, i, a]

/-- The entries of the others and the one found are no more than all of them. -/
theorem sum_filter_find {es : List Peer} {src : Addr} {old : Peer} (f : Wants → Nat)
    (h : es.find? (fun e => e.addr = src) = some old) :
    ((es.filter fun e => e.addr ≠ src).map fun e => f e.wants).sum + f old.wants ≤ (es.map fun e => f e.wants).sum := by
  have part : ∀ l : List Peer,
      ((l.filter fun e => e.addr ≠ src).map fun e => f e.wants).sum ≤ (l.map fun e => f e.wants).sum := fun l =>
    (List.filter_sublist.map _).sum_le_sum fun _ _ => Nat.zero_le _
  induction es with
  | nil => cases h
  | cons e es ih =>
    by_cases c : e.addr = src
    · rw [List.find?_cons_of_pos (by simpa using c)] at h
      cases h
      have := part es
      simp only [List.filter_cons, c, ne_eq, not_true_eq_false, decide_false, Bool.false_eq_true, if_false,
        List.map_cons, List.sum_cons] at this ⊢
      omega
    · rw [List.find?_cons_of_neg (by simpa using c)] at h
      have := ih h
      simp only [List.filter_cons, c, ne_eq, not_false_eq_true, decide_true, if_true, List.map_cons,
        List.sum_cons] at this ⊢
      omega

/-- A STATE that changes nothing has the wants in hand. -/
theorem wants_of_same {old new : Peer} (h : isEntryChange old new = false) : (refreshed old new).wants = old.wants := by
  unfold isEntryChange at h
  have e : ({ refreshed old new with heardAt := old.heardAt } : Peer) = old := by simpa using (Bool.or_eq_false_iff.mp h).2
  show ({ refreshed old new with heardAt := old.heardAt } : Peer).wants = _
  rw [e]

theorem shedReady_unitKeeps : UnitKeeps ShedReady where
  drive s i d _ h := by cases i <;> exact h
  grants s l h := ⟨h.1, fun _ => .inl rfl⟩
  wakes s _ h := .onLife .run rfl
  units s t u h := by
    have e : t.lb = s.lb ∧ t.pt = s.pt ∧ t.lc = s.lc ∧ t.nc = s.nc := by rw [u.rest]; exact ⟨rfl, rfl, rfl, rfl⟩
    obtain ⟨lb, pt, lc, nc⟩ := e
    have l : t.limitUsed = s.limitUsed := limitUsed_congr (by rw [pt]) (by rw [pt])
      (by unfold State.island; rw [lc]) (by unfold State.ownAddr; rw [nc])
    exact h.of_limit u.life lb l fun w => by unfold State.totalsWith; rw [pt]
  charge s sh vb _ _ h := by
    unfold State.ccTakes
    dsimp only
    split
    · exact ShedReady.updateView (s := { s with cc := _ }) h
    · exact ShedReady.updateView (s := { s with cc := _ }) h

theorem island_shedReady {s t : State} (h : ShedReady s) (l : t.life = s.life) (b : t.lb = s.lb) (p : t.pt = s.pt)
    (a : t.ownAddr = s.ownAddr) : ShedReady (islandEvent s t) := by
  unfold islandEvent
  split
  next i =>
    exact h.of_limit l b (limitUsed_congr (by rw [p]) (by rw [p]) i a) fun w => by unfold State.totalsWith; rw [p]
  · refine ⟨fun n => ?_, fun _ => .inl rfl⟩
    have := h.1 (by rw [← l]; exact n)
    rw [← b, ← l] at this
    exact this

theorem entryChange_shedReady {s : State} (es : List Peer) (h : ShedReady s) : ShedReady (s.setEntries es).entryChange :=
  shedReady_unitKeeps.toWakeKeeps.interlockEvent shedReady_unitKeeps.view (s := (s.setEntries es).trigger)
    ⟨h.1, fun _ => .inl rfl⟩

theorem peerState_shedReady {s : State} (src : Addr) (p : List Byte) (h : ShedReady s) : ShedReady (s.peerState src p) := by
  unfold State.peerState
  dsimp only
  split
  next old ho =>
    split
    · exact entryChange_shedReady _ h
    next hc =>
      refine h.of_raw rfl rfl fun _ c => c.2.2.2.2.trans (rawWith_setEntries _ fun f => ?_)
      rw [List.map_append, List.sum_append]
      have := sum_filter_find f ho
      simpa [wants_of_same (by simpa using hc)] using this
  · split
    · exact entryChange_shedReady _ h
    · split
      · exact entryChange_shedReady _ h
      · unfold State.seeStranger
        dsimp only
        split
        next z =>
          refine h.of_limit rfl rfl rfl fun w => ?_
          unfold State.totalsWith
          rw [z]
          rfl
        · exact ⟨h.1, fun _ => .inl rfl⟩

theorem shedReady_eventKeeps : EventKeeps ShedReady where
  toWakeKeeps := shedReady_unitKeeps.toWakeKeeps
  cold s _ := .ofReset (.inl rfl) rfl
  warm s h := by
    unfold State.warmReset
    split
    · exact h
    · exact .ofReset (.inl rfl) rfl
  cause s c _ h := by cases c <;> exact h
  leaves s hl h := h.inactive (by rw [hl]; rfl) rfl rfl
  restart s _ := .ofReset (.inr rfl) rfl
  flags s h := by
    unfold State.syncFlags
    split <;> exact h
  life s _ h := .onLife _ rfl
  listens s _ h := shedReady_unitKeeps.toWakeKeeps.stopSending (fun _ _ h => h) (.onLife _ rfl)
  dormant s _ _ h := .onLife _ rfl
  units := shedReady_unitKeeps.units
  inputEvent s g v f h := shedReady_unitKeeps.inputEvent g v f h
  role s a r an sh vb _ h := shedReady_unitKeeps.enterCommissioning an sh vb
    (ShedReady.onLife (s := s.takeRole a r) .commissioning rfl)
  strapFault s hl h := h.inactive (by rw [hl]; rfl) rfl rfl
  window s x y _ h := h
  receiver s f _ e g h := h.of_limit rfl rfl (limitUsed_congr rfl rfl
    (by show ((f s.lc).linkFault || (f s.lc).alone) = _; rw [e, g]; rfl) rfl) fun _ => rfl
  island s f _ h := island_shedReady h rfl rfl rfl rfl
  bitError s f g _ h := island_shedReady h rfl rfl rfl rfl
  charge := shedReady_unitKeeps.charge
  peerState s src p _ _ h := peerState_shedReady src p h
  cabins s es e h := h.of_raw rfl rfl fun _ c => c.2.2.2.2.trans (rawWith_setEntries _ fun f => by
    have := congrArg (List.map fun e : Peer => f e.wants) e
    rw [List.map_map, List.map_map] at this
    exact le_of_eq (congrArg List.sum this))
  candidates s cs h := by
    have g : ShedReady (s.onPeers fun t => { t with candidates := cs }).syncConflict := by
      unfold State.syncConflict
      split <;> exact h
    unfold State.takeCandidates
    dsimp only
    split
    · exact g.updateView
    · exact g.updateView.triggered
  ages s a st h := entryChange_shedReady _ h
  stranger s h := ⟨h.1, fun _ => .inl rfl⟩
  linkRecord s p hl h := by
    unfold State.applyLink
    dsimp only
    split
    · refine h.of_raw rfl rfl fun _ c => ?_
      rw [c.2.2.1 hl]
      exact Nat.zero_le _
    · exact ⟨h.1, fun _ => .inl rfl⟩
  holdoff s n h := ⟨fun a => absurd (h.1 a).2.1 n, fun _ => .inl rfl⟩
  pop s h := h
  enqueue s e h := by
    unfold State.enqueue
    split
    · dsimp only
      split <;> exact h
    · exact h
  answerGone s a l _ h := h
  channelRecord s i p _ h := h

end Sys2Proof.Machine
end

section
/-! PROOFS. O6: a recomputation settles the shed level, and the chain of one instant ends. -/

namespace Sys2Proof.Machine

/-! ### A recomputation settles the level -/

/-- Step 4 takes S no higher than S_raw or leaves a lower one, with a holdoff only below S_raw (R43 to R46). -/
theorem shedStep_le (life : LifeState) (now : Nat) (lb : LoadBudget) (raw : Shed) (restore : Bool) :
    (shedStep life now lb raw restore).1.rank ≤ raw.rank ∧
      ((shedStep life now lb raw restore).2.1 ≠ none → (shedStep life now lb raw restore).1.rank < raw.rank) ∧
      (life = .commissioning → (shedStep life now lb raw restore).1 = .allShed) := by
  unfold shedStep
  split
  · exact ⟨Nat.zero_le _, fun n => absurd rfl n, fun _ => rfl⟩
  next l =>
    split
    · exact ⟨Nat.le_refl _, fun n => absurd rfl n, fun e => absurd e l⟩
    · split
      · exact ⟨Nat.le_refl _, fun n => absurd rfl n, fun e => absurd e l⟩
      · split
        · exact ⟨by dsimp only; omega, fun _ => by dsimp only; omega, fun e => absurd e l⟩
        · exact ⟨by dsimp only; omega, fun n => absurd rfl n, fun e => absurd e l⟩

theorem ShedSettled.budget (s : State) : ShedSettled { s with lb := s.budget } := by
  have e := s.budget_sRaw_eq
  have k := State.budget_shedStep e
  obtain ⟨h1, h2, h3⟩ := shedStep_le s.life s.now s.lb (s.rawWith s.ownWants)
    (restoreHolds s.lb.s s.budget.lU s.budget.t0 s.budget.t1 s.budget.t2 s.budget.t3)
  rw [← k] at h1 h2 h3
  have le : ∀ raw, s.budget.sRaw = some raw → s.budget.s.rank ≤ raw.rank := fun raw r => by
    rw [e] at r
    cases r
    exact h1
  exact ⟨le, fun n => ⟨_, e, h2 n⟩, h3, ⟨rfl, rfl⟩, h1⟩

theorem ShedSettled.of_eq {s t : State} (h : ShedSettled s) (lb : t.lb = s.lb) (pt : t.pt = s.pt) (lc : t.lc = s.lc)
    (l : t.life = s.life) (a : t.ownAddr = s.ownAddr) : ShedSettled t := by
  have u : t.limitUsed = s.limitUsed :=
    limitUsed_congr (by rw [pt]) (by rw [pt]) (by unfold State.island; rw [lc]) a
  have r : t.rawWith t.lb.wOwn = s.rawWith s.lb.wOwn := by
    unfold State.rawWith State.totalsWith
    rw [u, pt, lb]
  unfold ShedSettled
  rw [r, lb, l]
  exact h

theorem settled_followKeeps : FollowKeeps ShedSettled where
  drive s i d _ h := by cases i <;> exact h
  locks s _ h := h
  budget s _ _ := .budget s
  channels s _ h := h
  heating s _ h := by
    have u := units_heatingReacts s
    exact h.of_eq (by rw [u.rest]) (by rw [u.rest]) (by rw [u.rest]) u.life (by rw [u.rest]; rfl)
  flags s h := by
    unfold State.syncFlags
    split <;> exact h

/-! ### Own wants -/

theorem Channel.wants_congr {c d : Channel} (curve : Vector Nat 64) (r : d.record = c.record) (k : d.core = c.core)
    (f : d.state = .fault ↔ c.state = .fault) (i : d.inhibit = c.inhibit) : d.wants curve = c.wants curve := by
  simp only [Channel.record, Channel.core, Prod.mk.injEq] at r k
  obtain ⟨fn, -, cls, nominal, -, dimmable, -⟩ := r
  obtain ⟨request, -, -, target, -, -, -, -, -, -, -, -, given⟩ := k
  unfold Channel.wants Channel.want Channel.classUsed
  simp only [fn, cls, nominal, dimmable, request, target, given, f, i]

theorem ownWants_congr {s t : State} (c : ∀ i : Fin 8, t.sw[i].wants t.light.curve = s.sw[i].wants s.light.curve)
    (a : t.ma.wants = s.ma.wants) (b : t.mb.wants = s.mb.wants) : t.ownWants = s.ownWants := by
  unfold State.ownWants
  simp only [c, a, b]

theorem ownWants_evaluateChannels (s : State) : s.evaluateChannels.ownWants = s.ownWants := by
  refine ownWants_congr (fun i => ?_) rfl rfl
  have g : s.evaluateChannels.sw[i] = s.sw[i].evaluate s.chEnv := by simp [State.evaluateChannels]
  obtain ⟨r, k, -, -, f, -, -⟩ := Channel.kept_evaluate False s.chEnv s.sw[i]
  rw [g]
  exact Channel.wants_congr _ r (k (.inr id)) f (Channel.evaluate_inhibit _ _)

/-- The Heating unit stops firing, or changes no want. -/
theorem heatingReacts_wants (s : State) : (s.ht.burner = .firing ∧ s.heatingReacts.ht.burner ≠ .firing) ∨
    (s.heatingReacts.ht.burner = s.ht.burner ∧ s.heatingReacts.ownWants = s.ownWants) := by
  unfold State.heatingReacts
  split
  next w _ =>
    split
    · exact .inl ⟨w, by simp [State.abandonFiring, State.onHeating]⟩
    · split <;> exact .inr ⟨rfl, rfl⟩
  next w _ =>
    split
    · exact .inl ⟨w, by simp [State.burnerOff, State.onHeating]⟩
    · exact .inr ⟨rfl, rfl⟩
  · exact .inr ⟨rfl, rfl⟩

/-! ### What can still call for a recomputation -/

/-- The drive is in the grant list. -/
def State.listed (s : State) (i : DriveId) : Bool := s.lb.grants.any (·.drive = i)

/-- How often one instant can still call for a recomputation: by the firing burner and by the drives in the grant list. -/
def State.callsLeft (s : State) : Nat :=
  (if s.ht.burner = .firing then 1 else 0) + (if s.listed .ma then 1 else 0) + (if s.listed .mb then 1 else 0)

theorem State.callsLeft_le (s : State) : s.callsLeft ≤ 3 := by
  unfold State.callsLeft
  split_ifs <;> omega

/-- Nothing more is called for, or a cause of a call is used up. -/
def CallsFade (s t : State) : Prop :=
  t.callsLeft < s.callsLeft ∨ (t.callsLeft = s.callsLeft ∧ t.callsForRecompute = s.callsForRecompute)

theorem CallsFade.refl (s : State) : CallsFade s s := .inr ⟨rfl, rfl⟩

theorem CallsFade.trans {s t u : State} (h : CallsFade s t) (g : CallsFade t u) : CallsFade s u := by
  rcases h with h | ⟨h, h'⟩ <;> rcases g with g | ⟨g, g'⟩
  · exact .inl (g.trans h)
  · exact .inl (g ▸ h)
  · exact .inl (h ▸ g)
  · exact .inr ⟨g.trans h, g'.trans h'⟩

theorem CallsFade.of_eq {s t : State} (b : t.ht = s.ht) (l : t.lb = s.lb) (w : t.ownWants = s.ownWants) : CallsFade s t := by
  refine .inr ⟨?_, ?_⟩
  · unfold State.callsLeft State.listed
    rw [b, l]
  · unfold State.callsForRecompute
    rw [l, w]

theorem fade_evaluateChannels (s : State) : CallsFade s s.evaluateChannels :=
  .of_eq rfl rfl (ownWants_evaluateChannels s)

theorem fade_heatingReacts (s : State) : CallsFade s s.heatingReacts := by
  have lb : s.heatingReacts.lb = s.lb := by rw [(units_heatingReacts s).rest]
  rcases heatingReacts_wants s with ⟨w, n⟩ | ⟨b, w⟩
  · refine .inl ?_
    unfold State.callsLeft State.listed
    rw [lb, if_pos w, if_neg n]
    omega
  · refine .inr ⟨?_, ?_⟩
    · unfold State.callsLeft State.listed
      rw [lb, b]
    · unfold State.callsForRecompute
      rw [lb, w]

theorem fade_channelsFollow (s : State) : CallsFade s s.channelsFollow :=
  ((fade_evaluateChannels s).trans (fade_heatingReacts _)).trans (fade_evaluateChannels _)

/-- A grant takes the drive from the list. -/
theorem grant_unlists (s : State) (i : DriveId) : (s.grant i).listed i = false := by
  have gone : ∀ {t u : State}, Moved i (t.leaveGrantList i) u → u.listed i = false := fun m => by
    have k := m.1 .grants (by simp)
    unfold State.listed
    simp only [List.any_eq_false, decide_eq_true_eq]
    intro g hg
    simpa using (List.mem_filter.mp (k g hg)).2
  unfold State.grant
  dsimp only
  split
  · split
    · exact gone (moved_comeToRest _ _ _)
    · exact gone (moved_setDrive _ _ _ rfl)
  · exact gone (.refl i _)

theorem listed_of_frame {s t : State} {c : List Block} (f : Frame c s t) (m : Block.grants ∉ c) {i : DriveId}
    (h : t.listed i = true) : s.listed i = true := by
  unfold State.listed at h ⊢
  obtain ⟨g, hg, e⟩ := List.any_eq_true.mp h
  exact List.any_eq_true.mpr ⟨g, f .grants m g hg, e⟩

theorem fade_grantListed (s : State) (i : DriveId) : CallsFade s (s.grantListed i) := by
  unfold State.grantListed
  split
  next h =>
    refine .inl ?_
    have b : (s.grant i).ht = s.ht := by rw [show s.grant i = _ from (motionKeeps_alone s).grant i (.refl s)]
    have own := grant_unlists s i
    have other := fun j => listed_of_frame (frame_grant s i) (by simp) (i := j)
    have h : s.listed i = true := h
    have le : ∀ j, (if (s.grant i).listed j then 1 else 0) ≤ (if s.listed j then 1 else 0 : Nat) := fun j => by
      split
      next x => rw [if_pos (other j x)]
      · exact Nat.zero_le _
    have a := le .ma
    have c := le .mb
    unfold State.callsLeft
    rw [b]
    cases i <;> rw [own, h] at * <;> simp only [if_true, Bool.false_eq_true, if_false] at * <;> omega
  · exact .refl s

theorem fade_giveGrants (s : State) : CallsFade s s.giveGrants := by
  unfold State.giveGrants
  split
  · exact (fade_grantListed s .ma).trans (fade_grantListed _ .mb)
  · exact .refl s

theorem fade_syncFlags (s : State) : CallsFade s s.syncFlags := by
  unfold State.syncFlags
  split
  · exact .refl s
  · exact .of_eq rfl rfl rfl

/-- What calls for another recomputation after one uses up a cause. -/
theorem follow_fades {s : State} (h : s.follow.callsForRecompute = true) : s.follow.callsLeft < s.callsLeft := by
  have quiet : ∀ {t u : State}, t.callsLeft = s.callsLeft → t.callsForRecompute = false → CallsFade t u →
      u.callsForRecompute = true → u.callsLeft < s.callsLeft := fun e n g c => by
    rcases g with g | ⟨-, g⟩
    · exact e ▸ g
    · rw [g, n] at c
      cases c
  have l : s.syncLocks.callsLeft = s.callsLeft := rfl
  unfold State.follow at h ⊢
  dsimp only at h ⊢
  split at h
  next c =>
    rw [if_pos c]
    refine quiet (t := { s.syncLocks with lb := s.syncLocks.budget }) l ?_
      (((fade_channelsFollow _).trans (fade_giveGrants _)).trans (fade_syncFlags _)) h
    show (false || decide (s.syncLocks.ownWants ≠ s.syncLocks.ownWants)) = false
    simp
  next c =>
    rw [if_neg c]
    exact quiet l (by simpa using c) (fade_channelsFollow _) h

/-- The chain of recomputations of one instant ends (log entry 22). -/
theorem followAll_ends (n : Nat) (s : State) (h : s.callsLeft ≤ n) : (s.followAll (n + 1)).callsForRecompute = false := by
  induction n generalizing s with
  | zero =>
    have e : s.followAll 1 = s.follow := by
      unfold State.followAll
      dsimp only
      split <;> rfl
    rw [e]
    by_contra c
    have := follow_fades (by simpa using c)
    omega
  | succ n ih =>
    unfold State.followAll
    dsimp only
    split
    next c =>
      have := follow_fades c
      exact ih _ (by omega)
    next c => simpa using c

/-! ### `finish` -/

theorem shedReady_dispatchKeeps : DispatchKeeps ShedReady where
  toWakeKeeps := shedReady_unitKeeps.toWakeKeeps
  settings s h := by
    unfold State.takeSettings
    split
    · split
      · split <;> exact h
      · exact h
    · exact h

theorem settled_follow {s : State} (a : s.life.active = true) (h : ShedReady s) : ShedSettled s.follow := by
  unfold State.follow
  dsimp only
  split
  · exact settled_followKeeps.flags _ (settled_followKeeps.giveGrants
      (settled_followKeeps.channelsFollow (s := { s.syncLocks with lb := s.syncLocks.budget }) a (.budget _)))
  next c =>
    refine settled_followKeeps.channelsFollow a ((h.2 a).resolve_left fun t => c ?_)
    unfold State.callsForRecompute
    rw [show s.syncLocks.lb.trigger = true from t]
    rfl

theorem settled_followAll {s : State} (n : Nat) (a : s.life.active = true) (h : ShedReady s) :
    ShedSettled (s.followAll (n + 1)) := by
  unfold State.followAll
  dsimp only
  split
  · exact settled_followKeeps.followAll n (active_of_frame (frame_follow s) (by simp) a) (settled_follow a h)
  · exact settled_follow a h

/-- Settled, with no recomputation called for. -/
theorem ShedSettled.sound {s : State} (a : s.life.active = true) (c : s.callsForRecompute = false) (h : ShedSettled s) :
    ShedSound s := by
  obtain ⟨h1, h2, h3, h4, h5⟩ := h
  have w : s.ownWants = s.lb.wOwn := by
    unfold State.callsForRecompute at c
    simpa using (Bool.or_eq_false_iff.mp c).2
  refine ⟨h1, fun _ => ⟨c, fun raw r => ?_⟩, fun n => (by rw [a] at n; cases n), h2, h3, h4⟩
  rw [s.budget_sRaw_eq] at r
  cases r
  rw [w]
  exact h5

theorem ShedReady.sound {s : State} (n : s.life.active = false) (h : ShedReady s) : ShedSound s := by
  obtain ⟨h1, h2, h3⟩ := h.1 n
  refine ⟨h1, fun x => (by rw [n] at x; cases x), fun _ => h2, fun x => absurd h2 x, fun x => ?_, h3⟩
  rw [x] at n
  cases n

theorem ShedReady.finish {s : State} (h : ShedReady s) : ShedSound s.finish := by
  have g := shedReady_dispatchKeeps.dispatch h
  unfold State.finish State.settle
  split
  next a =>
    have c := followAll_ends 7 s.dispatch (s.dispatch.callsLeft_le.trans (by decide))
    have k := settled_followAll 7 a g
    have a := active_of_frame (frame_followAll 8 s.dispatch) (by simp) a
    have f := settled_followKeeps.flags _ k
    refine f.sound ?_ ?_
    · unfold State.syncFlags
      split <;> exact a
    · unfold State.syncFlags
      split <;> exact c
  next a =>
    have k := g.sound (by simpa using a)
    unfold State.syncFlags
    split <;> exact k

end Sys2Proof.Machine
end

section
/-! PROOFS. O6: the quiet changes, and the statement. -/

namespace Sys2Proof.Machine

/-- Level, wants and limit are the same. -/
theorem ShedSound.of_eq {s t : State} (h : ShedSound s) (l : t.life = s.life) (lb : t.lb = s.lb)
    (w : t.ownWants = s.ownWants) (u : t.limitUsed = s.limitUsed) (x : ∀ w, t.totalsWith w = s.totalsWith w) : ShedSound t := by
  have c : t.callsForRecompute = s.callsForRecompute := by
    unfold State.callsForRecompute
    rw [lb, w]
  have r : t.budget.sRaw = s.budget.sRaw := by
    rw [t.budget_sRaw_eq, s.budget_sRaw_eq, w]
    unfold State.rawWith
    rw [u, x]
  unfold ShedSound
  rw [l, lb, c, r]
  exact h

theorem ShedSound.onLink {s : State} {f : LinkController → LinkController} (h : ShedSound s)
    (l : (f s.lc).linkFault = s.lc.linkFault) (a : (f s.lc).alone = s.lc.alone) : ShedSound (s.onLink f) :=
  h.of_eq rfl rfl rfl (limitUsed_congr rfl rfl
    (by show ((f s.lc).linkFault || (f s.lc).alone) = _; rw [l, a]; rfl) rfl) fun _ => rfl

theorem ShedSound.onChannel {s : State} (h : ShedSound s) (i : Fin 8) {f : Channel → Channel}
    (k : ∀ c, (f c).wants s.light.curve = c.wants s.light.curve) : ShedSound (s.onChannel i f) := by
  refine h.of_eq rfl rfl (ownWants_congr (fun j => ?_) rfl rfl) rfl fun _ => rfl
  by_cases e : j = i
  · subst e
    rw [State.onChannel_get]
    exact k _
  · rw [State.onChannel_get_ne s e]
    rfl

theorem Drive.pulse_wants (d : Drive) (now : Nat) : (d.pulse now).wants = d.wants := by
  unfold Drive.pulse
  dsimp only
  split <;> rfl

theorem ShedSound.quiet {s t : State} (h : ShedSound s) (v : Quiet s t) : ShedSound t := by
  cases v with
  | coldReset => exact (ShedReady.ofReset (.inl rfl) rfl).sound rfl
  | warmReset =>
    unfold State.warmReset
    split
    · exact h
    · exact (ShedReady.ofReset (.inl rfl) rfl).sound rfl
  | causeEnds c _ => cases c <;> exact h
  | leavesReset c hl =>
    have r := h.ready.inactive (t := (s.endCause c).enterStrapRead) (by rw [hl]; rfl) rfl (by cases c <;> rfl)
    exact r.sound rfl
  | batteryPeriod | sample | anemometer | timers => exact h
  | receiver f r => exact h.onLink r.2.1 r.2.2
  | latch f g _ l a => exact h.onLink l a
  | withdraw f g w => exact h.onLink w.2.1 w.2.2
  | cabinExpiry a =>
    refine h.of_eq rfl rfl rfl rfl fun w => ?_
    have k : ∀ f : Wants → Nat, ((onEntry a (fun e => { e with cabin := none }) s.pt.entries).map fun e => f e.wants) =
        s.pt.entries.map fun e => f e.wants := fun f => by
      have := congrArg (List.map fun e : Peer => f e.wants)
        (onEntry_cabin a (fun e => { e with cabin := none }) (fun _ => rfl) s.pt.entries)
      rwa [List.map_map, List.map_map] at this
    have k0 : _ = s.pt.entries.map (·.wants.w0) := k (·.w0)
    have k1 : _ = s.pt.entries.map (·.wants.w1) := k (·.w1)
    have k2 : _ = s.pt.entries.map (·.wants.w2) := k (·.w2)
    have k3 : _ = s.pt.entries.map (·.wants.w3) := k (·.w3)
    rw [State.totalsWith_eq, State.totalsWith_eq, ← k0, ← k1, ← k2, ← k3]
    rfl
  | blankingEnd ch | historyEnd ch | openLoad ch _ => exact h.onChannel ch fun _ => rfl
  | hallPulse i =>
    have w : (s.onDrive i (Drive.pulse s.now)).ownWants = s.ownWants := by
      cases i with
      | ma => exact ownWants_congr (fun _ => rfl) (Drive.pulse_wants _ _) rfl
      | mb => exact ownWants_congr (fun _ => rfl) rfl (Drive.pulse_wants _ _)
    cases i <;> exact h.of_eq rfl rfl w rfl fun _ => rfl
  | flowPulse =>
    refine h.of_eq rfl rfl (ownWants_congr (fun i => ?_) rfl rfl) rfl fun _ => rfl
    rw [State.onFunction_get]
    split <;> rfl

/-- Settles O6: `finish` ends in a recomputation with nothing left to call for another, and until it every change against S has
called for one. -/
theorem shedStaysSound : Obligations.ShedStaysSound :=
  keptByEveryStep_of_cases (Q := ShedReady) (fun _ _ h => h) (fun _ _ h => h) (fun _ _ h v => h.quiet v)
    (fun _ _ h v => shedReady_eventKeeps.event v h.ready) fun _ h => h.finish

end Sys2Proof.Machine
end

section
/-! PROOFS. O7: what the life states promise. -/

namespace Sys2Proof.Machine

/-! ### Before the end of the window -/

/-- Nothing has started and nothing is pending outside the operating states. -/
def Unstarted (s : State) : Prop :=
  s.life.operating = false → s.nc.started = false ∧ s.od.storePending = false ∧ s.od.restartPending = false

theorem Unstarted.ofLife {s : State} (h : s.life.operating = true) : Unstarted s := fun n => by
  rw [h] at n
  cases n

theorem Unstarted.changeLife {s : State} (l : LifeState) (h : Unstarted s) (o : l.operating = false → s.life.operating = false) :
    Unstarted (s.changeLife l) := by
  obtain ⟨sv, p, e⟩ := s.changeLife_eq l
  rw [e]
  exact fun n => h (o n)

theorem unstarted_peerKeeps : PeerKeeps Unstarted where
  drive s i d _ h := by cases i <;> exact h
  wakes s _ _ := .ofLife (congrArg LifeState.operating (State.changeLife_life .run s))
  store s h := fun n => ⟨(h n).1, rfl, (h n).2.2⟩
  units s t u h := by rw [u.rest]; exact h
  charge s sh vb _ _ h := by
    obtain ⟨v, p, b, e⟩ := s.ccTakes_eq sh vb
    rw [e]
    exact h

theorem Unstarted.syncFlags {s : State} (h : Unstarted s) : Unstarted s.syncFlags := by
  unfold State.syncFlags
  split <;> exact h

theorem unstarted_eventKeeps : EventKeeps Unstarted where
  toWakeKeeps := unstarted_peerKeeps.toWakeKeeps
  cold s _ := fun _ => ⟨rfl, rfl, rfl⟩
  warm s h := by
    unfold State.warmReset
    split
    · exact h
    · exact fun _ => ⟨rfl, rfl, rfl⟩
  cause s c _ h := by cases c <;> exact h
  leaves s hl h := fun _ => h (by rw [hl]; rfl)
  restart s _ := fun _ => ⟨rfl, rfl, rfl⟩
  flags s h := h.syncFlags
  life s _ h := h.changeLife _ (by simp [LifeState.operating])
  listens s _ h := unstarted_peerKeeps.toWakeKeeps.stopSending (fun _ _ h => h) (h.changeLife _ (by simp [LifeState.operating]))
  dormant s _ _ h := h.changeLife _ (by simp [LifeState.operating])
  units := unstarted_peerKeeps.units
  inputEvent s g v f h := unstarted_peerKeeps.inputEvent g v f h
  role s a r an sh vb hl h := unstarted_peerKeeps.enterCommissioning an sh vb
    (Unstarted.changeLife (s := s.takeRole a r) .commissioning h fun _ => by
      show s.life.operating = false
      rw [hl]; rfl)
  strapFault s hl h := fun _ => h (by rw [hl]; rfl)
  window s x y hl h := fun _ => h (by rw [hl]; rfl)
  started s hl _ := .ofLife hl
  island s f _ h := islandEvent_cases (P := Unstarted) h h
  bitError s f g _ h := islandEvent_cases (P := Unstarted) h h
  charge := unstarted_peerKeeps.charge
  peerState s src p _ _ h := unstarted_peerKeeps.peerState src p h
  cabins s es _ h := h
  candidates s cs h := by
    obtain ⟨c, x, v, p, b, e⟩ := s.takeCandidates_eq cs
    rw [e]
    exact h
  ages s a st h := unstarted_peerKeeps.ages a st h
  linkRecord s p _ h := unstarted_peerKeeps.linkRecord p h
  pop s h := h
  enqueue s e h := by
    unfold State.enqueue
    split
    · dsimp only
      split <;> exact h
    · exact h
  answerGone s a l _ h := h
  requests s x y hl _ := .ofLife hl
  channelRecord s i p _ h := h

theorem unstarted_finishKeeps : FinishKeeps Unstarted where
  toWakeKeeps := unstarted_peerKeeps.toWakeKeeps
  settings s h := by
    unfold State.takeSettings
    split
    · split
      · split <;> exact h
      · exact h
    · exact h
  overflow s h := by
    unfold Dispatcher.clearOverflow
    split <;> exact h
  locks s _ h := h
  channels s _ h := h
  heating s _ h := unstarted_peerKeeps.units _ _ (units_heatingReacts s) h
  flags s h := h.syncFlags

/-! ### Silence -/

/-- A node whose life state drives no slots sends nothing. -/
def Mute (s : State) : Prop := s.life.drivesSlots = false → s.sending = false

theorem Mute.ofLife {s : State} (h : s.life.drivesSlots = true) : Mute s := fun n => by
  rw [h] at n
  cases n

theorem Mute.changeLife {s : State} (l : LifeState) (h : l.drivesSlots = true) : Mute (s.changeLife l) :=
  .ofLife (by rw [s.changeLife_life]; exact h)

theorem Mute.onLink {s : State} {f : LinkController → LinkController} (h : Mute s) (k : SendsNoMore f s) :
    Mute (s.onLink f) := fun n => by
  have q := h n
  have n : s.life.drivesSlots = false := n
  unfold State.sending at q ⊢
  cases e : (f s.lc).service with
  | none => rw [show (s.onLink f).lc.service = _ from e]
  | some v =>
    rw [show (s.onLink f).lc.service = _ from e]
    rcases k with k | k
    · rw [n] at k
      cases k
    · rcases k v e with k | k
      · rw [k] at q
        exact q
      · exact k

theorem mute_peerKeeps : PeerKeeps Mute where
  drive s i d _ h := by cases i <;> exact h
  wakes s _ _ := .changeLife _ rfl
  units s t u h := by rw [u.rest]; exact h
  charge s sh vb _ _ h := by
    obtain ⟨v, p, b, e⟩ := s.ccTakes_eq sh vb
    rw [e]
    exact h

theorem Mute.syncFlags {s : State} (h : Mute s) : Mute s.syncFlags := by
  unfold State.syncFlags
  split <;> exact h

theorem State.stopSending_service (s : State) : s.stopSending.lc.service = none := by
  unfold State.stopSending
  split
  · rfl
  next e => exact e

theorem mute_eventKeeps : EventKeeps Mute where
  toWakeKeeps := mute_peerKeeps.toWakeKeeps
  cold s _ := fun _ => rfl
  warm s h := by
    unfold State.warmReset
    split
    · exact h
    · exact fun _ => rfl
  cause s c _ h := by cases c <;> exact h
  leaves s hl h := fun _ => h (by rw [hl]; rfl)
  restart s _ := fun _ => rfl
  flags s h := h.syncFlags
  life s _ _ := .changeLife _ rfl
  listens s _ h := by
    refine fun _ => ?_
    unfold State.sending
    rw [State.stopSending_service]
  dormant s _ _ _ := .changeLife _ rfl
  units := mute_peerKeeps.units
  inputEvent s g v f h := mute_peerKeeps.inputEvent g v f h
  receiver s f k _ _ h := h.onLink k
  role s a r an sh vb _ _ := mute_peerKeeps.enterCommissioning an sh vb (Mute.changeLife (s := s.takeRole a r) .commissioning rfl)
  strapFault s hl h := fun _ => h (by rw [hl]; rfl)
  window s x y _ h := h
  island s f k h := islandEvent_cases (P := Mute) (h.onLink k) (h.onLink k)
  bitError s f g k h := islandEvent_cases (P := Mute) (h.onLink k) (h.onLink k)
  charge := mute_peerKeeps.charge
  peerState s src p _ _ h := mute_peerKeeps.peerState src p h
  cabins s es _ h := h
  candidates s cs h := by
    obtain ⟨c, x, v, p, b, e⟩ := s.takeCandidates_eq cs
    rw [e]
    exact h
  ages s a st h := mute_peerKeeps.ages a st h
  linkRecord s p _ h := mute_peerKeeps.linkRecord p h
  pop s h := h
  enqueue s e h := by
    unfold State.enqueue
    split
    · dsimp only
      split <;> exact h
    · exact h
  answerGone s a l _ h := h
  channelRecord s i p _ h := h

theorem mute_finishKeeps : FinishKeeps Mute where
  toWakeKeeps := mute_peerKeeps.toWakeKeeps
  settings s h := by
    unfold State.takeSettings
    split
    · split
      · split <;> exact h
      · exact h
    · exact h
  locks s _ h := h
  channels s _ h := h
  heating s _ h := mute_peerKeeps.units _ _ (units_heatingReacts s) h
  flags s h := h.syncFlags

theorem Silent_iff {s : State} : Silent s ↔ Mute s := by
  unfold Silent Mute State.trvDriven
  cases s.life <;> simp [LifeState.drivesSlots]

theorem silent_kept : KeptByEveryStep Silent := by
  have h := mute_eventKeeps.keptByEveryStep fun _ => mute_finishKeeps.finish
  intro s t hs e
  exact Silent_iff.mpr (h s t (Silent_iff.mp hs) e)

end Sys2Proof.Machine
end

section
/-! PROOFS. O7: a DORMANT node has no busy drive and no addressed request before it. -/

namespace Sys2Proof.Machine

/-! ### No busy drive in DORMANT -/

def Resting (s : State) : Prop := s.life = .dormant → s.driveBusy = false

theorem driveBusy_iff {s : State} : s.driveBusy = false ↔ ∀ i, (s.drive i).state.busy = false := by
  unfold State.driveBusy
  rw [Bool.or_eq_false_iff]
  exact ⟨fun h i => by cases i; exacts [h.1, h.2], fun h => ⟨h .ma, h .mb⟩⟩

theorem dormant_of_frame {c : List Block} {s t : State} (f : Frame c s t) (m : Block.life ∉ c) (h : t.life = .dormant) :
    s.life = .dormant := by
  rcases f .life m with e | e
  · rwa [← e]
  · exact e.1

namespace Resting
variable {s t : State}

theorem ofLife (h : s.life ≠ .dormant) : Resting s := fun e => absurd e h

theorem ofRest (h : s.driveBusy = false) : Resting s := fun _ => h

theorem of_eq (h : Resting s) (l : t.life = s.life) (a : t.ma = s.ma) (b : t.mb = s.mb) : Resting t := by
  unfold Resting State.driveBusy
  rw [l, a, b]
  exact h

theorem of_frame {c : List Block} (h : Resting s) (f : Frame c s t) (m : Block.life ∉ c) (n : Block.drives ∉ c) : Resting t := by
  intro e
  have d := dormant_of_frame f m e
  have b := driveBusy_iff.mp (h d)
  refine driveBusy_iff.mpr fun i => ?_
  have w : (s.drive i).state ≠ .waitGrant := fun x => by
    have := b i
    rw [x] at this
    cases this
  rw [Drive.state_of_motion ((f .drives n (e.trans d.symm) i).1 w)]
  exact b i

theorem units (h : Resting s) (u : UnitsAlone s t) : Resting t := h.of_eq u.life (by rw [u.rest]) (by rw [u.rest])

theorem reply (h : Resting s) (r : Option Requester) (c : AnswerCode) : Resting (s.reply r c) :=
  h.of_frame (frame_reply s r c) (by simp) (by simp)

theorem wakeCause (h : Resting s) (w : Bool) : Resting (s.wakeCause w) :=
  h.of_frame (frame_wakeCause w s) (by simp) (by simp)

theorem syncFlags (h : Resting s) : Resting s.syncFlags := h.of_frame (frame_syncFlags s) (by simp) (by simp)

theorem finish (h : Resting s) : Resting s.finish := h.of_frame (finish_changes s).1 (by simp) (by simp)

end Resting

/-! ### Forced retractions in DORMANT -/

/-- A forced cause leaves an idle drive alone, or starts its retraction. -/
theorem evaluateForced_idle {s : State} {i : DriveId} (h : (s.drive i).state.busy = false) :
    s.evaluateForced i = s ∨ ((s.drive i).forced = none ∧ ∃ c homing,
      s.evaluateForced i = s.setDrive i ((s.drive i).forcedRetract s.now c homing)) := by
  have k : ∀ c, (s.drive i).forced = none → ∀ t, (t = s ∨ ∃ homing, t = s.setDrive i ((s.drive i).forcedRetract s.now c homing)) →
      t = s ∨ ((s.drive i).forced = none ∧ ∃ c homing, t = s.setDrive i ((s.drive i).forcedRetract s.now c homing)) :=
    fun c f t e => e.imp id fun ⟨b, e⟩ => ⟨f, c, b, e⟩
  unfold State.evaluateForced
  dsimp only
  split
  case h_4 => exact .inl rfl
  all_goals
    rename_i c _ f _
    refine k c f _ ?_
    split
    case h_1 | h_2 => exact .inr ⟨false, rfl⟩
    case h_3 => exact .inr ⟨true, rfl⟩
    case h_8 | h_9 => exact .inl rfl
    all_goals
      rename_i hs
      rw [hs] at h
      cases h

theorem wakeCause_dormant {s : State} (w : Bool) (h : s.life = .dormant) : (s.wakeCause w).life = .run := by
  unfold State.wakeCause
  rw [h]
  exact State.wake_life w s

theorem stopUnsourced_idle {s : State} {i : DriveId} (h : (s.drive i).state.busy = false) : s.stopUnsourced i = s := by
  unfold State.stopUnsourced
  refine if_neg fun x => ?_
  rw [x.2.1] at h
  cases h

/-- A forced retraction from rest wakes the node. -/
theorem wakeForForced_evaluated {s : State} (hl : s.life = .dormant) (h : s.driveBusy = false) :
    Resting (wakeForForced s s.evaluateBothForced) := by
  have busy := driveBusy_iff.mp h
  have life : s.evaluateBothForced.life = .dormant := (State.evaluateBothForced_life s).trans hl
  have wakes : startedForced s s.evaluateBothForced = true → Resting (wakeForForced s s.evaluateBothForced) := fun x => by
    unfold wakeForForced
    rw [if_pos x]
    exact .ofLife (by rw [wakeCause_dormant true life]; simp)
  have idle : ∀ i, (s.drive i).state ≠ .retracting := fun i e => by
    have := busy i
    rw [e] at this
    cases this
  have hb : (s.evaluateForced .ma).drive .mb = s.drive .mb := State.drive_evaluateForced_ne (by simp)
  have ha : s.evaluateBothForced.drive .ma = (s.evaluateForced .ma).drive .ma := State.drive_evaluateForced_ne (by simp)
  rcases evaluateForced_idle (busy .ma) with ea | ⟨fa, c, homing, ea⟩
  · rcases evaluateForced_idle (busy .mb) with eb | ⟨fb, c, homing, eb⟩
    · have e : s.evaluateBothForced = s := by
        unfold State.evaluateBothForced
        rw [ea, eb]
      rw [e]
      exact (Resting.ofRest h).of_frame (frame_wakeForForced s s) (by simp) (by simp)
    · refine wakes ?_
      have d : s.evaluateBothForced.mb = s.mb.forcedRetract s.now c homing := by
        unfold State.evaluateBothForced
        rw [ea, eb]
        rfl
      have i := idle .mb
      unfold startedForced
      rw [d]
      simp [Drive.forcedRetract, Drive.travel, show s.mb.forced = none from fb, show s.mb.state ≠ .retracting from i]
  · refine wakes ?_
    have d : s.evaluateBothForced.ma = s.ma.forcedRetract s.now c homing := by
      rw [ea] at ha
      exact ha
    have i := idle .ma
    unfold startedForced
    rw [d]
    simp [Drive.forcedRetract, Drive.travel, show s.ma.forced = none from fa, show s.ma.state ≠ .retracting from i]

theorem Resting.interlockEvent {s : State} (h : Resting s) : Resting s.interlockEvent := by
  by_cases hl : s.life = .dormant
  · have b := h hl
    unfold State.interlockEvent
    split
    · exact h
    · dsimp only
      have v : ({ s with interlock := s.interlockNow } : State).driveBusy = false := b
      rw [stopUnsourced_idle (driveBusy_iff.mp v .ma), stopUnsourced_idle (driveBusy_iff.mp v .mb)]
      exact wakeForForced_evaluated (s := { s with interlock := s.interlockNow }) hl b
  · exact .ofLife fun e => hl (dormant_of_frame (frame_interlockEvent s) (by simp) e)

end Sys2Proof.Machine
end

section
/-! PROOFS. O7: every event leaves a DORMANT node without a busy drive; the statement. -/

namespace Sys2Proof.Machine

theorem State.startUnits_life (s : State) : s.startUnits.life = s.life :=
  ((units_onHeating { s with nc := { s.nc with started := true } } _).trans (units_heatingEvaluates _)).life

/-- The entry to COMMISSIONING leaves the node there. -/
theorem commissioning_unitKeeps : UnitKeeps fun s => s.life = .commissioning where
  drive s i d _ h := by cases i <;> exact h
  wakes s d h := by rw [d] at h; cases h
  units s t u h := u.life.trans h
  charge s sh vb _ _ h := by
    obtain ⟨v, p, b, e⟩ := s.ccTakes_eq sh vb
    rw [e]
    exact h

theorem State.enterCommissioning_life (s : State) (an : Analog) (sh vb : Int) :
    (s.enterCommissioning an sh vb).life = .commissioning :=
  commissioning_unitKeeps.enterCommissioning an sh vb (s.changeLife_life .commissioning)

namespace Resting
variable {s t : State}

/-- A drive that was busy shows that the node was not DORMANT. -/
theorem of_busy (h : Resting s) {i : DriveId} (b : (s.drive i).state.busy = true) (l : t.life = .dormant → s.life = .dormant) :
    Resting t := .ofLife fun e => by
  have := driveBusy_iff.mp (h (l e)) i
  rw [b] at this
  cases this

theorem place (h : Resting s) (a : Answer) : Resting (s.place a) := h.of_frame (frame_place s a) (by simp) (by simp)

theorem wakeForForced (h : Resting t) (s : State) : Resting (wakeForForced s t) :=
  h.of_frame (frame_wakeForForced s t) (by simp) (by simp)

/-! ### Drives that move -/

theorem moved (h : Resting s) {i : DriveId} (b : (s.drive i).state.busy = true) (m : MotionAlone s t) :
    Resting (Machine.wakeForForced s t) :=
  (h.of_busy b fun e => m.life ▸ e).wakeForForced s

theorem ownDriveEvent (h : Resting s) (before : State) : Resting (s.ownDriveEvent before) := by
  unfold State.ownDriveEvent
  dsimp only
  split
  · exact h.interlockEvent.wakeCause true
  · exact h.interlockEvent

theorem requestStop (h : Resting s) (hl : s.life = .dormant) (i : DriveId) (r : Option Requester) :
    Resting (s.requestStop i r) := by
  have b := driveBusy_iff.mp (h hl) i
  unfold State.requestStop
  dsimp only
  split
  case h_6 e | h_7 e | h_8 e | h_9 e =>
    rw [e] at b
    cases b
  all_goals exact h.reply r _

theorem moveDrives (h : Resting s) (hl : s.life.operating = true) (fn : DriveFn) (act : MotionAction) (r : Option Requester) :
    Resting (s.moveDrives fn act r) := by
  have m : MotionAlone s (s.requestMotions fn act r) := (motionKeeps_alone s).requestMotions fn act r hl (.refl s)
  unfold State.moveDrives
  split
  · exact h
  next n =>
    refine wakeForForced ?_ s
    by_cases d : s.life = .dormant
    · have e : act = .stop := by
        by_contra x
        exact n ⟨d, x⟩
      subst e
      have ha := h.requestStop d .ma r
      have la : (s.requestStop .ma r).life = .dormant :=
        ((motionKeeps_alone s).requestStop .ma r (.refl s)).life.trans d
      unfold State.requestMotions
      dsimp only [State.requestMotion]
      split
      · split
        · exact ha.requestStop la .mb none
        · exact ha
      · split
        · exact h.requestStop d .mb r
        · exact h
    · exact .ofLife (by rwa [m.life])

/-! ### Changes of life state -/

theorem enterDormant (h : s.driveBusy = false) : Resting s.enterDormant := by
  have r : Resting ((s.changeLife .dormant).stopMeasurePeriod.onCauses fun c => { c with measureDue := false }) := by
    obtain ⟨sv, p, e⟩ := s.changeLife_eq .dormant
    rw [e]
    exact .ofRest h
  have u1 := units_onFunction ((s.changeLife .dormant).stopMeasurePeriod.onCauses fun c => { c with measureDue := false })
    .pump Channel.requestOff fun c h => .of_fn (by simp [h]) rfl
  have u2 := units_onHeating (State.onFunction .pump Channel.requestOff
    ((s.changeLife .dormant).stopMeasurePeriod.onCauses fun c => { c with measureDue := false }))
    fun h => { h with normalDemand := false }
  have g := (r.units ((u1.trans u2).trans (units_heatingDisabled _))).syncFlags
  unfold State.enterDormant
  dsimp only
  split
  · exact .ofLife (by rw [State.wake_life]; simp)
  · exact g

theorem answerLeaves (h : Resting s) : Resting s.answerLeaves := by
  unfold State.answerLeaves
  split
  · exact h
  · dsimp only
    split
    · exact h
    · split
      · split
        next c => exact enterDormant (by simpa using c.2)
        · exact h
      · exact h
    · split
      · exact .ofLife (by rw [show (State.restart _).life = .strapRead from rfl]; simp)
      · exact h

theorem causeCompletes (h : Resting s) (v : Service) : Resting (s.causeCompletes v) := by
  unfold State.causeCompletes
  split
  · exact h
  · exact h
  · exact h
  · exact h.answerLeaves
  · exact h

theorem enterListenOnly : Resting s.enterListenOnly := by
  refine ofLife ?_
  unfold State.enterListenOnly
  split
  · rw [show (State.restart _).life = .strapRead from rfl]; simp
  · dsimp only
    rw [State.evaluateBothForced_life]
    have l : (s.changeLife .listenOnly).stopSending.stopMeasurePeriod.clearStore.life = .listenOnly := by
      have := s.changeLife_life .listenOnly
      unfold State.stopSending
      split <;> exact this
    split
    · rw [l]; simp
    · rw [State.startUnits_life, l]; simp

theorem enterRun : Resting s.enterRun := by
  refine ofLife ?_
  unfold State.enterRun
  rw [State.evaluateBothForced_life, State.startUnits_life]
  exact fun e => (nomatch (s.changeLife_life .run).symm.trans e)

theorem clash (h : Resting s) : Resting s.clash := by
  unfold State.clash
  dsimp only
  split
  · exact enterListenOnly
  · exact enterListenOnly
  · exact h

/-! ### Peers and records -/

theorem entryChange (h : Resting s) : Resting s.entryChange := interlockEvent (s := s.trigger) h

theorem peerState (h : Resting s) (src : Addr) (p : List Byte) : Resting (s.peerState src p) := by
  unfold State.peerState State.seeStranger
  dsimp only
  split
  · split
    · exact entryChange (s := s.setEntries _) h
    · exact h
  · split
    · exact entryChange (s := s.setEntries _) h
    · split
      · exact entryChange (s := s.setEntries _) h
      · split <;> exact h

theorem hears {src : Addr} {b : Bool} {p : List Byte} (h : Resting s) (v : Hears s src b p t) : Resting t := by
  cases v with
  | nothing | measure => exact h
  | state => exact h.peerState src p
  | battery =>
    obtain ⟨c, x, v, q, b, e⟩ := s.takeCandidates_eq
      (s.pt.candidates.filter (fun c => c.addr ≠ src) ++ [⟨src, battValsOf p, s.now + Config.candidateMs⟩])
    unfold State.peerBattery
    rw [e]
    exact h
  | scene n _ => exact h.units (units_applyScene s n)
  | wake => exact h.wakeCause false
  | takenWake => exact Resting.wakeCause (s := s.driveTaken) h false
  | operate _ | settings _ =>
    unfold State.enqueue
    split
    · dsimp only
      split <;> exact h
    · exact h

theorem applies {p : List Byte} (hl : s.life = .commissioning) (v : Applies s p t) : t.life = .commissioning := by
  cases v with
  | driveFunction => unfold State.applyDriveFunction; cases driveOfNumber 9 (byteAt p 1) <;> exact hl
  | drive => unfold State.applyDrive; cases driveOfNumber 1 (byteAt p 1) <;> exact hl
  | route =>
    have k : ∀ f : SensorFrontEnd, ({ s with sfe := f } : State).interlockEvent.life = .commissioning := fun f => by
      rcases frame_interlockEvent { s with sfe := f } .life (by simp) with e | e
      · exact e.trans hl
      · rw [show ({ s with sfe := f } : State).life = s.life from rfl, hl] at e
        exact absurd e.1 (by simp)
    unfold State.applyRoute State.moveSpeed
    dsimp only
    split <;> exact k _
  | link =>
    unfold State.applyLink
    dsimp only
    split <;> exact hl
  | channel =>
    unfold State.applyChannel
    exact hl
  | trv | frost | water | heat | wind | batteryA | batteryV | curve | scene =>
    show s.nc.life = _
    exact hl

theorem event {u : State} (h : Resting s) (v : Event s u) : Resting u := by
  cases v with
  | role a r an sh vb hl => exact .ofLife (by rw [State.enterCommissioning_life]; simp)
  | strapFault hl => exact .ofLife (by simp [State.enterStrapFault, State.life])
  | windowEnds hl =>
    unfold State.endWindow
    dsimp only
    split
    · exact enterListenOnly
    · exact enterRun
  | ccSample sh vb _ _ =>
    obtain ⟨v, p, b, e⟩ := s.ccTakes_eq sh vb
    rw [e]
    exact h
  | bitError sv f _ _ _ => exact islandEvent_cases (P := Resting) h h
  | outcome sv f _ _ _ => exact causeCompletes (islandEvent_cases (P := Resting) (s := s) (t := s.onLink f) h h) sv
  | clash _ => exact clash (s := s.onLink LinkController.readTelegram) h
  | telegram src b p _ _ _ v => exact hears (s := (s.onLink LinkController.readTelegram).driveHeard) h v
  | ages a p st _ => exact entryChange (s := s.setEntries _) h
  | strangerEnd | holdoffEnd _ => exact h
  | candidateEnd a c _ =>
    obtain ⟨c, x, v, q, b, e⟩ := s.takeCandidates_eq (s.pt.candidates.filter fun c => c.addr ≠ a)
    rw [e]
    exact h
  | stall i b =>
    have b : (s.drive i).state.busy = true := by
      revert b
      cases (s.drive i).state <;> decide
    refine (h.of_busy b fun e => ?_).wakeForForced s
    rw [State.evaluateForced_life] at e
    cases i <;> exact e
  | jam i b =>
    have b : (s.drive i).state.busy = true := by
      revert b
      cases (s.drive i).state <;> decide
    refine h.of_busy b fun e => ?_
    cases i <;> exact e
  | brakeEnd i b =>
    exact h.moved (i := i) (by rw [b]; rfl) ((motionKeeps_alone s).endBraking i b (.refl s))
  | waitEnd i b =>
    refine h.moved (i := i) (by rw [b]; rfl) ((motionKeeps_alone s).returnToOrigin i ?_ (motionAlone_resolve s i _))
    obtain ⟨sl, e⟩ := State.drive_resolve s i .refusedLowPower
    rw [e]
    exact b
  | gustWindow _ => exact interlockEvent (s := { s with gust := _ }) h
  | lockoutEnd => exact interlockEvent (s := { s with gust := _ }) h
  | trvReleased _ => exact interlockEvent (s := { s with trv := _ }) h
  | trvAsserted _ => exact (interlockEvent (s := { s with trv := { s.trv with reading := true } }) h).wakeCause false
  | speedTimeout => exact interlockEvent (s := { s with sfe := _ }) h
  | input i b _ => refine ownDriveEvent ?_ s; exact h
  | speedPulse _ => refine ownDriveEvent ?_ s; exact h
  | units _ v => exact h.units v.alone
  | request e u _ hc v =>
    have k : Resting s.popEntry := h
    refine serves_cases v (fun t c g => (k.units g).reply _ c) (fun fn act => k.moveDrives (operating_of_canTake hc) fn act _) ?_ ?_
    · unfold State.nodeStore
      split
      · split
        · exact k.reply _ _
        · refine Resting.place ?_ _
          exact k
      · split
        · exact h
        next b => exact enterDormant (by simpa using b)
      · exact k.reply _ _
      · exact h
    · unfold State.nodeRestart
      split
      · refine Resting.place ?_ _
        exact k
      case h_5 => exact h
      all_goals exact .ofLife (by rw [show (State.restart _).life = .strapRead from rfl]; simp)
  | record p x u hl v => exact .ofLife (by rw [show u.moveClosing.life = u.life from rfl, applies (s := s.setInHand x) hl v]; simp)
  | skip x _ => exact h

end Resting

/-! ### The queue, and the statement -/

/-- The oldest entry of a DORMANT node is no addressed OPERATE. -/
def HeadLeft (s : State) : Prop := s.life = .dormant → s.addressedHead = false

theorem headLeft_dispatch (s : State) : HeadLeft s.dispatch := by
  intro e
  unfold State.dispatch State.headWakes at e ⊢
  dsimp only at e ⊢
  split at e
  next c =>
    have d := dormant_of_frame (frame_wakeCause false _) (by simp) e
    rw [wakeCause_dormant false d] at e
    cases e
  next c =>
    rw [if_neg c]
    simpa using c

/-- What follows from an event wakes a node with an addressed request before it. -/
theorem headLeft_finish (s : State) : HeadLeft s.finish := by
  have f := frame_settle_syncFlags s.dispatch
  intro e
  have h := headLeft_dispatch s (dormant_of_frame f (by simp) e)
  have q := (f .inbound (by simp)).1
  unfold State.addressedHead at h ⊢
  rw [show s.finish.od.iq = s.dispatch.od.iq from q]
  exact h

/-- The parts of `LifeSound`. -/
theorem lifeSound_iff {s : State} : LifeSound s ↔ HeadLeft s ∧ Resting s ∧ Unstarted s :=
  ⟨fun h => ⟨fun e => (h.1 e).1, fun e => (h.1 e).2, h.2⟩, fun ⟨a, b, c⟩ => ⟨fun e => ⟨a e, b e⟩, c⟩⟩

theorem dormant_quiet {s t : State} (h : HeadLeft s ∧ Resting s) (v : Quiet s t) : HeadLeft t ∧ Resting t := by
  have off : ∀ {u : State}, u.life ≠ .dormant → HeadLeft u ∧ Resting u := fun n => ⟨fun e => absurd e n, fun e => absurd e n⟩
  cases v with
  | coldReset => exact off (by rw [show s.coldReset.life = .reset from rfl]; simp)
  | warmReset =>
    unfold State.warmReset
    split
    · exact h
    · exact off (by rw [show State.life _ = .reset from rfl]; simp)
  | causeEnds c _ => cases c <;> exact h
  | leavesReset c _ => exact off (by rw [show State.life _ = .strapRead from rfl]; simp)
  | hallPulse i =>
    refine ⟨by cases i <;> exact h.1, fun e => ?_⟩
    have b := h.2 (by cases i <;> exact e)
    have p : ∀ d : Drive, (d.pulse s.now).state = d.state := fun d => by
      unfold Drive.pulse
      dsimp only
      split <;> rfl
    rw [← b]
    unfold State.driveBusy
    cases i with
    | ma => exact congrArg (fun x : DriveState => x.busy || _) (p s.ma)
    | mb => exact congrArg (fun x : DriveState => _ || x.busy) (p s.mb)
  | batteryPeriod | receiver | latch | withdraw | cabinExpiry | blankingEnd | historyEnd | openLoad | sample | anemometer
    | flowPulse | timers => exact h

theorem lifeSound_kept : KeptByEveryStep LifeSound :=
  keptByEveryStep_of_cases (Q := fun s => Resting s ∧ Unstarted s) (fun _ _ h => h) (fun _ _ h => h)
    (fun _ _ h v => by
      obtain ⟨a, b, c⟩ := lifeSound_iff.mp h
      obtain ⟨a, b⟩ := dormant_quiet ⟨a, b⟩ v
      exact lifeSound_iff.mpr ⟨a, b, unstarted_eventKeeps.quietChange v c⟩)
    (fun _ _ h v => by
      obtain ⟨-, b, c⟩ := lifeSound_iff.mp h
      exact ⟨b.event v, unstarted_eventKeeps.event v c⟩)
    fun s h => lifeSound_iff.mpr ⟨headLeft_finish s, h.1.finish, unstarted_finishKeeps.finish h.2⟩

/-- Settles O7: DORMANT is entered without a busy drive and left by whatever starts one, and by the head of the queue; only a life
state that drives its slots latches a telegram. -/
theorem lifeStatesKeepTheirPromises : Obligations.LifeStatesKeepTheirPromises := ⟨lifeSound_kept, silent_kept⟩

end Sys2Proof.Machine
end

section
/-! PROOFS. O1, O8 and O9: the step itself, the state after a cold reset, and the resets. -/

namespace Sys2Proof.Machine

/-- Settles O1: the step takes the front command by definition. -/
theorem stepRunsFrontCommand : Obligations.StepRunsFrontCommand := fun _ _ _ => rfl

/-- Settles O8: the reset state is the one each invariant starts from. -/
theorem resetMeetsInvariants : Obligations.ResetMeetsInvariants := by
  have idle : ∀ d : Drive, d.state = .unknown → d.forced = none → InterlockKept .reset State.reset.interlock d := fun d u f =>
    .idle (.atRest f (by rw [u]; rfl)) (by rw [u]; rfl)
  have off : State.reset.life.active = false := rfl
  refine ⟨⟨Nat.zero_le _, Nat.zero_le _⟩, .empty rfl, fun _ e => (nomatch e), ?positions, ⟨rfl, idle _ rfl rfl, idle _ rfl rfl⟩,
    .ofReset rfl rfl, .atReset rfl, fun _ => rfl, fun _ => ⟨rfl, rfl⟩, rfl, ?locks, (ShedReady.ofReset (.inl rfl) rfl).sound rfl,
    lifeSound_iff.mpr ⟨fun e => (nomatch e), fun e => (nomatch e), fun _ => ⟨rfl, rfl, rfl⟩⟩⟩
  case positions =>
    unfold PositionsSound PositionSound
    decide
  case locks =>
    intro h
    rw [off] at h
    cases h

/-! ### Drives over a warm reset -/

theorem Drive.warm_of_retracted {d : Drive} (h : d.state = .retracted ∨ (d.state = .waitGrant ∧ d.origin = some .retracted)) :
    d.warm = { Drive.blank d.fn with state := .retracted, position := 0 } := by
  unfold Drive.warm
  rcases h with h | ⟨h, o⟩
  · rw [h]; rfl
  · rw [h, o]; rfl

theorem Drive.warm_of_extended {d : Drive} (h : d.state = .extended ∨ (d.state = .waitGrant ∧ d.origin = some .extended)) :
    d.warm = { Drive.blank d.fn with state := .extended, position := (Drive.blank d.fn).travelPulses } := by
  unfold Drive.warm
  rcases h with h | ⟨h, o⟩
  · rw [h]; rfl
  · rw [h, o]; rfl

theorem Drive.warm_of_parked {d : Drive} (h : d.state = .parked ∨ (d.state = .waitGrant ∧ d.origin = some .parked)) :
    d.warm = { Drive.blank d.fn with state := .parked, position := min d.position (Drive.blank d.fn).travelPulses } := by
  unfold Drive.warm
  rcases h with h | ⟨h, o⟩
  · rw [h]; rfl
  · rw [h, o]; rfl

theorem Drive.warm_of_unplaced {d : Drive} (h : d.state = .unknown ∨ d.state = .extending ∨ d.state = .retracting ∨
    d.state = .braking ∨ d.state = .jammed ∨ (d.state = .waitGrant ∧ (d.origin = some .unknown ∨ d.origin = some .jammed))) :
    d.warm = { Drive.blank d.fn with state := .unknown, position := 0 } := by
  unfold Drive.warm
  rcases h with h | h | h | h | h | ⟨h, o | o⟩
  case inr.inr.inr.inr.inr.inl | inr.inr.inr.inr.inr.inr => rw [h, o]; rfl
  all_goals rw [h]; rfl

theorem exec_resetCauseEnds {s : State} (c : ResetCause) (h : s.life = .reset) : exec (.resetCauseEnds c) s =
    .next (if (s.endCause c).nc.supplyLow ∨ (s.endCause c).nc.rstLow then s.endCause c else (s.endCause c).enterStrapRead) :=
  congrArg Host.Outcome.next (if_pos h)

/-- Settles O9: each reset is its definition, a warm one read off drive by drive. -/
theorem resetsKeepWhatTheyKeep : Obligations.ResetsKeepWhatTheyKeep := by
  refine ⟨fun s => ⟨⟨_, rfl, rfl, rfl, rfl⟩, fun n => ?warm⟩, fun s hl => ⟨fun c hc => ?leaves, fun h => ?supply, fun h => ?rst⟩⟩
  case warm =>
    have e : s.warmReset = { s.warmState with nc := { s.warmState.nc with rstLow := true } } := if_neg n
    refine ⟨_, congrArg Host.Outcome.next e, rfl, rfl, rfl, rfl, ?_⟩
    rintro i _ rfl _ rfl
    have w : ({ s.warmState with nc := { s.warmState.nc with rstLow := true } } : State).drive i = (s.drive i).warm := by
      cases i <;> rfl
    rw [w]
    exact ⟨Drive.warm_of_retracted, Drive.warm_of_extended, Drive.warm_of_parked, Drive.warm_of_unplaced⟩
  case leaves =>
    have both : (s.endCause c).nc.supplyLow = false ∧ (s.endCause c).nc.rstLow = false := by
      rcases hc with ⟨rfl, h⟩ | ⟨rfl, h⟩
      · exact ⟨rfl, h⟩
      · exact ⟨h, rfl⟩
    refine ⟨(s.endCause c).enterStrapRead, (exec_resetCauseEnds c hl).trans ?_, by cases c <;> rfl, ?_⟩
    · rw [if_neg (by simp [both])]
    · rcases hc with ⟨rfl, h⟩ | ⟨rfl, h⟩ <;> simp [State.endCause, State.enterStrapRead, Config.strapReadMs, h]
  case supply => exact (exec_resetCauseEnds .supply hl).trans (congrArg _ (if_pos (.inr h)))
  case rst => exact (exec_resetCauseEnds .rstPin hl).trans (congrArg _ (if_pos (.inl h)))

end Sys2Proof.Machine
end

section
/-! PROOFS. O28, O30, O41 and O49: commands that change one mark, one position, the receiver or one timer. -/

namespace Sys2Proof.Machine

/-! ### A timer at its end -/

/-- The command of a running timer acts at the timer's instant. -/
theorem onExpiry_of {s : State} {x : Timer} {e : Nat} {f : State → State} (h : x = some e) : s.onExpiry x f = f (s.reach e) := by
  rw [h]
  rfl

/-! ### Marks of a channel -/

theorem Channel.overCurrent_iff {c : Channel} {now : Nat} {run : TripRun} : c.overCurrent now run = true ↔
    0 < c.duty ∧ (if c.blanking.isSome then 4 else 2) * max c.nominal 5 < run.current ∧
      (c.blanking = none → now < c.onSince + 210 → 4 * max c.nominal 5 < run.blanked) := by
  unfold Channel.overCurrent Channel.crossesBlanking Channel.threshold Channel.blankedThreshold
  cases c.blanking <;>
    simp [Config.blankingMs, Config.tripRunMs, and_assoc, Nat.add_assoc, imp_iff_not_or]

/-- Settles O28: each mark is set or cleared by one update of the channel. -/
theorem channelMarksChangeAlone : Obligations.ChannelMarksChangeAlone := by
  rintro s ch _ rfl
  refine ⟨fun e h => congrArg Host.Outcome.next (onExpiry_of h), fun x xs h n l => ?history, fun i d l => ?opens,
    fun i h => ?shut, fun run h => ?noTrip⟩
  case history =>
    have k : (s.sw[ch].trips.head?.map (· + Config.tripHistoryMs)) = some (x + 60000) := by rw [h]; rfl
    have now : max s.now (x + 60000) = x + 60000 := max_eq_right n
    have left : s.sw[ch].recentTrips (x + 60000) = xs := by
      unfold Channel.recentTrips
      rw [h, List.filter_cons_of_neg (by simp [Config.tripHistoryMs]), List.filter_eq_self]
      intro y hy
      have := l y hy
      simpa [Config.tripHistoryMs] using this
    refine congrArg Host.Outcome.next ((onExpiry_of k).trans ?_)
    show (s.reach (x + 60000)).onChannel ch (fun c => { c with trips := c.recentTrips (max s.now (x + 60000)) }) = _
    unfold State.onChannel State.reach
    dsimp only
    rw [now, left]
  case opens => exact congrArg Host.Outcome.next (if_pos ⟨d, l⟩)
  case shut =>
    refine congrArg Host.Outcome.next (if_neg fun k => ?_)
    rcases h with h | h
    · exact h k.1
    · exact absurd k.2 (Nat.not_lt.mpr h)
  case noTrip =>
    refine congrArg Host.Outcome.next (if_neg fun k => ?_)
    obtain ⟨k1, k2, k3⟩ := Channel.overCurrent_iff.mp k
    rcases h with h | h | ⟨h1, h2, h3⟩
    · omega
    · omega
    · have := k3 h1 h2
      omega

/-! ### Positions -/

theorem Drive.pulse_still {d : Drive} (now : Nat) (h1 : d.state ≠ .extending) (h2 : d.state ≠ .retracting)
    (h3 : d.state ≠ .braking) : d.pulse now = d := by
  unfold Drive.pulse
  cases e : d.state <;> simp_all

/-- Settles O30: a pulse is `Drive.pulse` on the one drive, by the state it is in. -/
theorem hallPulseMovesThePosition : Obligations.HallPulseMovesThePosition := by
  intro s i
  refine ⟨s.onDrive i (Drive.pulse s.now), rfl, by cases i <;> rfl, fun j n => State.drive_setDrive_ne s n _, ?_⟩
  rintro _ rfl
  rw [show (s.onDrive i (Drive.pulse s.now)).drive i = (s.drive i).pulse s.now from s.drive_setDrive i _]
  refine ⟨fun h => ?_, fun h => ?_, fun h b => ?_, fun h b => ?_, Drive.pulse_still s.now⟩
  · unfold Drive.pulse
    rw [h]
    rfl
  · unfold Drive.pulse
    rw [h]
    rfl
  · unfold Drive.pulse
    rw [h, b]
  · unfold Drive.pulse
    rw [h, b]

/-! ### The receiver -/

/-- Every telegram is read in before anything else. -/
theorem exec_readIn {src tgt : Addr} {kind : Fin 8} {a : Arrival} {c : Instr}
    (h : c = .telegramForOtherStation ⟨src, tgt, kind, a⟩ ∨
      (kind.val, c) ∈
        [(0, .wakeReceived src tgt a), (1, .batteryReceived src tgt a), (2, .stateReceived src tgt a),
         (3, .answerReceived src tgt a), (4, .operateReceived src tgt a), (5, .sceneReceived src tgt a),
         (6, .settingsReceived src tgt a), (7, .measureReceived src tgt a)]) (s : State) :
    ∃ filter, exec c s = .next (s.readIn kind src tgt a filter) := by
  rcases h with rfl | h
  · exact ⟨_, rfl⟩
  · simp only [List.mem_cons, Prod.mk.injEq, List.not_mem_nil, or_false] at h
    rcases h with ⟨k, rfl⟩ | ⟨k, rfl⟩ | ⟨k, rfl⟩ | ⟨k, rfl⟩ | ⟨k, rfl⟩ | ⟨k, rfl⟩ | ⟨k, rfl⟩ | ⟨k, rfl⟩ <;> rw [k] <;> exact ⟨_, rfl⟩

/-- Settles O41: the receiver's own commands are updates of it; every telegram goes through `readIn`. -/
theorem receiverFollowsTheLine : Obligations.ReceiverFollowsTheLine := by
  intro s
  refine ⟨fun l n => ?_, fun r => ⟨?_, ?_, ?_, fun src tgt kind a c h => ?_⟩⟩
  · have k : s.life.active = true ∧ ¬ s.sending = true := ⟨l, by simp [n]⟩
    exact ⟨congrArg Host.Outcome.next (if_pos k), congrArg Host.Outcome.next (if_pos k)⟩
  · exact congrArg Host.Outcome.next (if_pos r)
  · exact congrArg Host.Outcome.next (if_pos r)
  · exact congrArg Host.Outcome.next (if_pos r)
  · obtain ⟨filter, e⟩ := exec_readIn h s
    have long : exec .malformedLength s = .next (s.onLink LinkController.discard) := congrArg Host.Outcome.next (if_pos r)
    have bad : exec .telegramBadCheck s = .next (s.onLink LinkController.countBadCheck) := congrArg Host.Outcome.next (if_pos r)
    refine ⟨fun w => ?_, fun w b => ?_⟩
    · rw [e, long, State.readIn_long r w]
    · rw [e, bad, State.readIn_bad r w]
      exact decide_eq_false b

/-! ### Transmit timers -/

/-- Settles O49: each timer's end is one update at its instant. -/
theorem transmitTimersRaiseTheirCause : Obligations.TransmitTimersRaiseTheirCause := fun _ _ =>
  ⟨fun h => congrArg Host.Outcome.next (onExpiry_of h), fun h => congrArg Host.Outcome.next (onExpiry_of h),
    fun h => congrArg Host.Outcome.next (onExpiry_of h), fun h => congrArg Host.Outcome.next (onExpiry_of h)⟩

end Sys2Proof.Machine
end

section
/-! PROOFS. O22: what a recomputation lets run fits the limit. -/

namespace Sys2Proof.Machine

/-- The want of class k + 1, which the throttle shares out (R47). -/
def LoadBudget.above (b : LoadBudget) (k : Fin 4) : Nat :=
  match k with
  | 0 => b.w.w1
  | 1 => b.w.w2
  | 2 => b.w.w3
  | 3 => 0

theorem throttleOf_le (x : Shed) (l : Nat) (w : Wants) (t0 t1 t2 : Nat) : throttleOf x l w t0 t1 t2 ≤ 256 := by
  have share (h a : Nat) : (if a = 0 then 256 else min 256 (256 * h / a)) ≤ 256 := by
    split
    · exact Nat.le_refl _
    · exact Nat.min_le_left _ _
  cases x with
  | allShed => exact Nat.zero_le _
  | upTo k =>
    fin_cases k
    · exact share _ _
    · exact share _ _
    · exact share _ _
    · exact Nat.le_refl _

/-- The share of a class above that the headroom covers is no more than the headroom. -/
theorem share_le (h a : Nat) : (if a = 0 then 256 else min 256 (256 * h / a)) * a ≤ 256 * h := by
  split
  next e => simp [e]
  · calc min 256 (256 * h / a) * a ≤ 256 * h / a * a := Nat.mul_le_mul_right a (Nat.min_le_right _ _)
      _ ≤ 256 * h := Nat.div_mul_le_self _ _

/-- A level that S_raw reaches fits, but for class 0 (R42). -/
theorem fits_of_raw {l t1 t2 t3 : Nat} {cut : Bool} (h12 : t1 ≤ t2) (h23 : t2 ≤ t3) {k : Fin 4} (hk : 0 < k.val)
    (h : (Shed.upTo k).rank ≤ (rawShed cut l t1 t2 t3).rank) :
    (match k with | 0 => 0 | 1 => t1 | 2 => t2 | 3 => t3) ≤ l := by
  unfold rawShed at h
  cases cut with
  | true => simp [Shed.rank] at h
  | false =>
    simp only [Bool.false_eq_true, if_false] at h
    fin_cases k
    · simp at hk
    all_goals
      dsimp only
      split_ifs at h <;> simp [Shed.rank] at h <;> omega

namespace State
variable {s : State}

theorem budget_f (n : s.life ≠ .commissioning) : s.budget.f =
    throttleOf s.budget.s s.budget.lU s.budget.w s.budget.t0 s.budget.t1 s.budget.t2 := if_neg n

theorem budget_f_upTo (n : s.life ≠ .commissioning) {k : Fin 4} (h : s.budget.s = .upTo k) (hk : k ≠ 3) :
    s.budget.f = if s.budget.above k = 0 then 256 else min 256 (256 * (s.budget.lU - s.budget.sum k) / s.budget.above k) := by
  rw [budget_f n, h]
  fin_cases k
  · rfl
  · rfl
  · rfl
  · exact absurd rfl hk

theorem budget_f_top (n : s.life ≠ .commissioning) (h : s.budget.s = .upTo 3) : s.budget.f = 256 := by
  rw [budget_f n, h]
  rfl

/-- What S lets run and the throttled share of the class above fit the limit. -/
theorem budget_share (n : s.life ≠ .commissioning) {k : Fin 4} (h : s.budget.s = .upTo k) (fit : s.budget.sum k ≤ s.budget.lU) :
    256 * s.budget.sum k + s.budget.f * s.budget.above k ≤ 256 * s.budget.lU := by
  by_cases hk : k = 3
  · rw [hk] at fit ⊢
    rw [show s.budget.above 3 = 0 from rfl]
    omega
  · have := share_le (s.budget.lU - s.budget.sum k) (s.budget.above k)
    rw [← budget_f_upTo n h hk] at this
    omega

end State

/-- Step 4 outside COMMISSIONING, by the S_raw found (R43, R44). -/
theorem shedStep_cases {life : LifeState} {now : Nat} {lb : LoadBudget} {raw : Shed} {restore : Bool} (n : life ≠ .commissioning) :
    (shedStep life now lb raw restore).2.2 = false ∧
      (lb.firstPending = true ∨ raw.rank ≤ lb.s.rank → shedStep life now lb raw restore = (raw, none, false)) ∧
      (lb.firstPending = false → lb.s.rank < raw.rank → (shedStep life now lb raw restore).1 = lb.s) := by
  refine ⟨?_, fun h => ?_, fun f h => ?_⟩
  · unfold shedStep
    rw [if_neg n]
    split_ifs <;> rfl
  · unfold shedStep
    rw [if_neg n]
    by_cases f : lb.firstPending = true
    · rw [if_pos f]
    · rw [if_neg f, if_pos (h.resolve_left f)]
  · rw [shedStep_of_below now restore n f h]

theorem Shed.eq_of_rank {a b : Shed} (h : a.rank = b.rank) : a = b := by
  cases a with
  | allShed =>
    cases b with
    | allShed => rfl
    | upTo k => simp [Shed.rank] at h
  | upTo j =>
    cases b with
    | allShed => simp [Shed.rank] at h
    | upTo k => simp [Shed.rank] at h; rw [Fin.ext h]

/-- Settles O22: the pair by the life state, then step 4 and the throttle against the sums of the same recomputation. -/
theorem grantedLoadFitsTheLimit : Obligations.GrantedLoadFitsTheLimit := by
  refine ⟨?pair, ?level⟩
  case pair =>
    rintro s _ rfl
    refine ⟨fun l => ?_, fun l => ?_, fun l => ?_⟩
    · have step := State.budget_shedStep s.budget_sRaw_eq
      rw [show ∀ r x, shedStep s.life s.now s.lb r x = (.allShed, none, s.lb.firstPending) from fun r x => if_pos l] at step
      simp only [Prod.mk.injEq] at step
      obtain ⟨h1, h2, h3⟩ := step
      have f : s.budget.f = 0 := if_pos l
      refine ⟨h1, ?_, f, ?_, h2, h3⟩
      · rw [show s.budget.sEff = effectiveShed s.life s.budget.s from rfl, l]
        rfl
      · rw [show s.budget.applied = appliedOf s.life s.budget.f from rfl, l]
        rfl
    · have a : appliedOf s.life s.budget.f = if s.budget.f < 32 then 0 else s.budget.f := by
        have w : appliedOf s.life s.budget.f = if 32 ≤ s.budget.f then s.budget.f else 0 := by
          rcases l with l | l <;> rw [l] <;> rfl
        by_cases h : s.budget.f < 32
        · rw [w, if_pos h, if_neg (Nat.not_le.2 h)]
        · rw [w, if_neg h, if_pos (Nat.not_lt.1 h)]
      have e : effectiveShed s.life s.budget.s = s.budget.s := by rcases l with l | l <;> rw [l] <;> rfl
      exact ⟨e, a⟩
    · have a : appliedOf s.life s.budget.f = 0 := by rw [l]; rfl
      have e : s.budget.sEff = effectiveShed s.life s.budget.s := rfl
      refine ⟨a, ?_⟩
      rw [e, l]
      unfold effectiveShed
      cases s.budget.s with
      | allShed => rfl
      | upTo k => fin_cases k <;> rfl
  case level =>
    rintro s _ rfl n
    have step := State.budget_shedStep s.budget_sRaw_eq
    have k := @shedStep_cases s.life s.now s.lb (s.rawWith s.ownWants)
      (restoreHolds s.lb.s s.budget.lU s.budget.t0 s.budget.t1 s.budget.t2 s.budget.t3) n
    rw [← step] at k
    obtain ⟨first, take, keep⟩ := k
    simp only [Prod.mk.injEq] at take
    have le := (ShedSettled.budget s).1 _ s.budget_sRaw_eq
    refine ⟨first, fun raw hr => ?_, fun h => ?_, State.budget_f_top n, ?_, fun h => ?_, fun j h hj => ?_, ?_, fun j h fit => ?_⟩
    · cases hr
      refine ⟨le, fun f => ?_, fun l => ?_, fun l => ?_, fun l f => keep f l⟩
      · obtain ⟨a, b, -⟩ := take (.inl f)
        exact ⟨a, b⟩
      · obtain ⟨a, b, -⟩ := take (.inr (Nat.le_of_lt l))
        exact ⟨a, b⟩
      · obtain ⟨a, b, -⟩ := take (.inr (Nat.le_of_eq l))
        exact ⟨a.trans (Shed.eq_of_rank l), b⟩
    · rw [State.budget_f n, h]
      rfl
    · rintro j _ h hj rfl
      have := State.budget_f_upTo n h hj
      fin_cases j <;> exact this
    · have c := State.budget_cut h
      refine ⟨c, ?_⟩
      rw [State.budget_f n, c]
      rfl
    · have g := fits_of_raw (k := j) (by omega) (by omega) hj (h ▸ le)
      fin_cases j
      · simp at hj
      all_goals exact g
    · rw [State.budget_f n]
      exact throttleOf_le _ _ _ _ _ _
    · have := State.budget_share n h fit
      fin_cases j <;> exact this

end Sys2Proof.Machine
end

section
/-! SUPPORT. The frame of an update of one block, of the clock and of a received telegram. -/

namespace Sys2Proof.Machine

theorem frame_clock (s : State) (n : Nat) : Frame [.clock] s { s with now := n } := by
  intro b n
  cases b <;> simp at n
  case channels => exact same_channels rfl rfl
  all_goals simp [Same, Drive.Stands.refl, State.life, State.answers, State.drive]

theorem frame_reach (s : State) (e : Nat) : Frame [.clock] s (s.reach e) := frame_clock s _

theorem frame_charge (s : State) (c : ChargeCounter) : Frame [.charge] s { s with cc := c } := by
  intro b n
  cases b <;> simp at n
  case channels => exact same_channels rfl rfl
  all_goals simp [Same, Drive.Stands.refl, State.life, State.answers, State.drive]

theorem frame_peers (s : State) (p : PeerTable) : Frame [.peers] s { s with pt := p } := by
  intro b n
  cases b <;> simp at n
  case channels => exact same_channels rfl rfl
  all_goals simp [Same, Drive.Stands.refl, State.life, State.answers, State.drive]

theorem frame_setEntries (s : State) (es : List Peer) : Frame [.peers] s (s.setEntries es) := frame_peers s _

theorem frame_onLink (s : State) (f : LinkController → LinkController) : Frame [.link] s (s.onLink f) := by
  intro b n
  cases b <;> simp at n
  case channels => exact same_channels rfl rfl
  all_goals simp [Same, Drive.Stands.refl, State.life, State.answers, State.drive, State.onLink]

theorem frame_light (s : State) (l : LightUnit) : Frame [.light] s { s with light := l } := by
  intro b n
  cases b <;> simp at n
  case channels => exact same_channels rfl rfl
  all_goals simp [Same, Drive.Stands.refl, State.life, State.answers, State.drive]

theorem frame_sensors (s : State) (f : SensorFrontEnd) : Frame [.sensors] s { s with sfe := f } := by
  intro b n
  cases b <;> simp at n
  case channels => exact same_channels rfl rfl
  all_goals simp [Same, Drive.Stands.refl, State.life, State.answers, State.drive]

theorem frame_gust (s : State) (g : GustDetector) : Frame [.gust] s { s with gust := g } := by
  intro b n
  cases b <;> simp at n
  case channels => exact same_channels rfl rfl
  all_goals simp [Same, Drive.Stands.refl, State.life, State.answers, State.drive]

theorem frame_trv (s : State) (v : TravelLine) : Frame [.travelLine] s { s with trv := v } := by
  intro b n
  cases b <;> simp at n
  case channels => exact same_channels rfl rfl
  all_goals simp [Same, Drive.Stands.refl, State.life, State.answers, State.drive]

theorem frame_onWater (s : State) (f : WaterFrost → WaterFrost) : Frame [.water] s (s.onWater f) := by
  intro b n
  cases b <;> simp at n
  case channels => exact same_channels rfl rfl
  all_goals simp [Same, Drive.Stands.refl, State.life, State.answers, State.drive, State.onWater]

theorem frame_onHeating' (s : State) (f : Heating → Heating) (h : (f s.ht).burner = s.ht.burner) :
    Frame [.heating] s (s.onHeating f) := by
  intro b n
  cases b <;> simp at n
  case channels => exact ⟨fun _ => h, fun w _ => .inl (h.trans w), fun _ => Channel.Kept.refl _ _⟩
  all_goals simp [Same, Drive.Stands.refl, State.life, State.answers, State.drive, State.onHeating]

theorem frame_setTrigger (s : State) (b : Bool) : Frame [] s { s with lb := { s.lb with trigger := b } } :=
  frame_lb s _ fun _ h => h

theorem frame_raiseBattery (s : State) : Frame [] s s.raiseBattery := by
  intro b n
  cases b <;> simp at n
  case channels => exact same_channels rfl rfl
  all_goals simp [Same, Drive.Stands.refl, State.life, State.answers, State.drive, State.raiseBattery, State.onCauses]

/-- Heating, Water and Frost, Light and Switch units act on their own blocks. -/
theorem UnitsAlone.frame {s t : State} (h : UnitsAlone s t) (r : ∀ i : Fin 8, t.sw[i].record = s.sw[i].record) :
    Frame [.water, .heating, .light, .channels] s t := by
  have rest := h.rest
  intro b n
  cases b <;> simp at n
  case channelRecords => exact r
  all_goals rw [rest]; simp [Same, Drive.Stands.refl, State.life, State.answers, State.drive]

theorem frame_entryChange (s : State) : Frame [.interlock, .drives] s s.entryChange :=
  ((frame_trigger s).widen (by simp)).trans (by simp [Composes]) (frame_interlockEvent _)

/-! ### What follows from an event -/

section
variable (s : State)

@[simp] theorem finish_now : s.finish.now = s.now := (finish_changes s).1 .clock (by simp)
@[simp] theorem finish_cc : s.finish.cc = s.cc := (finish_changes s).1 .charge (by simp)
@[simp] theorem finish_pt : s.finish.pt = s.pt := (finish_changes s).1 .peers (by simp)
@[simp] theorem finish_light : s.finish.light = s.light := (finish_changes s).1 .light (by simp)
@[simp] theorem finish_interlock : s.finish.interlock = s.interlock := (finish_changes s).1 .interlock (by simp)
@[simp] theorem finish_gust : s.finish.gust = s.gust := (finish_changes s).1 .gust (by simp)
@[simp] theorem finish_trv : s.finish.trv = s.trv := (finish_changes s).1 .travelLine (by simp)
@[simp] theorem finish_sfe : s.finish.sfe = s.sfe := (finish_changes s).1 .sensors (by simp)
@[simp] theorem finish_strap : s.finish.nc.strap = s.nc.strap := by
  rw [show s.finish.nc = _ from (finish_changes s).1 .node (by simp)]
@[simp] theorem finish_started : s.finish.nc.started = s.nc.started := by
  rw [show s.finish.nc = _ from (finish_changes s).1 .node (by simp)]
@[simp] theorem finish_isBattery : s.finish.isBattery = s.isBattery := by
  unfold State.isBattery State.role
  rw [finish_strap]
@[simp] theorem finish_ownAddr : s.finish.ownAddr = s.ownAddr := by
  unfold State.ownAddr
  rw [finish_strap]
@[simp] theorem finish_pending : s.finish.pending = s.pending := (finish_changes s).1 .queue (by simp)

end

/-- What the queue hands on does not rest on the life state but for COMMISSIONING. -/
theorem takeSettings_of_commissioning {s t : State} (l : t.life = .commissioning ↔ s.life = .commissioning)
    (q : t.od.iq = s.od.iq) (h : t.od.inHand = s.od.inHand) :
    t.takeSettings.od.iq = s.takeSettings.od.iq ∧ t.takeSettings.od.inHand = s.takeSettings.od.inHand := by
  unfold State.takeSettings
  rw [q, h]
  simp only [l]
  split
  · split
    · split <;> simp_all
    · simp_all
  · simp_all

/-- A meaning that ends in `finish` and before it keeps the queue, and the node in or out of COMMISSIONING. -/
theorem Changes.of_frame {c : List Block} {s t : State} (n : Composes c) (m : Block.inbound ∉ c) (h : Frame c s t)
    (l : t.life = .commissioning ↔ s.life = .commissioning) : Changes c s t.finish := by
  obtain ⟨f, g1, g2, g3⟩ := finish_changes t
  obtain ⟨q1, q2, q3⟩ := h .inbound m
  have e := takeSettings_of_commissioning l q1 q2
  have n' : Composes (.inbound :: c) := by simpa [Composes] using n
  exact ⟨(h.widen (by simp)).trans n' (f.widen (by simp)), g1.trans e.1, g2.trans e.2, by rw [g3, q3]⟩

/-- The same for a frame that names no change of life. -/
theorem Changes.after {c : List Block} {s t : State} (n : Composes c) (m : Block.inbound ∉ c) (h : Frame c s t)
    (k : Block.life ∉ c) : Changes c s t.finish := by
  refine Changes.of_frame n m h ?_
  rcases h .life k with l | ⟨l, l'⟩
  · rw [l]
  · simp [l, l']

/-! ### A handled telegram -/

/-- The node at the handling of a good telegram: read in, HEARD driven (R157, R160). -/
def State.heard (s : State) : State := (s.onLink LinkController.readTelegram).driveHeard

theorem frame_heard (s : State) : Frame [.link] s s.heard :=
  (frame_onLink s LinkController.readTelegram).trans (by simp [Composes])
    (frame_onLink _ fun l => { l with heardSlot := s.life.drivesSlots })

@[simp] theorem State.heard_now (s : State) : s.heard.now = s.now := rfl
@[simp] theorem State.heard_pt (s : State) : s.heard.pt = s.pt := rfl

/-- The receiver after an event that leaves it as it is after the reading. -/
theorem heard_of_frame {s t : State} {c : List Block} (h : Frame c s.heard t) (m : .link ∉ c) : Heard false s t.finish := by
  have h1 := h .link m
  have g1 := (finish_changes t).1 .link (by simp)
  have e : t.finish.lc = { s.heard.lc with service := t.finish.lc.service } := (Same.trans_alone (by simp) h1 g1).1
  rw [Heard, e]
  rfl

end Sys2Proof.Machine
end

section
/-! PROOFS. O16 to O19: the Peer Table. -/

namespace Sys2Proof.Machine

/-! ### STATE -/

@[simp] theorem State.entryChange_pt (s : State) : s.entryChange.pt = s.pt := frame_entryChange s .peers (by simp)

theorem frame_peerState (s : State) (src : Addr) (p : List Byte) :
    Frame [.peers, .interlock, .drives] s (s.peerState src p) := by
  have c : Composes [.peers, .interlock, .drives] := by simp [Composes]
  have set (es : List Peer) : Frame [.peers, .interlock, .drives] s (s.setEntries es) :=
    (frame_setEntries s es).widen (by simp)
  have change (es : List Peer) : Frame [.peers, .interlock, .drives] s (s.setEntries es).entryChange :=
    (set es).trans c ((frame_entryChange _).widen (by simp))
  unfold State.peerState
  dsimp only
  split
  · split
    · exact change _
    · exact set _
  · split
    · exact change _
    · split
      · exact change _
      · have see := frame_peers s { s.pt with stranger := some (s.now + Config.strangerMs) }
        unfold State.seeStranger
        dsimp only
        split
        · exact see.widen (by simp)
        · exact (see.widen (by simp)).trans c ((frame_trigger _).widen (by simp))

/-- A known station's entry is made anew, and stands last (R25, R26). -/
theorem State.peerState_known {s : State} {src : Addr} {old : Peer} (h : s.entry src = some old) (p : List Byte) :
    (s.peerState src p).pt = { s.pt with
      entries := s.pt.entries.filter (fun e => e.addr ≠ src) ++ [refreshed old (peerOf src s.now p)] } := by
  have h : s.pt.entries.find? (fun e => e.addr = src) = some old := h
  unfold State.peerState
  rw [h]
  dsimp only
  split
  · rw [State.entryChange_pt]; rfl
  · rfl

/-- A newcomer joins a table with room (R23). -/
theorem State.peerState_room {s : State} {src : Addr} (h : s.entry src = none) (n : s.pt.entries.length < 16)
    (p : List Byte) :
    (s.peerState src p).pt = { s.pt with entries := s.pt.entries ++ [peerOf src s.now p] } := by
  have h : s.pt.entries.find? (fun e => e.addr = src) = none := h
  unfold State.peerState
  rw [h]
  dsimp only
  rw [if_pos (show s.pt.entries.length < Config.peerPlaces from n), State.entryChange_pt]
  rfl

/-- In a full table it takes the place of the LOST entry silent longest (R23). -/
theorem State.peerState_evicts {s : State} {src : Addr} {gone : Peer} (h : s.entry src = none)
    (n : 16 ≤ s.pt.entries.length) (g : longestSilent s.pt.entries = some gone) (p : List Byte) :
    (s.peerState src p).pt = { s.pt with
      entries := s.pt.entries.filter (fun e => e.addr ≠ gone.addr) ++ [peerOf src s.now p] } := by
  have h : s.pt.entries.find? (fun e => e.addr = src) = none := h
  unfold State.peerState
  rw [h]
  dsimp only
  rw [if_neg (show ¬ s.pt.entries.length < Config.peerPlaces from Nat.not_lt.2 n), g]
  dsimp only
  rw [State.entryChange_pt]
  rfl

/-- Without a LOST entry it is refused, and seen as a stranger for 60 s (R23, R24). -/
theorem State.peerState_refused {s : State} {src : Addr} (h : s.entry src = none)
    (n : 16 ≤ s.pt.entries.length) (g : longestSilent s.pt.entries = none) (p : List Byte) :
    (s.peerState src p).pt = { s.pt with stranger := some (s.now + 60000) } := by
  have h : s.pt.entries.find? (fun e => e.addr = src) = none := h
  unfold State.peerState
  rw [h]
  dsimp only
  rw [if_neg (show ¬ s.pt.entries.length < Config.peerPlaces from Nat.not_lt.2 n), g]
  dsimp only
  unfold State.seeStranger
  dsimp only
  split <;> rfl

/-- Settles O16: the four cases of the table, each through the event's frame. -/
theorem stateMakesAnEntry : Obligations.StateMakesAnEntry := by
  rintro s src tgt pr p _ h n rfl
  have run : exec (.stateReceived src tgt (sent pr kindState src tgt p)) s = .next (s.heard.peerState src p).finish := by
    refine congrArg Host.Outcome.next ?_
    have fits : decide ((sent pr kindState src tgt p).payload.length = 12) = true := decide_eq_true n
    rw [fits]
    exact State.receive_handled h (by omega)
  have f := frame_peerState s.heard src p
  have entry : s.heard.entry src = s.entry src := rfl
  refine ⟨_, run, heard_of_frame f (by simp), ?table, fun old k => ?known, fun k room => ?newcomer,
    fun k full lost => ?evicts, fun k full none => ?refused, rfl, rfl, rfl, rfl, ?frame⟩
  case table =>
    rw [finish_pt]
    cases k : s.entry src with
    | some old => rw [State.peerState_known (entry.trans k)]; rfl
    | none =>
      rcases Nat.lt_or_ge s.pt.entries.length 16 with room | full
      · rw [State.peerState_room (entry.trans k) room]; rfl
      · cases g : longestSilent s.pt.entries with
        | some gone => rw [State.peerState_evicts (entry.trans k) full g]; rfl
        | none => rw [State.peerState_refused (entry.trans k) full g]; rfl
  case known =>
    rw [finish_pt, State.peerState_known (entry.trans k)]
    refine ⟨?_, rfl⟩
    simp only [State.heard_pt, State.heard_now, List.append_cancel_left_eq, List.cons.injEq, and_true]
    unfold refreshed
    by_cases k : (peerOf src s.now p).flags.hello = true ∨ (peerOf src s.now p).role ≠ old.role
    · rw [if_pos k, if_pos k]; rfl
    · rw [if_neg k, if_neg k]
  case newcomer =>
    rw [finish_pt, State.peerState_room (entry.trans k) room]
    exact ⟨rfl, rfl⟩
  case evicts =>
    obtain ⟨g1, g2⟩ := longestSilent_spec s.pt.entries
    cases g : longestSilent s.pt.entries with
    | none =>
      obtain ⟨e, m, l⟩ := lost
      exact absurd l (g1.1 g e m)
    | some gone =>
      obtain ⟨m, l, silent⟩ := g2 gone g
      rw [finish_pt, State.peerState_evicts (entry.trans k) full g]
      exact ⟨gone, m, l, silent, rfl, rfl⟩
  case refused =>
    have g := (longestSilent_spec s.pt.entries).1.2 none
    rw [finish_pt, State.peerState_refused (entry.trans k) full g]
    exact ⟨rfl, rfl⟩
  case frame =>
    have c : Composes [.peers, .link, .interlock, .drives] := by simp [Composes]
    exact Changes.after c (by simp) (((frame_heard s).widen (by simp)).trans c (f.widen (by simp))) (by simp)

/-! ### Aging -/

/-- An entry that has been silent for the time of its status moves on, alone (R27). -/
theorem ageEntry_moves {s : State} {a : Addr} {p : Peer} {src dst : PeerStatus} {at_ : Peer → Nat}
    (h : s.entry a = some p) (k : p.status = src) :
    ∃ t, s.ageEntry a src dst at_ = t ∧ t.now = max s.now (at_ p) ∧
      t.pt = { s.pt with entries := s.pt.entries.map fun e => if e.addr = a then { e with status := dst } else e } ∧
      Changes [.clock, .peers, .interlock, .drives] s t := by
  have run : s.ageEntry a src dst at_ =
      (((s.reach (at_ p)).setEntries (onEntry a (fun e => { e with status := dst }) s.pt.entries)).entryChange).finish := by
    unfold State.ageEntry
    rw [h]
    exact if_pos k
  have c : Composes [.clock, .peers, .interlock, .drives] := by simp [Composes]
  refine ⟨_, run, ?_, ?_, Changes.after c (by simp)
    ((((frame_reach s (at_ p)).widen (by simp)).trans c ((frame_setEntries _ _).widen (by simp))).trans c
      ((frame_entryChange _).widen (by simp))) (by simp)⟩
  · rw [finish_now, show _ = _ from frame_entryChange _ .clock (by simp)]
    rfl
  · rw [finish_pt, State.entryChange_pt]
    rfl

/-- Settles O17: both aging steps are one, and the stranger timer is an update of its own. -/
theorem silenceAgesAnEntry : Obligations.SilenceAgesAnEntry := by
  refine fun s a => ⟨fun p h k => ?stale, fun p h k => ?lost, fun e h => ?stranger⟩
  case stale =>
    obtain ⟨t, run, rest⟩ := ageEntry_moves (dst := .stale) (at_ := Peer.staleAt) h k
    exact ⟨t, congrArg Host.Outcome.next run, rest⟩
  case lost =>
    obtain ⟨t, run, rest⟩ := ageEntry_moves (dst := .lost) (at_ := Peer.lostAt) h k
    exact ⟨t, congrArg Host.Outcome.next run, rest⟩
  case stranger =>
    have c : Composes [.clock, .peers] := by simp [Composes]
    refine ⟨_, congrArg Host.Outcome.next (onExpiry_of h), ?_, ?_, Changes.after c (by simp)
      ((((frame_reach s e).widen (by simp)).trans c ((frame_peers _ _).widen (by simp))).trans c
        ((frame_trigger _).widen (by simp))) (by simp)⟩
    · rw [finish_now]; rfl
    · rw [finish_pt]; rfl

/-! ### MEASURE -/

/-- Readings of other quantities leave an entry. -/
theorem takeReadings_other (now : Nat) {l : List (Nat × Int)} (h : ∀ x ∈ l, x.1 ≠ 1) (e : Peer) :
    l.foldl (Peer.takeReading now) e = e := by
  induction l with
  | nil => rfl
  | cons r l ih =>
    have r1 : Peer.takeReading now e r = e := if_neg (h r List.mem_cons_self)
    rw [List.foldl_cons, r1, ih fun x m => h x (List.mem_cons_of_mem _ m)]

/-- Only the readings of CABIN_T act (R29). -/
theorem takeReadings_filter (now : Nat) (l : List (Nat × Int)) (e : Peer) :
    l.foldl (Peer.takeReading now) e = (l.filter fun x => x.1 = 1).foldl (Peer.takeReading now) e := by
  induction l generalizing e with
  | nil => rfl
  | cons r l ih =>
    by_cases h : r.1 = 1
    · rw [List.filter_cons_of_pos (by simpa using h), List.foldl_cons, List.foldl_cons, ih]
    · rw [List.filter_cons_of_neg (by simpa using h), List.foldl_cons, ih]
      exact congrArg (fun x => List.foldl (Peer.takeReading now) x _) (if_neg h)

/-- A MEASURE changes no more of an entry than its cabin temperature. -/
theorem takeReadings_cabin (now : Nat) (l : List (Nat × Int)) (e : Peer) :
    l.foldl (Peer.takeReading now) e = { e with cabin := (l.foldl (Peer.takeReading now) e).cabin } := by
  have h := takeReading_cabin now l e
  generalize l.foldl (Peer.takeReading now) e = f at h
  cases e
  cases f
  simp_all

/-- Settles O18: a fold of the readings into one entry, and an update of its own for the expiry. -/
theorem measureFeedsCabinTemperature : Obligations.MeasureFeedsCabinTemperature := by
  refine fun s => ⟨fun src tgt pr p h n => ?measure, fun a p r h k => ?expiry⟩
  case expiry =>
    have old : ((s.entry a).bind fun p => p.cabin) = some r := by rw [h, Option.bind_some, k]
    refine ⟨_, rfl, ?_⟩
    rw [old]
    rfl
  case measure =>
    have run : exec (.measureReceived src tgt (sent pr kindMeasure src tgt p)) s = .next (s.heard.peerMeasure src p).finish := by
      refine congrArg Host.Outcome.next ?_
      have fits : decide ((sent pr kindMeasure src tgt p).payload.length = 12) = true := decide_eq_true n
      rw [fits]
      exact State.receive_handled h (by omega)
    have f : Frame [.peers] s.heard (s.heard.peerMeasure src p) := frame_setEntries _ _
    have entries : (s.heard.peerMeasure src p).finish.pt = { s.pt with
        entries := onEntry src (fun e => (readingsOf p).foldl (Peer.takeReading s.now) e) s.pt.entries } := by
      rw [finish_pt]; rfl
    have c : Composes [.peers, .link] := by simp [Composes]
    refine ⟨_, run, heard_of_frame f (by simp), by rw [entries], ?_, fun k e x he hx => ?_,
      Changes.after c (by simp) (((frame_heard s).widen (by simp)).trans c (f.widen (by simp))) (by simp)⟩
    · rw [entries]
      exact List.length_map _
    · rw [entries] at hx
      have hx : (s.pt.entries[k]?.map fun e =>
          if e.addr = src then (readingsOf p).foldl (Peer.takeReading s.now) e else e) = some x := by
        rw [← List.getElem?_map]; exact hx
      rw [he, Option.map_some, Option.some.injEq] at hx
      subst hx
      by_cases own : e.addr = src
      · rw [if_pos own]
        refine ⟨takeReadings_cabin _ _ _, fun n => absurd own n, fun _ other => ?_, fun _ v one => ?_⟩
        · rw [takeReadings_other _ other]
        · rw [takeReadings_filter, one, List.foldl_cons, List.foldl_nil]
          unfold Peer.takeReading
          rw [if_pos rfl]
          rfl
      · rw [if_neg own]
        exact ⟨rfl, fun _ => rfl, fun o => absurd o own, fun o => absurd o own⟩

/-! ### Battery candidates -/

theorem lowestCandidate_spec (cs : List Candidate) :
    (lowestCandidate cs = none ↔ cs = []) ∧
      ∀ c, lowestCandidate cs = some c → c ∈ cs ∧ ∀ d ∈ cs, c.addr ≤ d.addr := by
  induction cs using List.reverseRecOn with
  | nil => simp [lowestCandidate]
  | append_singleton cs d ih =>
    obtain ⟨ih1, ih2⟩ := ih
    have step : lowestCandidate (cs ++ [d]) =
        (match lowestCandidate cs with
          | none => some d
          | some b => if d.addr < b.addr then some d else some b) := by
      rw [lowestCandidate, List.foldl_append]
      rfl
    rw [step]
    cases b : lowestCandidate cs with
    | none =>
      rw [ih1.1 b]
      simp
    | some b' =>
      obtain ⟨m, low⟩ := ih2 b' b
      dsimp only
      split
      next lt =>
        refine ⟨by simp, fun c h => ?_⟩
        cases h
        refine ⟨by simp, fun e he => ?_⟩
        rcases List.mem_append.1 he with he | he
        · exact (le_of_lt lt).trans (low e he)
        · rw [List.mem_singleton.1 he]
      next le =>
        refine ⟨by simp, fun c h => ?_⟩
        cases h
        refine ⟨by simp [m], fun e he => ?_⟩
        rcases List.mem_append.1 he with he | he
        · exact low e he
        · rw [List.mem_singleton.1 he]
          exact not_lt.1 le

/-- The view that a set of candidates gives (R33). -/
theorem chooseView_cases (s : State) :
    (∀ own v, s.isBattery = true → s.ownAddr = some own → s.cc.handed = some v →
      (∀ c ∈ s.pt.candidates, own ≤ c.addr) → s.chooseView = some ⟨own, v⟩) ∧
    (s.pt.candidates ≠ [] →
      s.isBattery = false ∨ s.cc.handed = none ∨ (∃ own, s.ownAddr = some own ∧ ∃ c ∈ s.pt.candidates, c.addr < own) →
      ∃ c ∈ s.pt.candidates, (∀ d ∈ s.pt.candidates, c.addr ≤ d.addr) ∧ s.chooseView = some ⟨c.addr, c.vals⟩) ∧
    (s.pt.candidates = [] → s.isBattery = false ∨ s.cc.handed = none → s.chooseView = none) := by
  obtain ⟨none_iff, low⟩ := lowestCandidate_spec s.pt.candidates
  unfold State.chooseView
  cases l : lowestCandidate s.pt.candidates with
  | none =>
    have nil := none_iff.1 l
    refine ⟨fun own v b a h _ => by rw [b, a, h], fun n => absurd nil n, fun _ h => ?_⟩
    rcases h with h | h
    · rw [h]
    · rw [h]
      cases s.isBattery <;> cases s.ownAddr <;> rfl
  | some c =>
    obtain ⟨m, least⟩ := low c l
    refine ⟨fun own v b a h le => ?_, fun _ h => ⟨c, m, least, ?_⟩, fun nil => ?_⟩
    · rw [b, a, h]
      exact if_neg (not_lt.2 (le c m))
    · cases b : s.isBattery with
      | false => rfl
      | true =>
        cases a : s.ownAddr with
        | none => rfl
        | some own =>
          cases v : s.cc.handed with
          | none => rfl
          | some v =>
            rcases h with h | h | ⟨own', h, d, dm, lt⟩
            · rw [b] at h; cases h
            · rw [v] at h; cases h
            · rw [a, Option.some.injEq] at h
              subst h
              exact if_pos (lt_of_le_of_lt (least d dm) lt)
    · rw [nil] at m
      cases m

/-- CONFLICT is set exactly where a candidate is lower; its change stops or restarts the period and raises BATTERY_DUE, and
without one nothing changes (R16, R34). -/
theorem State.syncConflict_spec (s : State) : Frame [.charge] s s.syncConflict ∧ s.syncConflict.pt = s.pt ∧
    (s.cc.conflict = s.lowerCandidate → s.syncConflict = s) ∧
    (s.cc.conflict ≠ s.lowerCandidate → s.syncConflict.ts.pending.batteryDue = true ∧ s.syncConflict.cc = { s.cc with
      conflict := s.lowerCandidate, period := if s.lowerCandidate then none else some (s.now + 1000) }) := by
  have raised (c : ChargeCounter) : Frame [.charge] s ({ s with cc := c } : State).raiseBattery :=
    (frame_charge s c).trans (by simp [Composes]) ((frame_raiseBattery _).widen (by simp))
  unfold State.syncConflict
  cases k : s.cc.conflict <;> cases l : s.lowerCandidate
  · exact ⟨Frame.refl _ _, rfl, fun _ => rfl, fun n => absurd rfl n⟩
  · exact ⟨raised _, rfl, nofun, fun _ => ⟨rfl, rfl⟩⟩
  · exact ⟨raised _, rfl, nofun, fun _ => ⟨rfl, rfl⟩⟩
  · exact ⟨Frame.refl _ _, rfl, fun _ => rfl, fun n => absurd rfl n⟩

/-- The node with these candidates in its table, before it has acted on them. -/
def State.withCandidates (cs : List Candidate) (s : State) : State := s.onPeers fun t => { t with candidates := cs }

/-- A change of the candidates sets the view, CONFLICT with its period, and BATTERY_DUE where CONFLICT changes. -/
theorem State.takeCandidates_spec (s : State) (cs : List Candidate) : Frame [.peers, .charge] s (s.takeCandidates cs) ∧
    (s.takeCandidates cs).pt = { s.pt with candidates := cs, view := (s.withCandidates cs).chooseView } ∧
    (s.cc.conflict = (s.withCandidates cs).lowerCandidate → (s.takeCandidates cs).cc = s.cc) ∧
    (s.cc.conflict ≠ (s.withCandidates cs).lowerCandidate →
      (s.takeCandidates cs).ts.pending.batteryDue = true ∧ (s.takeCandidates cs).cc = { s.cc with
        conflict := (s.withCandidates cs).lowerCandidate
        period := if (s.withCandidates cs).lowerCandidate then none else some (s.now + 1000) }) := by
  have c : Composes [.peers, .charge] := by simp [Composes]
  obtain ⟨fc, ptc, keep, change⟩ := (s.withCandidates cs).syncConflict_spec
  set v := (s.withCandidates cs).syncConflict with hv
  have view : v.chooseView = (s.withCandidates cs).chooseView := by
    have strap : v.nc.strap = s.nc.strap := by rw [show v.nc = _ from fc .node (by simp)]; rfl
    have handed : v.cc.handed = s.cc.handed := by
      by_cases h : s.cc.conflict = (s.withCandidates cs).lowerCandidate
      · rw [keep h]; rfl
      · rw [(change h).2]; rfl
    unfold State.chooseView State.isBattery State.role State.ownAddr
    rw [strap, handed, ptc]
    rfl
  have taken : ∃ b, s.takeCandidates cs =
      { v with pt := { v.pt with view := v.chooseView }, lb := { v.lb with trigger := b } } := by
    obtain ⟨b, e⟩ := State.updateView_eq v
    have e : (s.withCandidates cs).syncConflict.updateView =
      { v with pt := { v.pt with view := v.chooseView }, lb := { v.lb with trigger := b } } := e
    show ∃ b, (if (s.withCandidates cs).syncConflict.updateView.noBattery = s.noBattery then _ else _) = _
    split
    · exact ⟨b, e⟩
    · exact ⟨true, congrArg State.trigger e⟩
  obtain ⟨b, taken⟩ := taken
  rw [taken]
  refine ⟨?_, ?_, fun h => ?_, fun h => ⟨(change h).1, (change h).2⟩⟩
  · have step := frame_peers v { v.pt with view := v.chooseView }
    exact (((frame_peers s _).widen (by simp)).trans c (fc.widen (by simp))).trans c
      ((step.widen (by simp)).trans c ((frame_setTrigger { v with pt := { v.pt with view := v.chooseView } } b).widen (by simp)))
  · rw [ptc, view]
    rfl
  · rw [keep h]
    rfl

/-- What a change of the candidates does, in a state `u` that has only read a telegram or let time pass since `s`. -/
theorem candidates_taken {s u : State} {c : List Block} (cs : List Candidate) (f : Frame c s u) (n : .node ∉ c)
    (p : .peers ∉ c) (q : .charge ∉ c) (l : .life ∉ c) :
    (u.takeCandidates cs).finish.pt =
        { s.pt with candidates := cs, view := (u.takeCandidates cs).finish.pt.view } ∧
      SourceChosen cs s (u.takeCandidates cs).finish ∧ ConflictFollows u.now cs s (u.takeCandidates cs).finish := by
  have pt : u.pt = s.pt := f .peers p
  have cc : u.cc = s.cc := f .charge q
  have strap : u.nc.strap = s.nc.strap := by rw [show u.nc = _ from f .node n]
  have battery : u.isBattery = s.isBattery := by unfold State.isBattery State.role; rw [strap]
  have addr : u.ownAddr = s.ownAddr := by unfold State.ownAddr; rw [strap]
  obtain ⟨fc, ptc, keep, change⟩ := u.takeCandidates_spec cs
  rw [cc] at keep change
  set t := u.takeCandidates cs
  have due : t.ts.pending.batteryDue = true → t.finish.ts.pending.batteryDue = true :=
    ((finish_changes t).1 .causes (by simp)).2.1
  have batteryT : t.isBattery = s.isBattery := by
    unfold State.isBattery State.role
    rw [show t.nc = _ from fc .node (by simp), strap]
  refine ⟨by rw [finish_pt, ptc, pt], ?_, ?_⟩
  · obtain ⟨own, lowest, none⟩ := chooseView_cases (u.withCandidates cs)
    have b : (u.withCandidates cs).isBattery = s.isBattery := battery
    have a : (u.withCandidates cs).ownAddr = s.ownAddr := addr
    have h : (u.withCandidates cs).cc.handed = s.cc.handed := congrArg ChargeCounter.handed cc
    rw [b, h] at own lowest none
    rw [a] at own lowest
    refine ⟨fun o v h1 h2 h3 h4 => ?_, fun h1 h2 => ?_, fun h1 h2 => ?_, fun active => ?_⟩
    · rw [finish_pt, ptc]; exact own o v h1 h2 h3 h4
    · rw [finish_pt, ptc]; exact lowest h1 h2
    · rw [finish_pt, ptc]; exact none h1 h2
    · have act : t.life.active = true := by
        rcases (f .life l).trans_life (fc .life (by simp)) with e | ⟨_, e⟩
        · rw [e]; exact active
        · rw [e]; rfl
      rw [show t.finish.nc.flags = _ from finish_flags t]
      unfold State.flagsOf
      rw [if_pos (finish_active t act)]
      show State.noBattery _ = true ↔ _
      unfold State.noBattery
      rw [finish_isBattery, batteryT, finish_pt, ptc]
      simp
  · have lower (o : Addr) (h1 : s.isBattery = true) (h2 : s.ownAddr = some o) :
        (u.withCandidates cs).lowerCandidate = true ↔ ∃ c ∈ cs, c.addr < o := by
      unfold State.lowerCandidate
      rw [show (u.withCandidates cs).isBattery = true from battery.trans h1,
        show (u.withCandidates cs).ownAddr = some o from addr.trans h2]
      show cs.any _ = true ↔ _
      simp
    by_cases same : s.cc.conflict = (u.withCandidates cs).lowerCandidate
    · have k : t.finish.cc = s.cc := by rw [finish_cc, keep same]
      refine ⟨fun o h1 h2 => ?_, by rw [k]⟩
      rw [k]
      refine ⟨by rw [same]; exact lower o h1 h2, fun h3 h4 => ?_, fun h3 h4 => ?_, fun _ => rfl⟩
      · rw [h3] at h4; cases h4
      · rw [h3] at h4; cases h4
    · obtain ⟨raised, k⟩ := change same
      rw [← finish_cc] at k
      refine ⟨fun o h1 h2 => ⟨by rw [k]; exact lower o h1 h2, fun h3 h4 => ?_, fun h3 h4 => ?_, fun h3 => ?_⟩, by rw [k]⟩
      · rw [k] at h4 ⊢
        exact ⟨if_pos h4, due raised⟩
      · rw [k] at h4 ⊢
        exact ⟨if_neg (Bool.eq_false_iff.1 h4), due raised⟩
      · rw [k] at h3
        exact absurd h3.symm same

/-- Settles O19: receipt and expiry take a list of candidates each, and the choice is made from the list alone. -/
theorem lowestCandidateIsTheSource : Obligations.LowestCandidateIsTheSource := by
  refine fun s cs => ⟨fun src tgt pr p h n e => ?received, fun a c h e => ?expiry⟩
  case received =>
    have run : exec (.batteryReceived src tgt (sent pr kindBattery src tgt p)) s = .next (s.heard.takeCandidates cs).finish := by
      refine congrArg Host.Outcome.next ?_
      have fits : decide ((sent pr kindBattery src tgt p).payload.length = 9) = true := decide_eq_true n
      rw [fits, e]
      exact State.receive_handled h (by omega)
    have f := (s.heard.takeCandidates_spec cs).1
    obtain ⟨pt, chosen, conflict⟩ := candidates_taken cs (frame_heard s) (by simp) (by simp) (by simp) (by simp)
    have cmp : Composes [.peers, .link, .charge] := by simp [Composes]
    exact ⟨_, run, heard_of_frame f (by simp), pt, chosen, conflict,
      Changes.after cmp (by simp) (((frame_heard s).widen (by simp)).trans cmp (f.widen (by simp))) (by simp)⟩
  case expiry =>
    have run : exec (.batteryCandidateExpiry a) s = .next ((s.reach c.expires).takeCandidates cs).finish := by
      refine congrArg Host.Outcome.next ?_
      rw [h, e]
    have f := ((s.reach c.expires).takeCandidates_spec cs).1
    obtain ⟨pt, chosen, conflict⟩ := candidates_taken cs (frame_reach s c.expires) (by simp) (by simp) (by simp) (by simp)
    have cmp : Composes [.clock, .peers, .charge] := by simp [Composes]
    refine ⟨_, run, ?_, pt, chosen, conflict,
      Changes.after cmp (by simp) (((frame_reach s c.expires).widen (by simp)).trans cmp (f.widen (by simp))) (by simp)⟩
    rw [finish_now, show _ = _ from f .clock (by simp)]
    rfl

end Sys2Proof.Machine
end

section
/-! PROOFS. O12 and O15: the sample of the Charge Counter and the runs that qualify CUT and the synchronisation. -/

namespace Sys2Proof.Machine

/-! ### Runs of samples -/

section
variable {c : ChargeCounter}

/-- The voltage and the current of the sample are those of a full battery (R14). -/
def ChargeCounter.Full (c : ChargeCounter) : Prop := c.params.vFull ≤ c.v ∧ 0 ≤ c.iS ∧ c.iS ≤ c.params.iTail

theorem ChargeCounter.advanceSync_within (h : c.Full) (n : c.syncRun < 1199) :
    c.advanceSync = { c with syncRun := c.syncRun + 1 } := by
  unfold ChargeCounter.advanceSync
  rw [if_pos (show c.params.vFull ≤ c.v ∧ 0 ≤ c.iS ∧ c.iS ≤ c.params.iTail from h)]
  exact if_neg (by simp only [Config.syncRunLength]; omega)

theorem ChargeCounter.advanceSync_last (h : c.Full) (n : c.syncRun = 1199) :
    c.advanceSync = { c with
      syncRun := 0, count := c.count.map fun n => { n with q := c.params.qFull, f := 0 }
      estimated := false, emptyCount := false, estimatedSinceReset := false } := by
  unfold ChargeCounter.advanceSync
  rw [if_pos (show c.params.vFull ≤ c.v ∧ 0 ≤ c.iS ∧ c.iS ≤ c.params.iTail from h)]
  exact if_pos (by simp only [Config.syncRunLength]; omega)

theorem ChargeCounter.advanceSync_breaks (h : ¬ c.Full) : c.advanceSync = { c with syncRun := 0 } := by
  unfold ChargeCounter.advanceSync
  rw [if_neg (show ¬ (c.params.vFull ≤ c.v ∧ 0 ≤ c.iS ∧ c.iS ≤ c.params.iTail) from h)]
  exact if_neg (by simp [Config.syncRunLength])

theorem ChargeCounter.advanceCut_below (h : c.cut = false) (v : c.v < c.params.vCut) (n : c.cutRun < 99) :
    c.advanceCut = { c with cutRun := c.cutRun + 1, clearRun := 0 } := by
  unfold ChargeCounter.advanceCut
  rw [if_neg (by simp [h]), if_pos v]
  exact if_neg (by simp only [Config.cutRunLength]; omega)

theorem ChargeCounter.advanceCut_sets (h : c.cut = false) (v : c.v < c.params.vCut) (n : c.cutRun = 99) :
    c.advanceCut = { c with cut := true, clearRun := 0, cutRun := 0 } := by
  unfold ChargeCounter.advanceCut
  rw [if_neg (by simp [h]), if_pos v]
  exact if_pos (by simp only [Config.cutRunLength]; omega)

theorem ChargeCounter.advanceCut_holds (h : c.cut = false) (v : c.params.vCut ≤ c.v) :
    c.advanceCut = { c with cutRun := 0, clearRun := 0 } := by
  unfold ChargeCounter.advanceCut
  rw [if_neg (by simp [h]), if_neg (Nat.not_lt.2 v)]
  exact if_neg (by simp [Config.cutRunLength])

theorem ChargeCounter.advanceCut_above (h : c.cut = true) (v : c.params.vCut + 400 ≤ c.v) (n : c.clearRun < 599) :
    c.advanceCut = { c with clearRun := c.clearRun + 1, cutRun := 0 } := by
  unfold ChargeCounter.advanceCut
  rw [if_pos h, if_pos v]
  exact if_neg (by simp only [Config.clearRunLength]; omega)

theorem ChargeCounter.advanceCut_clears (h : c.cut = true) (v : c.params.vCut + 400 ≤ c.v) (n : c.clearRun = 599) :
    c.advanceCut = { c with cut := false, clearRun := 0, cutRun := 0 } := by
  unfold ChargeCounter.advanceCut
  rw [if_pos h, if_pos v]
  exact if_pos (by simp only [Config.clearRunLength]; omega)

theorem ChargeCounter.advanceCut_lasts (h : c.cut = true) (v : c.v < c.params.vCut + 400) :
    c.advanceCut = { c with clearRun := 0, cutRun := 0 } := by
  unfold ChargeCounter.advanceCut
  rw [if_pos h, if_neg (Nat.not_le.2 v)]
  exact if_neg (by simp [Config.clearRunLength])

end

/-- Step 4's synchronisation at each of a run of samples, voltage and current. -/
def ChargeCounter.syncOver (xs : List (Nat × Int)) (c : ChargeCounter) : ChargeCounter :=
  xs.foldl (fun (c : ChargeCounter) x => ({ c with v := x.1, iS := x.2 } : ChargeCounter).advanceSync) c

/-- Step 4's CUT at each of a run of samples. -/
def ChargeCounter.cutOver (vs : List Nat) (c : ChargeCounter) : ChargeCounter :=
  vs.foldl (fun (c : ChargeCounter) (v : Nat) => ({ c with v := v } : ChargeCounter).advanceCut) c

theorem ChargeCounter.syncOver_append (xs : List (Nat × Int)) (x : Nat × Int) (c : ChargeCounter) :
    c.syncOver (xs ++ [x]) = ({ c.syncOver xs with v := x.1, iS := x.2 } : ChargeCounter).advanceSync := by
  simp [ChargeCounter.syncOver]

theorem ChargeCounter.cutOver_append (vs : List Nat) (v : Nat) (c : ChargeCounter) :
    c.cutOver (vs ++ [v]) = ({ c.cutOver vs with v := v } : ChargeCounter).advanceCut := by
  simp [ChargeCounter.cutOver]

/-- A run of full samples short of 1200 is counted, and nothing else. -/
theorem ChargeCounter.syncOver_short (xs : List (Nat × Int)) (c : ChargeCounter) (z : c.syncRun = 0)
    (h : ∀ x ∈ xs, c.params.vFull ≤ x.1 ∧ 0 ≤ x.2 ∧ x.2 ≤ c.params.iTail) (n : xs.length < 1200) :
    c.syncOver xs = { c with v := (c.syncOver xs).v, iS := (c.syncOver xs).iS, syncRun := xs.length } := by
  induction xs using List.reverseRecOn with
  | nil => rw [List.length_nil, ← z]; rfl
  | append_singleton xs x ih =>
    rw [List.length_append, List.length_singleton] at n ⊢
    have before := ih (fun y m => h y (by simp [m])) (by omega)
    rw [ChargeCounter.syncOver_append, before]
    have last := h x (by simp)
    rw [ChargeCounter.advanceSync_within (by exact last) (by show xs.length < 1199; omega)]

/-- A run of samples below V_cut short of 100 leaves CUT clear and is counted (R13). -/
theorem ChargeCounter.cutOver_below (vs : List Nat) (c : ChargeCounter) (cut : c.cut = false) (z : c.cutRun = 0)
    (h : ∀ v ∈ vs, v < c.params.vCut) (n : vs.length < 100) :
    (c.cutOver vs).cut = false ∧ (c.cutOver vs).cutRun = vs.length ∧ (c.cutOver vs).params = c.params := by
  induction vs using List.reverseRecOn with
  | nil => exact ⟨cut, z, rfl⟩
  | append_singleton vs v ih =>
    rw [List.length_append, List.length_singleton] at n ⊢
    obtain ⟨h1, h2, h3⟩ := ih (fun y m => h y (by simp [m])) (by omega)
    have last := h v (by simp)
    rw [ChargeCounter.cutOver_append,
      ChargeCounter.advanceCut_below (c := { c.cutOver vs with v := v }) h1 (by show v < _; rw [h3]; exact last) (by show (c.cutOver vs).cutRun < 99; omega)]
    exact ⟨h1, by rw [← h2], h3⟩

/-- A run of samples at or above V_cut + 400 short of 600 leaves CUT set and is counted (R13). -/
theorem ChargeCounter.cutOver_above (vs : List Nat) (c : ChargeCounter) (cut : c.cut = true) (z : c.clearRun = 0)
    (h : ∀ v ∈ vs, c.params.vCut + 400 ≤ v) (n : vs.length < 600) :
    (c.cutOver vs).cut = true ∧ (c.cutOver vs).clearRun = vs.length ∧ (c.cutOver vs).params = c.params := by
  induction vs using List.reverseRecOn with
  | nil => exact ⟨cut, z, rfl⟩
  | append_singleton vs v ih =>
    rw [List.length_append, List.length_singleton] at n ⊢
    obtain ⟨h1, h2, h3⟩ := ih (fun y m => h y (by simp [m])) (by omega)
    have last := h v (by simp)
    rw [ChargeCounter.cutOver_append,
      ChargeCounter.advanceCut_above (c := { c.cutOver vs with v := v }) h1 (by show _ ≤ v; rw [h3]; exact last) (by show (c.cutOver vs).clearRun < 599; omega)]
    exact ⟨h1, by rw [← h2], h3⟩

/-- Settles O15: a run is counted up to the sample before the last, which then sets, clears or synchronises. -/
theorem cutIsQualifiedByRuns : Obligations.CutIsQualifiedByRuns := by
  refine ⟨?sync, fun c h => ChargeCounter.advanceSync_breaks fun ⟨f1, f2, f3⟩ => by omega, ?cut⟩
  case sync =>
    rintro c n xs _ k z h rfl
    refine ⟨fun short => ChargeCounter.syncOver_short xs c z h short, fun len => ?_⟩
    show c.syncOver xs = { c with
      v := (c.syncOver xs).v, iS := (c.syncOver xs).iS, syncRun := 0
      count := some { n with q := c.params.cNom * 3600000, f := 0 }
      estimated := false, emptyCount := false, estimatedSinceReset := false }
    rcases List.eq_nil_or_concat xs with e | ⟨ys, y, rfl⟩
    · rw [e] at len; cases len
    · rw [List.concat_eq_append] at h len ⊢
      rw [List.length_append, List.length_singleton] at len
      have before := ChargeCounter.syncOver_short ys c z (fun x m => h x (by simp [m])) (by omega)
      have last := h y (by simp)
      rw [ChargeCounter.syncOver_append, before]
      rw [ChargeCounter.advanceSync_last (by exact last) (by show ys.length = 1199; omega)]
      simp only [k]
      rfl
  case cut =>
    rintro c vs _ rfl
    refine ⟨fun cut z h => ⟨fun short => ?_, fun len => ?_⟩, fun cut z h => ⟨fun short => ?_, fun len => ?_⟩,
      fun v => ⟨fun cut h => ?_, fun cut h => ?_⟩⟩
    · obtain ⟨h1, h2, _⟩ := ChargeCounter.cutOver_below vs c cut z h short
      exact ⟨h1, h2⟩
    · show (c.cutOver vs).cut = true
      rcases List.eq_nil_or_concat vs with e | ⟨ys, y, rfl⟩
      · rw [e] at len; cases len
      · rw [List.concat_eq_append] at h len ⊢
        rw [List.length_append, List.length_singleton] at len
        obtain ⟨h1, h2, h3⟩ := ChargeCounter.cutOver_below ys c cut z (fun x m => h x (by simp [m])) (by omega)
        have last := h y (by simp)
        rw [ChargeCounter.cutOver_append,
          ChargeCounter.advanceCut_sets (c := { c.cutOver ys with v := y }) h1 (by show y < _; rw [h3]; exact last) (by show (c.cutOver ys).cutRun = 99; omega)]
    · obtain ⟨h1, h2, _⟩ := ChargeCounter.cutOver_above vs c cut z h short
      exact ⟨h1, h2⟩
    · show (c.cutOver vs).cut = false
      rcases List.eq_nil_or_concat vs with e | ⟨ys, y, rfl⟩
      · rw [e] at len; cases len
      · rw [List.concat_eq_append] at h len ⊢
        rw [List.length_append, List.length_singleton] at len
        obtain ⟨h1, h2, h3⟩ := ChargeCounter.cutOver_above ys c cut z (fun x m => h x (by simp [m])) (by omega)
        have last := h y (by simp)
        rw [ChargeCounter.cutOver_append,
          ChargeCounter.advanceCut_clears (c := { c.cutOver ys with v := y }) h1 (by show _ ≤ y; rw [h3]; exact last) (by show (c.cutOver ys).clearRun = 599; omega)]
    · rw [ChargeCounter.advanceCut_holds (c := { c with v := v }) cut h]
      exact ⟨cut, rfl⟩
    · rw [ChargeCounter.advanceCut_lasts (c := { c with v := v }) cut h]
      exact ⟨cut, rfl⟩

/-! ### One sample -/

section
variable (c : ChargeCounter)

/-- The charge update touches the count with its three marks. -/
theorem ChargeCounter.update_eq : ∃ count est mark empty, c.update = { c with
    count := count, estimated := est, estimatedSinceReset := mark, emptyCount := empty } := by
  unfold ChargeCounter.update
  split
  · exact ⟨_, _, _, _, rfl⟩
  · unfold ChargeCounter.charge
    dsimp only
    split
    · exact ⟨_, c.estimated, c.estimatedSinceReset, _, rfl⟩
    · split
      · exact ⟨_, c.estimated, c.estimatedSinceReset, _, rfl⟩
      · exact ⟨_, c.estimated, c.estimatedSinceReset, c.emptyCount, rfl⟩

/-- The synchronisation touches the count with its three marks and its run. -/
theorem ChargeCounter.advanceSync_eq : ∃ count est mark empty run, c.advanceSync = { c with
    count := count, estimated := est, estimatedSinceReset := mark, emptyCount := empty, syncRun := run } := by
  unfold ChargeCounter.advanceSync
  dsimp only
  generalize (if c.params.vFull ≤ c.v ∧ 0 ≤ c.iS ∧ c.iS ≤ c.params.iTail then c.syncRun + 1 else 0) = run
  split
  · exact ⟨_, _, _, _, _, rfl⟩
  · exact ⟨c.count, c.estimated, c.estimatedSinceReset, c.emptyCount, run, rfl⟩

theorem ChargeCounter.results_eq : ∃ soc used l, c.results = { c with soc := soc, socUsed := used, l := l } := by
  unfold ChargeCounter.results
  split
  · exact ⟨c.soc, c.socUsed, c.l, rfl⟩
  · exact ⟨_, _, _, rfl⟩

/-- Step 4 of a sample, on what the charge update has made. -/
def ChargeCounter.qualified (shunt vbat : Int) (tb : Option Int) : ChargeCounter :=
  (c.take shunt vbat tb).update.enterRing.advanceCut.advanceSync

theorem ChargeCounter.sample_eq (shunt vbat : Int) (tb : Option Int) : ∃ soc used l,
    c.sample shunt vbat tb = { c.qualified shunt vbat tb with
      soc := soc, socUsed := used, l := l
      handed := some ⟨soc, l, ({ c.qualified shunt vbat tb with soc := soc, socUsed := used, l := l } : ChargeCounter).flags⟩ } := by
  obtain ⟨soc, used, l, e⟩ := (c.qualified shunt vbat tb).results_eq
  refine ⟨soc, used, l, ?_⟩
  show (c.qualified shunt vbat tb).results.handOn = _
  rw [e]
  rfl

/-- The rest of a sample keeps what its first step has taken, the parameters and what has been sent. -/
theorem ChargeCounter.sample_reads (shunt vbat : Int) (tb : Option Int) :
    (c.sample shunt vbat tb).iS = (c.take shunt vbat tb).iS ∧ (c.sample shunt vbat tb).v = (c.take shunt vbat tb).v ∧
      (c.sample shunt vbat tb).tb = tb ∧ (c.sample shunt vbat tb).shuntRange = (c.take shunt vbat tb).shuntRange ∧
      (c.sample shunt vbat tb).cold = (c.take shunt vbat tb).cold ∧ (c.sample shunt vbat tb).params = c.params ∧
      (c.sample shunt vbat tb).conflict = c.conflict ∧ (c.sample shunt vbat tb).sent = c.sent := by
  obtain ⟨_, _, _, e⟩ := c.sample_eq shunt vbat tb
  rw [e]
  unfold ChargeCounter.qualified
  obtain ⟨_, _, _, _, e1⟩ := (c.take shunt vbat tb).update_eq
  rw [e1]
  obtain ⟨_, _, _, e2⟩ := ChargeCounter.advanceCut_eq (ChargeCounter.enterRing _)
  rw [e2]
  obtain ⟨_, _, _, _, _, e3⟩ := ChargeCounter.advanceSync_eq _
  rw [e3]
  exact ⟨rfl, rfl, rfl, rfl, rfl, rfl, rfl, rfl⟩

/-- Runs short of their ends leave the count of a sample as the charge update has made it. -/
theorem ChargeCounter.qualified_count (shunt vbat : Int) (tb : Option Int)
    (h : ¬ (c.take shunt vbat tb).Full ∨ c.syncRun < 1199) :
    (c.qualified shunt vbat tb).count = (c.take shunt vbat tb).update.count ∧
      (c.qualified shunt vbat tb).emptyCount = (c.take shunt vbat tb).update.emptyCount ∧
      (c.qualified shunt vbat tb).estimated = (c.take shunt vbat tb).update.estimated ∧
      (c.qualified shunt vbat tb).estimatedSinceReset = (c.take shunt vbat tb).update.estimatedSinceReset := by
  have full : (c.take shunt vbat tb).update.enterRing.advanceCut.Full ↔ (c.take shunt vbat tb).Full := by
    obtain ⟨_, _, _, _, e1⟩ := (c.take shunt vbat tb).update_eq
    rw [e1]
    obtain ⟨_, _, _, e2⟩ := ChargeCounter.advanceCut_eq (ChargeCounter.enterRing _)
    rw [e2]
    exact Iff.rfl
  have run : (c.take shunt vbat tb).update.enterRing.advanceCut.syncRun = c.syncRun := by
    obtain ⟨_, _, _, _, e1⟩ := (c.take shunt vbat tb).update_eq
    rw [e1]
    obtain ⟨_, _, _, e2⟩ := ChargeCounter.advanceCut_eq (ChargeCounter.enterRing _)
    rw [e2]
    rfl
  have kept : ∃ n, c.qualified shunt vbat tb = { (c.take shunt vbat tb).update.enterRing.advanceCut with syncRun := n } := by
    by_cases f : (c.take shunt vbat tb).Full
    · exact ⟨_, ChargeCounter.advanceSync_within (full.2 f) (by rw [run]; exact h.resolve_left fun n => n f)⟩
    · exact ⟨_, ChargeCounter.advanceSync_breaks fun g => f (full.1 g)⟩
  obtain ⟨n, e⟩ := kept
  obtain ⟨_, _, _, e2⟩ := ((c.take shunt vbat tb).update.enterRing).advanceCut_eq
  rw [e, e2]
  exact ⟨rfl, rfl, rfl, rfl⟩

/-- The charge update and the ring leave what step 4 rests on. -/
theorem ChargeCounter.entered_reads (shunt vbat : Int) (tb : Option Int) :
    (c.take shunt vbat tb).update.enterRing.cut = c.cut ∧ (c.take shunt vbat tb).update.enterRing.cutRun = c.cutRun ∧
      (c.take shunt vbat tb).update.enterRing.clearRun = c.clearRun ∧
      (c.take shunt vbat tb).update.enterRing.syncRun = c.syncRun ∧
      (c.take shunt vbat tb).update.enterRing.params = c.params ∧
      (c.take shunt vbat tb).update.enterRing.v = (c.take shunt vbat tb).v ∧
      (c.take shunt vbat tb).update.enterRing.iS = (c.take shunt vbat tb).iS := by
  obtain ⟨_, _, _, _, e⟩ := (c.take shunt vbat tb).update_eq
  rw [e]
  exact ⟨rfl, rfl, rfl, rfl, rfl, rfl, rfl⟩

/-- The first sample of a cut run or of a clear run (R13). -/
theorem ChargeCounter.qualified_cut (shunt vbat : Int) (tb : Option Int) :
    (c.cut = false → c.cutRun = 0 → (c.qualified shunt vbat tb).cut = false ∧
      (c.qualified shunt vbat tb).cutRun = if (c.take shunt vbat tb).v < c.params.vCut then 1 else 0) ∧
    (c.cut = true → c.clearRun = 0 → (c.qualified shunt vbat tb).cut = true ∧
      (c.qualified shunt vbat tb).clearRun = if c.params.vCut + 400 ≤ (c.take shunt vbat tb).v then 1 else 0) := by
  obtain ⟨k1, k2, k3, _, k5, k6, _⟩ := c.entered_reads shunt vbat tb
  unfold ChargeCounter.qualified
  generalize (c.take shunt vbat tb).update.enterRing = d at *
  obtain ⟨_, _, _, _, _, e⟩ := d.advanceCut.advanceSync_eq
  rw [e, ← k5, ← k6, ← k1, ← k2, ← k3]
  refine ⟨fun cut z => ?_, fun cut z => ?_⟩
  · by_cases v : d.v < d.params.vCut
    · rw [ChargeCounter.advanceCut_below cut v (by omega), if_pos v, ← z]
      exact ⟨cut, by rw [z]⟩
    · rw [ChargeCounter.advanceCut_holds cut (Nat.not_lt.1 v), if_neg v]
      exact ⟨cut, rfl⟩
  · by_cases v : d.params.vCut + 400 ≤ d.v
    · rw [ChargeCounter.advanceCut_above cut v (by omega), if_pos v]
      exact ⟨cut, by rw [z]⟩
    · rw [ChargeCounter.advanceCut_lasts cut (Nat.not_le.1 v), if_neg v]
      exact ⟨cut, rfl⟩

/-- The first sample of a sync run (R14). -/
theorem ChargeCounter.qualified_sync (shunt vbat : Int) (tb : Option Int) (z : c.syncRun = 0) :
    (c.qualified shunt vbat tb).syncRun =
      if c.params.vFull ≤ (c.take shunt vbat tb).v ∧ 0 ≤ (c.take shunt vbat tb).iS ∧
        (c.take shunt vbat tb).iS ≤ c.params.iTail then 1 else 0 := by
  obtain ⟨_, _, _, k4, k5, k6, k7⟩ := c.entered_reads shunt vbat tb
  unfold ChargeCounter.qualified
  generalize (c.take shunt vbat tb).update.enterRing = d at *
  obtain ⟨_, _, _, e⟩ := d.advanceCut_eq
  rw [← k5, ← k6, ← k7, e]
  have z : d.syncRun = 0 := k4.trans z
  by_cases full : d.Full
  · rw [ChargeCounter.advanceSync_within (by exact full) (by show d.syncRun < 1199; omega),
      if_pos (show d.params.vFull ≤ d.v ∧ 0 ≤ d.iS ∧ d.iS ≤ d.params.iTail from full)]
    show d.syncRun + 1 = 1
    rw [z]
  · rw [ChargeCounter.advanceSync_breaks (by exact full),
      if_neg (show ¬ (d.params.vFull ≤ d.v ∧ 0 ≤ d.iS ∧ d.iS ≤ d.params.iTail) from full)]

/-- A sample that discharges takes its charge at full value, down to 0 (R7). -/
theorem ChargeCounter.charge_falls (n : Count) (x : Nat) (h : c.iS = -(x : Int)) :
    (x ≤ n.q → c.charge n = { c with count := some { n with q := n.q - x } }) ∧
    (n.q < x → c.charge n = { c with count := some { n with q := 0 }, emptyCount := true }) := by
  unfold ChargeCounter.charge
  dsimp only
  rw [if_neg (by omega)]
  refine ⟨fun le => ?_, fun lt => ?_⟩
  · have q : ((n.q : Int) + c.iS).toNat = n.q - x := by omega
    rw [if_neg (by omega), q]
  · exact if_pos (by omega)

end

/-- What a sample hands on and raises (R15, R16, R33). -/
theorem ccTakes_spec (s : State) (shunt vbat : Int) : Frame [.charge, .peers] s (s.ccTakes shunt vbat) ∧
    (s.ccTakes shunt vbat).cc =
      { s.cc.sample shunt vbat (s.temperature .batteryT) with next := some (s.now + 100) } ∧
    ((s.cc.sample shunt vbat (s.temperature .batteryT)).due = true → (s.ccTakes shunt vbat).ts.pending.batteryDue = true) ∧
    ∀ own, s.isBattery = true → s.ownAddr = some own → s.pt.candidates = [] → ∀ v,
      (s.ccTakes shunt vbat).cc.handed = some v → (s.ccTakes shunt vbat).pt = { s.pt with view := some ⟨own, v⟩ } := by
  have c : Composes [.charge, .peers] := by simp [Composes]
  set u : State := { s with
    cc := { s.cc.sample shunt vbat (s.temperature .batteryT) with next := some (s.now + Config.sampleMs) } } with hu
  obtain ⟨b, e⟩ := u.updateView_eq
  have taken : s.ccTakes shunt vbat = if u.updateView.cc.due then u.updateView.raiseBattery else u.updateView := rfl
  have cc : (s.ccTakes shunt vbat).cc = u.cc := by
    rw [taken, e]
    split <;> rfl
  have pt : (s.ccTakes shunt vbat).pt = { s.pt with view := u.chooseView } := by
    rw [taken, e]
    split <;> rfl
  refine ⟨?_, cc, fun due => ?_, fun own b a nil v h => ?_⟩
  · have f : Frame [.charge, .peers] s u.updateView := by
      rw [e]
      exact ((frame_charge s u.cc).widen (by simp)).trans c
        (((frame_peers u { u.pt with view := u.chooseView }).widen (by simp)).trans c
          ((frame_setTrigger { u with pt := { u.pt with view := u.chooseView } } _).widen (by simp)))
    rw [taken]
    split
    · exact f.trans c ((frame_raiseBattery _).widen (by simp))
    · exact f
  · have d : u.updateView.cc.due = true := by rw [e]; exact due
    rw [taken, if_pos d]
    rfl
  · have view := (chooseView_cases u).1 own v b a (by rw [← cc]; exact h) (by rw [show u.pt = s.pt from rfl, nil]; nofun)
    rw [pt, view]

/-- Settles O12: what the first step reads stays; the count is as the charge update makes it, short of the end of a run. -/
theorem chargeCounterSamples : Obligations.ChargeCounterSamples := by
  intro s shunt vbat e active battery h
  set u := s.reach e with hu
  set tb := s.temperature .batteryT with htb
  obtain ⟨f, cc, due, view⟩ := ccTakes_spec u shunt vbat
  have c : Composes [.clock, .charge, .peers] := by simp [Composes]
  have run : exec (.ccSample shunt vbat) s = .next (u.ccTakes shunt vbat).finish :=
    congrArg Host.Outcome.next ((if_pos ⟨active, battery⟩).trans (onExpiry_of h))
  have cc : (u.ccTakes shunt vbat).cc = { s.cc.sample shunt vbat tb with next := some (max s.now e + 100) } := cc
  obtain ⟨r1, r2, r3, r4, r5, r6, r7, r8⟩ := s.cc.sample_reads shunt vbat tb
  obtain ⟨soc, used, l, e1⟩ := s.cc.sample_eq shunt vbat tb
  have iS : (s.cc.sample shunt vbat tb).iS = clampInt (-20000) 20000 (shunt * 20000 / 50000000) := r1
  have v : ((s.cc.sample shunt vbat tb).v : Int) = clampInt 0 20000 vbat := by
    rw [r2]
    show ((clampInt 0 20000 vbat).toNat : Int) = _
    unfold clampInt
    omega
  refine ⟨_, run, ?_, by rw [finish_cc, cc], by rw [finish_cc, cc]; exact iS, by rw [finish_cc, cc]; exact v,
    by rw [finish_cc, cc]; exact r3, ?_, ?_, ?_, fun conflict sent => ?_, fun own a nil => ?_,
    fun n x hn hx pos => ?_, fun est none z lt hest => ?_,
    Changes.after c (by simp) (((frame_reach s e).widen (by simp)).trans c (f.widen (by simp))) (by simp)⟩
  · rw [finish_now, show _ = _ from f .clock (by simp)]; rfl
  · rw [finish_cc, cc]
    refine r4.trans ?_
    show (decide _ || decide _) = _
    rw [← Bool.decide_or]
    rfl
  · rw [finish_cc, cc]
    refine r5.trans ?_
    cases s.temperature .batteryT <;> rfl
  · rw [finish_cc, cc, e1]; rfl
  · have d : (s.cc.sample shunt vbat tb).due = true := by
      rw [finish_cc, cc] at conflict sent
      have conflict : (s.cc.sample shunt vbat tb).conflict = false := conflict
      unfold ChargeCounter.due
      rw [if_neg (by simp [conflict]), r8]
      rcases sent with none | ⟨l, f, was, moved⟩
      · rw [none]
      · rw [was]
        have moved : l + 16 ≤ (s.cc.sample shunt vbat tb).l ∨ (s.cc.sample shunt vbat tb).l + 16 ≤ l ∨
            (s.cc.sample shunt vbat tb).flags ≠ f := moved
        simpa [or_assoc] using moved
    exact ((finish_changes _).1 .causes (by simp)).2.1 (due d)
  · rw [finish_pt, finish_cc]
    refine view own battery a nil _ ?_
    rw [cc, e1]
    rfl
  · rw [finish_cc, cc] at hx ⊢
    have hx : (s.cc.take shunt vbat tb).iS = -(x : Int) := r1.symm.trans hx
    have short : ¬ (s.cc.take shunt vbat tb).Full ∨ s.cc.syncRun < 1199 :=
      pos.imp_left fun p full => by have := full.2.1; omega
    obtain ⟨count, empty, _⟩ := s.cc.qualified_count shunt vbat tb short
    obtain ⟨fits, beyond⟩ := (s.cc.take shunt vbat tb).charge_falls n x hx
    have update : (s.cc.take shunt vbat tb).update = (s.cc.take shunt vbat tb).charge n :=
      ChargeCounter.update_of_count (by exact hn)
    rw [e1]
    show (_ → (s.cc.qualified shunt vbat tb).count = _ ∧ (s.cc.qualified shunt vbat tb).emptyCount = _) ∧
      (_ → (s.cc.qualified shunt vbat tb).count = _ ∧ (s.cc.qualified shunt vbat tb).emptyCount = _)
    rw [count, empty, update]
    exact ⟨fun le => by rw [fits le]; exact ⟨rfl, rfl⟩, fun lt => by rw [beyond lt]; exact ⟨rfl, rfl⟩⟩
  · rw [finish_cc, cc] at hest ⊢
    obtain ⟨count, empty, estimated, mark⟩ := s.cc.qualified_count shunt vbat tb (.inr (by omega))
    obtain ⟨clear, set⟩ := s.cc.qualified_cut shunt vbat tb
    have sync := s.cc.qualified_sync shunt vbat tb z
    have update : (s.cc.take shunt vbat tb).update = (s.cc.take shunt vbat tb).estimate := by
      unfold ChargeCounter.update
      rw [show (s.cc.take shunt vbat tb).count = _ from none]
    have percent : s.cc.params.socEstimate (s.cc.take shunt vbat tb).v = est := by
      unfold CcParams.socEstimate
      rw [← r2, ← hest]
      rfl
    rw [update] at count empty estimated mark
    rw [e1]
    show (s.cc.qualified shunt vbat tb).count = _ ∧ (s.cc.qualified shunt vbat tb).estimated = true ∧
      (s.cc.qualified shunt vbat tb).estimatedSinceReset = true ∧ (s.cc.qualified shunt vbat tb).emptyCount = false ∧
      (s.cc.qualified shunt vbat tb).syncRun =
        (if s.cc.params.vFull ≤ (s.cc.qualified shunt vbat tb).v ∧ 0 ≤ (s.cc.qualified shunt vbat tb).iS ∧
          (s.cc.qualified shunt vbat tb).iS ≤ s.cc.params.iTail then 1 else 0) ∧
      (_ → _ → (s.cc.qualified shunt vbat tb).cut = false ∧ (s.cc.qualified shunt vbat tb).cutRun =
        if (s.cc.qualified shunt vbat tb).v < s.cc.params.vCut then 1 else 0) ∧
      (_ → _ → (s.cc.qualified shunt vbat tb).cut = true ∧ (s.cc.qualified shunt vbat tb).clearRun =
        if s.cc.params.vCut + 400 ≤ (s.cc.qualified shunt vbat tb).v then 1 else 0)
    have k1 : (s.cc.qualified shunt vbat tb).iS = (s.cc.take shunt vbat tb).iS := by rw [← r1, e1]
    have k2 : (s.cc.qualified shunt vbat tb).v = (s.cc.take shunt vbat tb).v := by rw [← r2, e1]
    rw [k1, k2, count, empty, estimated, mark]
    refine ⟨?_, rfl, rfl, rfl, sync, clear, set⟩
    show some (Count.mk (s.cc.params.qFull * s.cc.params.socEstimate (s.cc.take shunt vbat tb).v / 100) 0 s.cc.params.cNom) = _
    rw [percent]
    rfl

end Sys2Proof.Machine
end

section
/-! SUPPORT. A channel through what follows from an event: what stays, and when its output is off. -/

namespace Sys2Proof.Machine

/-! ### Fields of a channel -/

/-- The fields of the core, one by one. -/
theorem Channel.core_eq_iff {c d : Channel} : d.core = c.core ↔
    d.request = c.request ∧ d.endTimer = c.endTimer ∧ d.timedRequest = c.timedRequest ∧ d.target = c.target ∧
      d.current = c.current ∧ d.exempt = c.exempt ∧ d.cycleOn = c.cycleOn ∧ d.cycleStart = c.cycleStart ∧
      d.cycleB = c.cycleB ∧ d.cycleTimer = c.cycleTimer ∧ d.fadeTimer = c.fadeTimer ∧ d.fadeInterval = c.fadeInterval ∧
      d.givenClass = c.givenClass := by
  simp [Channel.core]

theorem Channel.record_eq_iff {c d : Channel} : d.record = c.record ↔
    d.fn = c.fn ∧ d.inst = c.inst ∧ d.cls = c.cls ∧ d.nominal = c.nominal ∧ d.mode = c.mode ∧ d.dimmable = c.dimmable ∧
      d.a = c.a ∧ d.b = c.b ∧ d.gate = c.gate ∧ d.fade = c.fade := by
  simp [Channel.record]

theorem Channel.heater_eq_false {c : Channel} (h1 : c.fn ≠ .burner) (h2 : c.fn ≠ .burnerFan) : c.heater = false := by
  simp [Channel.heater, h1, h2]

/-! ### Outputs that are off -/

section
variable {e : ChEnv} {c : Channel}

theorem Channel.dark_of_mode (h : c.evaluate e = c) (m : c.modeHolds e = false) : c.duty = 0 := by
  by_contra n
  have d := Channel.duty_of_refresh (Channel.settled_of_evaluate h).2 n
  unfold Channel.dutyOf at d
  rw [if_neg (by simp [m])] at d
  exact d rfl

theorem Channel.dark_of_state (h : c.evaluate e = c) (n : c.state ≠ .on) : c.duty = 0 := by
  by_contra d
  exact n (Channel.state_of_dutyOf (Channel.duty_of_refresh (Channel.settled_of_evaluate h).2 d))

theorem Channel.modeHolds_unrequested (r : c.request = false) : c.modeHolds e = false := by
  unfold Channel.modeHolds
  cases c.mode <;> simp [r]

/-- In TIMED mode, and in LEVEL mode under a request that had an end timer, the mode condition is the timer's (R64). -/
theorem Channel.modeHolds_untimed (t : c.endTimer = none) (m : c.mode = .timed ∨ (c.mode = .level ∧ c.timedRequest = true)) :
    c.modeHolds e = false := by
  unfold Channel.modeHolds
  rcases m with m | ⟨m, r⟩
  · simp [m, t]
  · simp [m, t, r]

end

/-- The state of a channel whose request has ended: TRIPPED and FAULT last. -/
def ChState.ended : ChState → ChState
  | .tripped => .tripped
  | .fault => .fault
  | .off | .on | .held => .off

/-- A channel without a request is off, with its state as it ended. -/
theorem Channel.ended_of_evaluate {e : ChEnv} {p : Prop} {c d : Channel} (h : d.evaluate e = d) (k : c.Kept p d)
    (r : d.request = false) : d.state = c.state.ended ∧ d.duty = 0 := by
  obtain ⟨_, _, _, _, fault, tripped, _⟩ := k
  refine ⟨?_, Channel.dark_of_mode h (Channel.modeHolds_unrequested r)⟩
  have off : c.state ≠ .tripped → c.state ≠ .fault → d.state = .off := fun n1 n2 => by
    rcases Channel.state_of_evaluate h with s | s | ⟨-, s⟩ | ⟨s, -⟩
    · exact absurd (tripped.1 s) n1
    · exact absurd (fault.1 s) n2
    · exact s
    · rw [r] at s; cases s
  cases s : c.state
  case tripped => exact tripped.2 s
  case fault => exact fault.2 s
  all_goals exact off (by simp [s]) (by simp [s])

/-! ### Channels after an event -/

theorem finish_channel (s : State) (i : Fin 8) : s.sw[i].Kept (s.ht.burner = .firing) s.finish.sw[i] :=
  ((finish_changes s).1 .channels (by simp)).2.2 i

/-- A channel that is no heater, or in a node whose burner does not fire, keeps its core. -/
theorem finish_core {s : State} {i : Fin 8} (h : s.sw[i].heater = true → s.ht.burner ≠ .firing) :
    s.finish.sw[i].core = s.sw[i].core := by
  refine (finish_channel s i).2.1 ?_
  cases k : s.sw[i].heater
  · exact .inl rfl
  · exact .inr (h k)

/-- Where the blocks do not run, the channels stand. -/
def IdleChannels (v : Vector Channel 8) (s : State) : Prop := s.life.active = false → s.sw = v

theorem idleChannels_finishKeeps (v : Vector Channel 8) : FinishKeeps (IdleChannels v) where
  drive s i d _ h := by cases i <;> exact h
  wakes s _ _ := fun n => by rw [State.changeLife_life] at n; cases n
  settings s h := by
    unfold State.takeSettings
    split
    · split
      · split
        · exact h
        · exact h
      · exact h
    · exact h
  locks s hl _ := fun n => by rw [show s.syncLocks.life = s.life from rfl, hl] at n; cases n
  channels s hl _ := fun n => by rw [show s.evaluateChannels.life = s.life from rfl, hl] at n; cases n
  heating s hl _ := fun n => by rw [(units_heatingReacts s).life, hl] at n; cases n
  flags s h := by
    unfold State.syncFlags
    split
    · exact h
    · exact h

theorem finish_sw_inactive {s : State} (h : s.life.active = false) : s.finish.sw = s.sw :=
  (idleChannels_finishKeeps s.sw).finish (fun _ => rfl) (finish_inactive h)

/-- A channel that is turned off and not ON afterwards stays dark. -/
theorem finish_dark {s : State} {i : Fin 8} (d : s.sw[i].duty = 0) (n : s.sw[i].state = .tripped ∨ s.sw[i].state = .fault) :
    s.finish.sw[i].duty = 0 := by
  cases a : s.life.active with
  | false => rw [finish_sw_inactive a]; exact d
  | true =>
    obtain ⟨_, _, _, _, fault, tripped, _⟩ := finish_channel s i
    refine Channel.dark_of_state (finish_outputs s a i) ?_
    rcases n with n | n
    · rw [tripped.2 n]; nofun
    · rw [fault.2 n]; nofun

/-! ### One channel changed -/

theorem frame_onChannel (s : State) (ch : Fin 8) (f : Channel → Channel) (r : (f s.sw[ch]).record = s.sw[ch].record) :
    Frame [.channels] s (s.onChannel ch f) := by
  intro b n
  cases b <;> simp at n
  case channelRecords =>
    intro i
    by_cases e : i = ch
    · rw [e, State.onChannel_get]; exact r
    · rw [State.onChannel_get_ne s e]
  all_goals simp [Same, Drive.Stands.refl, State.life, State.answers, State.drive, State.onChannel]

/-- The channels that an event leaves before its end. -/
theorem otherChannels_finish {s u : State} {ch : Fin 8} (h : ∀ i, i ≠ ch → u.sw[i] = s.sw[i])
    (f : u.ht.burner = .firing → s.ht.burner = .firing) : OtherChannels ch s u.finish := fun i n => by
  have k := finish_channel u i
  rw [h i n] at k
  exact (Channel.Kept.refl (s.ht.burner = .firing) _).trans f k

theorem State.anyChannel_iff {s : State} {p : Channel → Bool} : s.anyChannel p = true ↔ ∃ i : Fin 8, p s.sw[i] = true := by
  unfold State.anyChannel
  simp [Fin.exists_fin_succ, or_assoc]

end Sys2Proof.Machine
end

section
/-! PROOFS. O25 to O27 and O29: end timers, CYCLE and fade, trips and scenes. -/

namespace Sys2Proof.Machine

/-! ### Fades -/

section
variable {c : Channel} {now iv : Nat}

/-- A fade that runs toward 0 already runs on; only the end timer, or in TRIPPED the request, ends (R78, R70; log entry 34). -/
theorem Channel.fadeOut_runs (h : c.target = 0 ∧ c.fadeTimer.isSome) :
    c.fadeOut now iv = if c.state = .tripped then c.requestOff else { c with endTimer := none } := by
  unfold Channel.fadeOut
  split
  · exact if_pos ⟨h.1.symm, h.2⟩
  · exact if_pos ⟨h.1.symm, h.2⟩

/-- At level 0, or without a fade interval, the request ends at once (R78, R80). -/
theorem Channel.fadeOut_ends (h : c.target ≠ 0 ∨ c.fadeTimer = none) (z : c.current = 0 ∨ iv = 0) :
    c.fadeOut now iv = { c.requestOff with target := 0, current := 0, fadeTimer := none, fadeInterval := iv } := by
  have n : ∀ d : Channel, d.target = c.target → d.fadeTimer = c.fadeTimer → ¬ (0 = d.target ∧ d.fadeTimer.isSome) := by
    intro d h1 h2 ⟨h3, h4⟩
    rcases h with h | h
    · exact h (by rw [← h1, h3])
    · rw [h2, h] at h4; cases h4
  have ends : ∀ d : Channel, d.requestOff = c.requestOff → d.target = c.target → d.fadeTimer = c.fadeTimer → d.current = c.current →
      d.setTarget now iv 0 = { c.requestOff with target := 0, current := 0, fadeTimer := none, fadeInterval := iv } := by
    intro d h1 h2 h3 h4
    have out : ∀ k : Nat, ({ d with target := 0, current := k, fadeTimer := none, fadeInterval := iv } : Channel).requestOff =
        { c.requestOff with target := 0, current := k, fadeTimer := none, fadeInterval := iv } := fun k => by
      rw [← h1]; rfl
    unfold Channel.setTarget
    rw [if_neg (n d h2 h3)]
    by_cases z' : c.current = 0
    · rw [if_pos (h4.trans z').symm]
      refine (if_pos ⟨rfl, h4.trans z'⟩).trans ?_
      rw [show ({ d with target := 0, fadeTimer := none, fadeInterval := iv } : Channel) =
        { d with target := 0, current := 0, fadeTimer := none, fadeInterval := iv } from by rw [← h4.trans z']]
      exact out 0
    · rw [if_neg (fun e => z' (h4.symm.trans e.symm)), if_pos (z.resolve_left z')]
      exact (if_pos ⟨rfl, rfl⟩).trans (out 0)
  unfold Channel.fadeOut
  split
  next t => exact ends _ (by simp [Channel.requestOff, Channel.stopCycle, t]) rfl rfl rfl
  · exact ends _ rfl rfl rfl rfl

/-- Above level 0 a fade starts (R78, R79). -/
theorem Channel.fadeOut_fades (h : c.target ≠ 0 ∨ c.fadeTimer = none) (l : c.current ≠ 0) (i : iv ≠ 0) :
    c.fadeOut now iv = { (if c.state = .tripped then c.requestOff else { c with endTimer := none }) with
      target := 0, fadeTimer := some (now + iv), fadeInterval := iv } := by
  have fades : ∀ d : Channel, d.target = c.target → d.fadeTimer = c.fadeTimer → d.current = c.current →
      d.setTarget now iv 0 = { d with target := 0, fadeTimer := some (now + iv), fadeInterval := iv } := by
    intro d h1 h2 h3
    unfold Channel.setTarget
    rw [if_neg, if_neg (fun e => l (h3.symm.trans e.symm)), if_neg i]
    rintro ⟨h4, h5⟩
    rcases h with h | h
    · exact h (by rw [← h1, h4])
    · rw [h2, h] at h5; cases h5
  unfold Channel.fadeOut
  split
  · exact fades _ rfl rfl rfl
  · exact fades _ rfl rfl rfl

/-- A fade to 0 leaves no end timer, and no request in TRIPPED. -/
theorem Channel.fadeOut_marks : (c.fadeOut now iv).endTimer = none ∧
    (c.state = .tripped → (c.fadeOut now iv).request = false) ∧ (c.fadeOut now iv).state.ended = c.state.ended ∧
    ((c.fadeOut now iv).request = true → (c.fadeOut now iv).timedRequest = c.timedRequest) := by
  have base : (if c.state = .tripped then c.requestOff else { c with endTimer := none }).endTimer = none ∧
      (c.state = .tripped → (if c.state = .tripped then c.requestOff else { c with endTimer := none }).request = false) ∧
      (if c.state = .tripped then c.requestOff else { c with endTimer := none }).state.ended = c.state.ended ∧
      ((if c.state = .tripped then c.requestOff else { c with endTimer := none }).request = true →
        (if c.state = .tripped then c.requestOff else { c with endTimer := none }).timedRequest = c.timedRequest) := by
    split
    next t => exact ⟨rfl, fun _ => rfl, by simp [Channel.requestOff, t], nofun⟩
    next t => exact ⟨rfl, fun e => absurd e t, rfl, fun _ => rfl⟩
  have off : c.requestOff.state.ended = c.state.ended := by
    unfold Channel.requestOff
    cases c.state <;> rfl
  by_cases h : c.target = 0 ∧ c.fadeTimer.isSome
  · rw [Channel.fadeOut_runs h]
    exact base
  · have h : c.target ≠ 0 ∨ c.fadeTimer = none := by
      rcases not_and_or.1 h with h | h
      · exact .inl h
      · exact .inr (by simpa using h)
    by_cases z : c.current = 0 ∨ iv = 0
    · rw [Channel.fadeOut_ends h z]
      exact ⟨rfl, fun _ => rfl, off, nofun⟩
    · rw [Channel.fadeOut_fades h (fun e => z (.inl e)) (fun e => z (.inr e))]
      exact base

end

/-! ### Timers of a channel -/

/-- An event that changes one channel, at the end of a timer. -/
theorem channel_event {s u : State} {ch : Fin 8} {e : Nat} {f : Channel → Channel} (hu : u = (s.reach e).onChannel ch f)
    (r : (f s.sw[ch]).record = s.sw[ch].record) :
    u.finish.now = max s.now e ∧ u.sw[ch] = f s.sw[ch] ∧ OtherChannels ch s u.finish ∧
      Changes [.clock, .channels] s u.finish := by
  subst hu
  have c : Composes [.clock, .channels] := by simp [Composes]
  refine ⟨by rw [finish_now]; rfl, State.onChannel_get _ _ _,
    otherChannels_finish (fun i n => State.onChannel_get_ne _ n _) id,
    Changes.after c (by simp) (((frame_reach s e).widen (by simp)).trans c
      ((frame_onChannel (s.reach e) ch f r).widen (by simp))) (by simp)⟩

theorem Channel.nextPhase_on {c : Channel} (now : Nat) (h : c.cycleOn = true) :
    c.nextPhase now = { c with cycleOn := false, cycleTimer := some (c.cycleStart + c.cycleB * 1000) } := if_pos h

theorem Channel.nextPhase_off {c : Channel} (now : Nat) (h : c.cycleOn = false) : c.nextPhase now = c.startPeriod now :=
  if_neg (by simp [h])

/-- A fade step moves the level by one; at the target the fade ends, and at a target of 0 the request with it (R79, R80). -/
theorem Channel.stepFade_spec (c : Channel) (now level : Nat)
    (h : level = if c.current < c.target then c.current + 1 else c.current - 1) :
    (c.stepFade now).current = level ∧ (c.stepFade now).target = c.target ∧
      (level ≠ c.target → (c.stepFade now).fadeTimer = some (now + c.fadeInterval) ∧ (c.stepFade now).request = c.request) ∧
      (level = c.target → (c.stepFade now).fadeTimer = none ∧
        (c.stepFade now).request = if c.target = 0 then false else c.request) := by
  have step : c.stepFade now = if level = c.target then { c with current := level, fadeTimer := none }.endFade
      else { c with current := level, fadeTimer := some (now + c.fadeInterval) } := by rw [h]; rfl
  rw [step]
  by_cases e : level = c.target
  · rw [if_pos e]
    unfold Channel.endFade
    by_cases z : c.target = 0
    · rw [if_pos ⟨z, e.trans z⟩]
      exact ⟨rfl, rfl, fun n => absurd e n, fun _ => ⟨rfl, (if_pos z).symm⟩⟩
    · rw [if_neg fun k => z k.1]
      exact ⟨rfl, rfl, fun n => absurd e n, fun _ => ⟨rfl, (if_neg z).symm⟩⟩
  · rw [if_neg e]
    exact ⟨rfl, rfl, fun _ => ⟨rfl, rfl⟩, fun k => absurd k e⟩

/-- Settles O26: one channel advances, and its core is kept by what follows. -/
theorem channelTimersAdvance : Obligations.ChannelTimersAdvance := by
  intro s ch e heater
  refine ⟨fun h => ?cycle, fun h => ?fade⟩
  case cycle =>
    obtain ⟨now, get, others, frame⟩ := channel_event (s := s) (ch := ch) (e := e) (f := Channel.nextPhase (max s.now e)) rfl
      (Channel.record_of_body (Channel.nextPhase_body _ _))
    have core := finish_core (s := (s.reach e).onChannel ch (Channel.nextPhase (max s.now e))) (i := ch) fun k =>
      heater (by rwa [get, Channel.heater_of_record (Channel.record_of_body (Channel.nextPhase_body _ _))] at k)
    rw [get] at core
    obtain ⟨request, _, _, _, _, _, on, start, b, timer, _⟩ := Channel.core_eq_iff.1 core
    refine ⟨_, congrArg Host.Outcome.next (onExpiry_of h), now, fun o => ?_, fun o => ?_, ?_, others, frame⟩
    · rw [Channel.nextPhase_on _ o] at on timer
      exact ⟨on, timer⟩
    · rw [Channel.nextPhase_off _ o] at on start b timer
      exact ⟨on, start, b, timer⟩
    · refine request.trans ?_
      cases o : s.sw[ch].cycleOn
      · rw [Channel.nextPhase_off _ o]; rfl
      · rw [Channel.nextPhase_on _ o]
  case fade =>
    obtain ⟨now, get, others, frame⟩ := channel_event (s := s) (ch := ch) (e := e) (f := Channel.stepFade (max s.now e)) rfl
      (Channel.record_of_body (Channel.stepFade_body _ _))
    have core := finish_core (s := (s.reach e).onChannel ch (Channel.stepFade (max s.now e))) (i := ch) fun k =>
      heater (by rwa [get, Channel.heater_of_record (Channel.record_of_body (Channel.stepFade_body _ _))] at k)
    rw [get] at core
    obtain ⟨request, _, _, target, current, _, _, _, _, _, timer, _⟩ := Channel.core_eq_iff.1 core
    obtain ⟨k1, k2, k3, k4⟩ := s.sw[ch].stepFade_spec (max s.now e) _ rfl
    refine ⟨_, _, congrArg Host.Outcome.next (onExpiry_of h), now, rfl, current.trans k1, target.trans k2, fun n => ?_,
      fun l => ?_, others, frame⟩
    · exact ⟨timer.trans (k3 n).1, request.trans (k3 n).2⟩
    · exact ⟨timer.trans (k4 l).1, request.trans (k4 l).2⟩

end Sys2Proof.Machine
end

section
/-! PROOFS. O25: the end of a request by its end timer. -/

namespace Sys2Proof.Machine

/-- An end of request leaves no end timer; a channel that is not dimmable has none of the request left either. -/
theorem Channel.endRequest_spec (c : Channel) (now : Nat) : (c.endRequest now).record = c.record ∧
    (c.endRequest now).endTimer = none ∧ (c.endRequest now).state.ended = c.state.ended ∧
    (c.dimmable = false → (c.endRequest now).request = false ∧ (c.endRequest now).cycleTimer = none) := by
  refine ⟨Channel.record_of_body (Channel.endRequest_body _ _), ?_⟩
  unfold Channel.endRequest
  split
  next d =>
    obtain ⟨h1, _, h3, _⟩ := Channel.fadeOut_marks (c := c) (now := now) (iv := c.fade)
    exact ⟨h1, h3, fun n => by rw [n] at d; cases d⟩
  · refine ⟨rfl, ?_, fun _ => ⟨rfl, rfl⟩⟩
    unfold Channel.requestOff
    cases c.state <;> rfl

/-- The owner's part at the end of a request: the valve run, or the run-on, ends with it (R122, R136). -/
def State.ownerEnds (ch : Fin 8) (fn : ChFn) (s : State) : State :=
  match fn with
  | .dumpValve => s.endValveRun ch
  | .burnerFan => s.stopRunOn
  | .none | .light | .aux | .pump | .tankHeat | .burner => s

theorem frame_valveRuns (s : State) : Frame [.water] s s.valveRuns := frame_onWater s _

theorem State.endValveRun_sw (s : State) (ch : Fin 8) :
    (s.endValveRun ch).sw = (s.onChannel ch fun c => { c with exempt := false }).sw := rfl

theorem State.endRunOn_get (s : State) (i : Fin 8) : s.endRunOn.sw[i] =
    if s.sw[i].fn = .burnerFan then { s.sw[i].requestOff with exempt := false, givenClass := none } else s.sw[i] :=
  State.onFunction_get s .burnerFan _ i

theorem frame_endValveRun (s : State) (ch : Fin 8) : Frame [.water, .heating, .channels] s (s.endValveRun ch) := by
  have c : Composes [.water, .heating, .channels] := by simp [Composes]
  exact ((frame_onChannel s ch (fun c => { c with exempt := false }) rfl).widen (by simp)).trans c
    ((frame_valveRuns _).widen (by simp))

theorem frame_endRunOn (s : State) : Frame [.water, .heating, .channels] s s.endRunOn := by
  intro b n
  cases b <;> simp at n
  case channelRecords =>
    intro i
    show (mapChannels _ s.sw)[i].record = _
    rw [mapChannels_get]
    dsimp only
    split <;> rfl
  all_goals simp [Same, Drive.Stands.refl, State.life, State.answers, State.drive, State.endRunOn, State.onFunction,
    State.onHeating, State.onChannels]

theorem frame_stopRunOn (s : State) : Frame [.water, .heating, .channels] s s.stopRunOn := by
  unfold State.stopRunOn
  split
  · exact frame_endRunOn s
  · exact Frame.refl _ _

theorem frame_ownerEnds (s : State) (ch : Fin 8) (fn : ChFn) : Frame [.water, .heating, .channels] s (s.ownerEnds ch fn) := by
  cases fn
  case dumpValve => exact frame_endValveRun s ch
  case burnerFan => exact frame_stopRunOn s
  all_goals exact Frame.refl _ _

theorem State.stopRunOn_get (s : State) (i : Fin 8) : s.stopRunOn.sw[i] = s.sw[i] ∨
    s.stopRunOn.sw[i] = { s.sw[i].requestOff with exempt := false, givenClass := none } := by
  unfold State.stopRunOn
  split
  · rw [State.endRunOn_get]
    split
    · exact .inr rfl
    · exact .inl rfl
  · exact .inl rfl

theorem State.stopRunOn_burner (s : State) : s.stopRunOn.ht.burner = .firing → s.ht.burner = .firing := by
  unfold State.stopRunOn
  split
  · exact nofun
  · exact id

theorem State.ownerEnds_burner (s : State) (ch : Fin 8) (fn : ChFn) :
    (s.ownerEnds ch fn).ht.burner = .firing → s.ht.burner = .firing := by
  cases fn
  case burnerFan => exact s.stopRunOn_burner
  all_goals exact id

/-- The channel whose request has ended, but for `exempt`, `request` and the given class of a fan. -/
theorem ownerEnds_get (s : State) (ch : Fin 8) (fn : ChFn) :
    (fn ≠ .burnerFan → ∃ x, (s.ownerEnds ch fn).sw[ch] = { s.sw[ch] with exempt := x }) ∧
    (s.ownerEnds ch fn).sw[ch].record = s.sw[ch].record ∧
    (s.ownerEnds ch fn).sw[ch].state.ended = s.sw[ch].state.ended ∧
    (s.sw[ch].endTimer = none → (s.ownerEnds ch fn).sw[ch].endTimer = none) ∧
    (s.sw[ch].request = false → (s.ownerEnds ch fn).sw[ch].request = false) ∧
    (s.sw[ch].cycleTimer = none → (s.ownerEnds ch fn).sw[ch].cycleTimer = none) := by
  have same : (fn ≠ .burnerFan → ∃ x, (s.ownerEnds ch fn).sw[ch] = { s.sw[ch] with exempt := x }) := by
    cases fn
    case dumpValve => 
      refine fun _ => ⟨false, ?_⟩
      rw [show (s.ownerEnds ch .dumpValve).sw = _ from s.endValveRun_sw ch]
      exact State.onChannel_get s ch _
    case burnerFan => exact fun n => absurd rfl n
    all_goals exact fun _ => ⟨_, rfl⟩
  refine ⟨same, ?_⟩
  by_cases f : fn = .burnerFan
  · subst f
    show s.stopRunOn.sw[ch].record = _ ∧ s.stopRunOn.sw[ch].state.ended = _ ∧ (_ → s.stopRunOn.sw[ch].endTimer = _) ∧
      (_ → s.stopRunOn.sw[ch].request = _) ∧ (_ → s.stopRunOn.sw[ch].cycleTimer = _)
    rcases s.stopRunOn_get ch with k | k
    · rw [k]; exact ⟨rfl, rfl, id, id, id⟩
    · rw [k]
      refine ⟨rfl, ?_, fun _ => rfl, fun _ => rfl, fun _ => rfl⟩
      unfold Channel.requestOff
      cases s.sw[ch].state <;> rfl
  · obtain ⟨x, e⟩ := same f
    rw [e]
    exact ⟨rfl, rfl, id, id, id⟩

theorem ownerEnds_get_ne {s : State} {ch : Fin 8} {fn : ChFn} (n : fn ≠ .burnerFan) {i : Fin 8} (h : i ≠ ch) :
    (s.ownerEnds ch fn).sw[i] = s.sw[i] ∧ (s.ownerEnds ch fn).ht = s.ht := by
  cases fn
  case dumpValve =>
    refine ⟨?_, rfl⟩
    rw [show (s.ownerEnds ch .dumpValve).sw = _ from s.endValveRun_sw ch]
    exact State.onChannel_get_ne s h _
  case burnerFan => exact absurd rfl n
  all_goals exact ⟨rfl, rfl⟩

theorem ChState.ended_eq_tripped {x : ChState} : x.ended = .tripped ↔ x = .tripped := by
  cases x <;> simp [ChState.ended]

/-- An exempt valve stays one through what follows from an event. -/
theorem finish_exemptValves (s : State) : (s.finish.anyChannel fun c => c.fn = .dumpValve && c.exempt) =
    s.anyChannel fun c => c.fn = .dumpValve && c.exempt := by
  refine anyChannel_congr fun i => ?_
  have kept := finish_channel s i
  rw [(Channel.record_eq_iff.1 kept.1).1]
  by_cases f : s.sw[i].fn = .dumpValve
  · have core := kept.2.1 (.inl (Channel.heater_eq_false (by rw [f]; nofun) (by rw [f]; nofun)))
    obtain ⟨_, _, _, _, _, exempt, _⟩ := Channel.core_eq_iff.1 core
    rw [exempt]
  · rw [decide_eq_false f]
    rfl

theorem finish_valveRun (s : State) : s.finish.wf.valveRun = s.wf.valveRun := by
  rw [show s.finish.wf = _ from (finish_changes s).1 .water (by simp)]

/-! ### CHANNEL_END_TIMER_EXPIRY -/

/-- The request of the channel has ended, at the instant of its timer. -/
def State.requestEnds (ch : Fin 8) (e : Nat) (s : State) : State :=
  (s.reach e).onChannel ch (Channel.endRequest (max s.now e))

/-- And what that means to the unit that owns the channel. -/
def State.endTimerEnds (ch : Fin 8) (e : Nat) (s : State) : State := (s.requestEnds ch e).ownerEnds ch s.sw[ch].fn

section
variable {s : State} {ch : Fin 8} {e : Nat}

theorem requestEnds_get : (s.requestEnds ch e).sw[ch] = s.sw[ch].endRequest (max s.now e) := State.onChannel_get _ _ _

theorem frame_requestEnds : Frame [.clock, .channels] s (s.requestEnds ch e) :=
  ((frame_reach s e).widen (by simp)).trans (by simp [Composes])
    ((frame_onChannel (s.reach e) ch (Channel.endRequest (max s.now e)) (s.sw[ch].endRequest_spec (max s.now e)).1).widen
      (by simp))

theorem frame_endTimerEnds : Frame [.clock, .water, .heating, .channels] s (s.endTimerEnds ch e) :=
  (frame_requestEnds.widen (by simp)).trans (by simp [Composes]) ((frame_ownerEnds (s.requestEnds ch e) ch _).widen (by simp))

theorem endTimerEnds_now : (s.endTimerEnds ch e).finish.now = max s.now e := by
  rw [finish_now]
  exact frame_ownerEnds (s.requestEnds ch e) ch s.sw[ch].fn .clock (by simp)

theorem endTimerEnds_burner : (s.endTimerEnds ch e).ht.burner = .firing → s.ht.burner = .firing :=
  (s.requestEnds ch e).ownerEnds_burner ch s.sw[ch].fn

theorem endTimerEnds_exempt (n : s.sw[ch].fn ≠ .burnerFan) : ∃ x, (s.endTimerEnds ch e).sw[ch] =
    { s.sw[ch].endRequest (max s.now e) with exempt := x } := by
  obtain ⟨exempt, -⟩ := ownerEnds_get (s.requestEnds ch e) ch s.sw[ch].fn
  rw [requestEnds_get] at exempt
  exact exempt n

/-- The channel as the ends of request and owner's part leave it. -/
theorem endTimerEnds_spec : (s.endTimerEnds ch e).sw[ch].record = s.sw[ch].record ∧
    (s.endTimerEnds ch e).sw[ch].state.ended = s.sw[ch].state.ended ∧ (s.endTimerEnds ch e).sw[ch].endTimer = none ∧
    (s.sw[ch].dimmable = false →
      (s.endTimerEnds ch e).sw[ch].request = false ∧ (s.endTimerEnds ch e).sw[ch].cycleTimer = none) := by
  obtain ⟨record, timer, ended, off⟩ := s.sw[ch].endRequest_spec (max s.now e)
  obtain ⟨-, urecord, uended, utimer, urequest, ucycle⟩ := ownerEnds_get (s.requestEnds ch e) ch s.sw[ch].fn
  rw [requestEnds_get] at urecord uended utimer urequest ucycle
  exact ⟨urecord.trans record, uended.trans ended, utimer timer, fun d => ⟨urequest (off d).1, ucycle (off d).2⟩⟩

/-- What follows keeps the core of the channel. -/
theorem endTimerEnds_core (heater : s.sw[ch].heater = true → s.ht.burner ≠ .firing) :
    (s.endTimerEnds ch e).finish.sw[ch].core = (s.endTimerEnds ch e).sw[ch].core :=
  finish_core fun k f => heater (by rwa [Channel.heater_of_record endTimerEnds_spec.1] at k) (endTimerEnds_burner f)

theorem endTimerEnds_current (active : s.life.active = true) :
    (s.endTimerEnds ch e).finish.sw[ch].evaluate (s.endTimerEnds ch e).finish.chEnv = (s.endTimerEnds ch e).finish.sw[ch] :=
  finish_outputs (s.endTimerEnds ch e) (active_of_frame frame_endTimerEnds (by simp) active) ch

/-- Without a request the channel is OFF, or as TRIPPED and FAULT last. -/
theorem endTimerEnds_rests (active : s.life.active = true) (r : (s.endTimerEnds ch e).finish.sw[ch].request = false) :
    (s.endTimerEnds ch e).finish.sw[ch].state = s.sw[ch].state.ended ∧ (s.endTimerEnds ch e).finish.sw[ch].duty = 0 := by
  obtain ⟨state, duty⟩ := Channel.ended_of_evaluate (endTimerEnds_current active) (finish_channel (s.endTimerEnds ch e) ch) r
  exact ⟨state.trans endTimerEnds_spec.2.1, duty⟩

theorem endTimer_plain (active : s.life.active = true) (heater : s.sw[ch].heater = true → s.ht.burner ≠ .firing)
    (d : s.sw[ch].dimmable = false) :
    (s.endTimerEnds ch e).finish.sw[ch].request = false ∧ (s.endTimerEnds ch e).finish.sw[ch].cycleTimer = none ∧
      (s.endTimerEnds ch e).finish.sw[ch].state = s.sw[ch].state.ended ∧ (s.endTimerEnds ch e).finish.sw[ch].duty = 0 := by
  obtain ⟨request, -, -, -, -, -, -, -, -, cycle, -⟩ := Channel.core_eq_iff.1 (endTimerEnds_core (e := e) heater)
  obtain ⟨-, -, -, off⟩ := endTimerEnds_spec (s := s) (ch := ch) (e := e)
  obtain ⟨r, c⟩ := off d
  exact ⟨request.trans r, cycle.trans c, endTimerEnds_rests active (request.trans r)⟩

/-- A dimmable channel takes the target 0 at its own fade interval. -/
theorem endTimer_fades (d : s.sw[ch].dimmable = true) (n : s.sw[ch].fn ≠ .burnerFan) : ∃ x,
    (s.endTimerEnds ch e).sw[ch] = { s.sw[ch].fadeOut (max s.now e) s.sw[ch].fade with exempt := x } := by
  obtain ⟨x, h⟩ := endTimerEnds_exempt (s := s) (ch := ch) (e := e) n
  have fades : s.sw[ch].endRequest (max s.now e) = s.sw[ch].fadeOut (max s.now e) s.sw[ch].fade := if_pos d
  rw [fades] at h
  exact ⟨x, h⟩

section
variable (heater : s.sw[ch].heater = true → s.ht.burner ≠ .firing) (d : s.sw[ch].dimmable = true)
  (n : s.sw[ch].fn ≠ .burnerFan)
include heater d n

theorem endTimer_dark (active : s.life.active = true)
    (m : s.sw[ch].mode = .timed ∨ (s.sw[ch].mode = .level ∧ s.sw[ch].timedRequest = true)) :
    (s.endTimerEnds ch e).finish.sw[ch].duty = 0 := by
  obtain ⟨x, fades⟩ := endTimer_fades (e := e) d n
  obtain ⟨request, timer, timed, -⟩ := Channel.core_eq_iff.1 (endTimerEnds_core (e := e) heater)
  have mode : (s.endTimerEnds ch e).finish.sw[ch].mode = s.sw[ch].mode := by
    obtain ⟨-, -, -, -, mode, -⟩ :=
      Channel.record_eq_iff.1 ((finish_channel (s.endTimerEnds ch e) ch).1.trans endTimerEnds_spec.1)
    exact mode
  obtain ⟨-, -, -, last⟩ := Channel.fadeOut_marks (c := s.sw[ch]) (now := max s.now e) (iv := s.sw[ch].fade)
  refine Channel.dark_of_mode (endTimerEnds_current active) ?_
  by_cases r : (s.endTimerEnds ch e).finish.sw[ch].request = true
  · refine Channel.modeHolds_untimed (timer.trans endTimerEnds_spec.2.2.1) ?_
    rw [fades] at request timed
    rw [mode, timed.trans (last (request.symm.trans r))]
    exact m
  · exact Channel.modeHolds_unrequested (Bool.eq_false_iff.2 r)

theorem endTimer_tripped (st : s.sw[ch].state = .tripped) : (s.endTimerEnds ch e).finish.sw[ch].state = .tripped ∧
    (s.endTimerEnds ch e).finish.sw[ch].request = false := by
  obtain ⟨x, fades⟩ := endTimer_fades (e := e) d n
  obtain ⟨request, -⟩ := Channel.core_eq_iff.1 (endTimerEnds_core (e := e) heater)
  obtain ⟨-, off, -⟩ := Channel.fadeOut_marks (c := s.sw[ch]) (now := max s.now e) (iv := s.sw[ch].fade)
  obtain ⟨-, -, -, -, -, tripped, -⟩ := finish_channel (s.endTimerEnds ch e) ch
  rw [fades] at request
  refine ⟨tripped.2 (ChState.ended_eq_tripped.1 ?_), request.trans (off st)⟩
  rw [endTimerEnds_spec.2.1, st]
  rfl

theorem endTimer_ends (active : s.life.active = true) (fz : s.sw[ch].fadeTimer = none)
    (z : s.sw[ch].current = 0 ∨ s.sw[ch].fade = 0) :
    (s.endTimerEnds ch e).finish.sw[ch].request = false ∧ (s.endTimerEnds ch e).finish.sw[ch].current = 0 ∧
      (s.endTimerEnds ch e).finish.sw[ch].state = s.sw[ch].state.ended ∧ (s.endTimerEnds ch e).finish.sw[ch].duty = 0 := by
  obtain ⟨x, fades⟩ := endTimer_fades (e := e) d n
  obtain ⟨request, -, -, -, current, -⟩ := Channel.core_eq_iff.1 (endTimerEnds_core (e := e) heater)
  rw [Channel.fadeOut_ends (.inr fz) z] at fades
  rw [fades] at request current
  exact ⟨request, current, endTimerEnds_rests active request⟩

theorem endTimer_runs (l : 0 < s.sw[ch].current) (iv : 0 < s.sw[ch].fade) (fz : s.sw[ch].fadeTimer = none) :
    (s.endTimerEnds ch e).finish.sw[ch].fadeTimer = some (max s.now e + s.sw[ch].fade) ∧
      (s.endTimerEnds ch e).finish.sw[ch].current = s.sw[ch].current ∧
      (s.sw[ch].state ≠ .tripped → (s.endTimerEnds ch e).finish.sw[ch].request = s.sw[ch].request) := by
  obtain ⟨x, fades⟩ := endTimer_fades (e := e) d n
  obtain ⟨request, -, -, -, current, -, -, -, -, -, fade, -⟩ := Channel.core_eq_iff.1 (endTimerEnds_core (e := e) heater)
  rw [Channel.fadeOut_fades (.inr fz) (Nat.pos_iff_ne_zero.1 l) (Nat.pos_iff_ne_zero.1 iv)] at fades
  rw [fades] at request current fade
  refine ⟨fade, current.trans ?_, fun t => request.trans ?_⟩
  · show (if _ then _ else _ : Channel).current = _
    split <;> rfl
  · show (if _ then _ else _ : Channel).request = _
    rw [if_neg t]

theorem endTimer_target : (s.endTimerEnds ch e).finish.sw[ch].target = 0 := by
  obtain ⟨x, fades⟩ := endTimer_fades (e := e) d n
  obtain ⟨-, -, -, target, -⟩ := Channel.core_eq_iff.1 (endTimerEnds_core (e := e) heater)
  rw [fades] at target
  exact target.trans (Channel.fadeOut_target _ _ _)

end

theorem endTimer_valve (f : s.sw[ch].fn = .dumpValve) : (s.endTimerEnds ch e).finish.sw[ch].exempt = false ∧
    (s.endTimerEnds ch e).finish.wf.valveRun =
      (s.endTimerEnds ch e).finish.anyChannel fun c => c.fn = .dumpValve && c.exempt := by
  have cold : s.sw[ch].heater = false := Channel.heater_eq_false (by rw [f]; nofun) (by rw [f]; nofun)
  obtain ⟨-, -, -, -, -, exempt, -⟩ :=
    Channel.core_eq_iff.1 (endTimerEnds_core (s := s) (e := e) fun k => absurd k (by rw [cold]; nofun))
  have ends : s.endTimerEnds ch e = (s.requestEnds ch e).endValveRun ch := by
    unfold State.endTimerEnds
    rw [f]
    rfl
  rw [finish_exemptValves, finish_valveRun]
  refine ⟨exempt.trans ?_, by rw [ends]; rfl⟩
  rw [ends, State.endValveRun_sw, State.onChannel_get]

theorem endTimer_fan (heater : s.sw[ch].heater = true → s.ht.burner ≠ .firing) (f : s.sw[ch].fn = .burnerFan)
    (r : s.ht.burner = .runOn) : (s.endTimerEnds ch e).finish.ht.burner = .rest ∧
      (s.endTimerEnds ch e).finish.sw[ch].exempt = false ∧ (s.endTimerEnds ch e).finish.sw[ch].givenClass = none := by
  obtain ⟨-, -, -, -, -, exempt, -, -, -, -, -, -, given⟩ := Channel.core_eq_iff.1 (endTimerEnds_core (e := e) heater)
  have ends : s.endTimerEnds ch e = (s.requestEnds ch e).endRunOn := by
    unfold State.endTimerEnds
    rw [f]
    exact if_pos r
  have fn : (s.requestEnds ch e).sw[ch].fn = .burnerFan := by
    rw [requestEnds_get, Channel.fn_of_record (s.sw[ch].endRequest_spec (max s.now e)).1]
    exact f
  have fan : (s.endTimerEnds ch e).sw[ch] =
      { (s.requestEnds ch e).sw[ch].requestOff with exempt := false, givenClass := none } := by
    rw [ends, State.endRunOn_get, if_pos fn]
  have stop : (s.endTimerEnds ch e).ht.burner = .rest := by
    rw [ends]
    rfl
  rw [fan] at exempt given
  refine ⟨?_, exempt, given⟩
  rw [((finish_changes (s.endTimerEnds ch e)).1 .channels (by simp)).1 (by rw [stop]; nofun), stop]

theorem endTimer_others (n : s.sw[ch].fn ≠ .burnerFan) : OtherChannels ch s (s.endTimerEnds ch e).finish :=
  otherChannels_finish (fun _ k => (ownerEnds_get_ne n k).1.trans (State.onChannel_get_ne _ k _)) endTimerEnds_burner

/-- A channel that no unit owns ends alone. -/
theorem endTimer_alone (n1 : s.sw[ch].fn ≠ .burnerFan) (n2 : s.sw[ch].fn ≠ .dumpValve) :
    Changes [.clock, .channels] s (s.endTimerEnds ch e).finish := by
  have ends : s.endTimerEnds ch e = s.requestEnds ch e := by
    unfold State.endTimerEnds
    cases f : s.sw[ch].fn
    case dumpValve => exact absurd f n2
    case burnerFan => exact absurd f n1
    all_goals rfl
  rw [ends]
  exact Changes.after (by simp [Composes]) (by simp) frame_requestEnds (by simp)

end

/-- Settles O25: the request ends, then its owner's part, then what follows; the output is dark by the mode condition. -/
theorem endTimerEndsTheRequest : Obligations.EndTimerEndsTheRequest := by
  rintro s ch e rest active due heater hrest
  have ended : rest = s.sw[ch].state.ended := by
    rw [hrest]
    cases s.sw[ch].state <;> rfl
  subst ended
  obtain ⟨-, timer, -⟩ := Channel.core_eq_iff.1 (endTimerEnds_core (e := e) heater)
  exact ⟨(s.endTimerEnds ch e).finish, congrArg Host.Outcome.next (onExpiry_of due), endTimerEnds_now,
    timer.trans endTimerEnds_spec.2.2.1, endTimer_plain active heater, fun d n => ⟨endTimer_target heater d n,
      endTimer_dark heater d n active, endTimer_tripped heater d n, endTimer_ends heater d n active,
      endTimer_runs heater d n⟩, endTimer_valve, endTimer_fan heater, endTimer_others, endTimer_alone,
    Changes.after (by simp [Composes]) (by simp) frame_endTimerEnds (by simp)⟩

end Sys2Proof.Machine
end

section
/-! PROOFS. O27 and O29: trips and scenes. -/

namespace Sys2Proof.Machine

/-! ### Trips -/

section
variable {c : Channel} {now : Nat}

theorem Channel.trip_tripped (h : (c.recentTrips now).length < 2) : c.trip now = { c with
    state := .tripped, throttled := false, trips := c.recentTrips now ++ [now], cooldown := some (now + 5000), duty := 0,
    blanking := none, dry := none } :=
  if_pos (by rw [List.length_append, List.length_singleton]; omega)

theorem Channel.trip_fault (h : 2 ≤ (c.recentTrips now).length) :
    c.trip now = ({ c with trips := c.recentTrips now ++ [now] } : Channel).enterFault :=
  if_neg (by rw [List.length_append, List.length_singleton]; omega)

theorem Channel.trip_record : (c.trip now).record = c.record := by
  rcases Nat.lt_or_ge (c.recentTrips now).length 2 with h | h
  · rw [Channel.trip_tripped h]; rfl
  · rw [Channel.trip_fault h]; rfl

end

theorem Channel.requestOff_fault {c : Channel} (h : c.state = .fault) : c.requestOff.state = .fault := by
  simp [Channel.requestOff, h]

/-- What the owner does to a channel in FAULT leaves the FAULT and what the trip has marked (R122, R136). -/
theorem ownerEnds_fault {s : State} {ch : Fin 8} (fn : ChFn) (f : s.sw[ch].state = .fault) :
    (s.ownerEnds ch fn).sw[ch].state = .fault ∧ (s.ownerEnds ch fn).sw[ch].trips = s.sw[ch].trips ∧
      (s.ownerEnds ch fn).sw[ch].cooldown = s.sw[ch].cooldown ∧
      (s.ownerEnds ch fn).sw[ch].openLoad = s.sw[ch].openLoad ∧ (s.ownerEnds ch fn).sw[ch].duty = s.sw[ch].duty := by
  by_cases fan : fn = .burnerFan
  · subst fan
    show s.stopRunOn.sw[ch].state = _ ∧ s.stopRunOn.sw[ch].trips = _ ∧ s.stopRunOn.sw[ch].cooldown = _ ∧
      s.stopRunOn.sw[ch].openLoad = _ ∧ s.stopRunOn.sw[ch].duty = _
    rcases s.stopRunOn_get ch with k | k
    · rw [k]; exact ⟨f, rfl, rfl, rfl, rfl⟩
    · rw [k]
      exact ⟨Channel.requestOff_fault f, rfl, rfl, rfl, rfl⟩
  · obtain ⟨x, e⟩ := (ownerEnds_get s ch fn).1 fan
    rw [e]
    exact ⟨f, rfl, rfl, rfl, rfl⟩

/-- A channel in FAULT shows in the flags word (R73). -/
theorem channelFault_of_fault {s : State} {ch : Fin 8} (a : s.life.active = true) (h : s.sw[ch].state = .fault) :
    s.flagsOf.channelFault = true := by
  unfold State.flagsOf
  rw [if_pos a]
  show (_ || _ || _) = true
  rw [State.anyChannel_iff.2 ⟨ch, decide_eq_true h⟩]
  rfl

/-- A trip with its owner's part, before what follows from it. -/
def State.tripsNow (ch : Fin 8) (s : State) : State :=
  if (s.onChannel ch (Channel.trip s.now)).sw[ch].state = .fault then (s.onChannel ch (Channel.trip s.now)).ownerEnds ch s.sw[ch].fn
  else s.onChannel ch (Channel.trip s.now)

section
variable {s : State} {ch : Fin 8}

theorem State.trip_get (s : State) (ch : Fin 8) : (s.onChannel ch (Channel.trip s.now)).sw[ch] = s.sw[ch].trip s.now :=
  State.onChannel_get _ _ _

theorem State.tripChannel_eq (s : State) (ch : Fin 8) : s.tripChannel ch = (s.tripsNow ch).finish := by
  have fn : (s.onChannel ch (Channel.trip s.now)).sw[ch].fn = s.sw[ch].fn := by
    rw [s.trip_get ch]
    exact (Channel.record_eq_iff.1 Channel.trip_record).1
  unfold State.tripChannel State.tripsNow
  rw [← fn]
  rfl

theorem State.tripsNow_few (h : (s.sw[ch].recentTrips s.now).length < 2) : s.tripsNow ch = s.onChannel ch (Channel.trip s.now) :=
  if_neg (by rw [s.trip_get ch, Channel.trip_tripped h]; nofun)

theorem State.tripsNow_third (h : 2 ≤ (s.sw[ch].recentTrips s.now).length) :
    s.tripsNow ch = (s.onChannel ch (Channel.trip s.now)).ownerEnds ch s.sw[ch].fn :=
  if_pos (by rw [s.trip_get ch, Channel.trip_fault h]; rfl)

theorem frame_trip (s : State) (ch : Fin 8) : Frame [.channels] s (s.onChannel ch (Channel.trip s.now)) :=
  frame_onChannel s ch (Channel.trip s.now) Channel.trip_record

theorem frame_tripsNow (s : State) (ch : Fin 8) : Frame [.channels, .water, .heating] s (s.tripsNow ch) := by
  unfold State.tripsNow
  split
  · exact ((frame_trip s ch).widen (by simp)).trans (by simp [Composes]) ((frame_ownerEnds _ ch _).widen (by simp))
  · exact (frame_trip s ch).widen (by simp)

theorem State.tripsNow_burner : (s.tripsNow ch).ht.burner = .firing → s.ht.burner = .firing := by
  unfold State.tripsNow
  split
  · exact State.ownerEnds_burner (s.onChannel ch (Channel.trip s.now)) ch _
  · exact id

/-- The channel after two trips at most within 60 s: TRIPPED for 5 s (R69). -/
theorem State.tripsNow_get_few (h : (s.sw[ch].recentTrips s.now).length < 2) : (s.tripsNow ch).sw[ch] = { s.sw[ch] with
    state := .tripped, throttled := false, trips := s.sw[ch].recentTrips s.now ++ [s.now], cooldown := some (s.now + 5000),
    duty := 0, blanking := none, dry := none } := by
  rw [State.tripsNow_few h, s.trip_get ch, Channel.trip_tripped h]

/-- The channel after the third trip within 60 s: FAULT (R71). -/
theorem State.tripsNow_get_third (h : 2 ≤ (s.sw[ch].recentTrips s.now).length) :
    (s.tripsNow ch).sw[ch].state = .fault ∧ (s.tripsNow ch).sw[ch].trips = s.sw[ch].recentTrips s.now ++ [s.now] ∧
      (s.tripsNow ch).sw[ch].cooldown = none ∧ (s.tripsNow ch).sw[ch].openLoad = false ∧ (s.tripsNow ch).sw[ch].duty = 0 ∧
      (s.sw[ch].fn ≠ .burnerFan → ∃ x, (s.tripsNow ch).sw[ch] =
        { ({ s.sw[ch] with trips := s.sw[ch].recentTrips s.now ++ [s.now] } : Channel).enterFault with exempt := x }) := by
  have get := (s.trip_get ch).trans (Channel.trip_fault h)
  obtain ⟨f1, f2, f3, f4, f5⟩ := ownerEnds_fault s.sw[ch].fn (by rw [get]; rfl)
  have same := (ownerEnds_get (s.onChannel ch (Channel.trip s.now)) ch s.sw[ch].fn).1
  rw [State.tripsNow_third h]
  rw [get] at f2 f3 f4 f5 same
  exact ⟨f1, f2, f3, f4, f5, same⟩

/-- A trip leaves the channel dark. -/
theorem State.tripsNow_marks (s : State) (ch : Fin 8) : (s.tripsNow ch).sw[ch].duty = 0 ∧
    ((s.tripsNow ch).sw[ch].state = .tripped ∨ (s.tripsNow ch).sw[ch].state = .fault) ∧
    (s.tripsNow ch).sw[ch].trips = s.sw[ch].recentTrips s.now ++ [s.now] := by
  rcases Nat.lt_or_ge (s.sw[ch].recentTrips s.now).length 2 with h | h
  · rw [State.tripsNow_get_few h]
    exact ⟨rfl, .inl rfl, rfl⟩
  · obtain ⟨h1, h2, _, _, h5, _⟩ := State.tripsNow_get_third h
    exact ⟨h5, .inr h1, h2⟩

/-- Only a fan's FAULT reaches other channels. -/
theorem State.tripsNow_get_ne (h : (s.sw[ch].recentTrips s.now).length < 2 ∨ s.sw[ch].fn ≠ .burnerFan) {i : Fin 8}
    (n : i ≠ ch) : (s.tripsNow ch).sw[i] = s.sw[i] := by
  rcases Nat.lt_or_ge (s.sw[ch].recentTrips s.now).length 2 with l | l
  · rw [State.tripsNow_few l]
    exact State.onChannel_get_ne s n _
  · rw [State.tripsNow_third l, (ownerEnds_get_ne (h.resolve_left (by omega)) n).1]
    exact State.onChannel_get_ne s n _

/-- Only a fan's or a valve's FAULT reaches other units. -/
theorem frame_tripsNow_channels (h : (s.sw[ch].recentTrips s.now).length < 2 ∨
    (s.sw[ch].fn ≠ .burnerFan ∧ s.sw[ch].fn ≠ .dumpValve)) : Frame [.channels] s (s.tripsNow ch) := by
  have same : s.tripsNow ch = s.onChannel ch (Channel.trip s.now) := by
    rcases Nat.lt_or_ge (s.sw[ch].recentTrips s.now).length 2 with l | l
    · exact State.tripsNow_few l
    · obtain ⟨n1, n2⟩ := h.resolve_left (by omega)
      rw [State.tripsNow_third l]
      cases f : s.sw[ch].fn
      case dumpValve => exact absurd f n2
      case burnerFan => exact absurd f n1
      all_goals rfl
  rw [same]
  exact frame_trip s ch

end

/-- What follows from a FAULT keeps what it has ended, in a channel that is no heater (R71). -/
theorem fault_keeps {u : State} {ch : Fin 8} {c : Channel} {x : Bool} (h : u.sw[ch] = { c.enterFault with exempt := x })
    (cold : c.heater = false) :
    u.finish.sw[ch].endTimer = none ∧ u.finish.sw[ch].fadeTimer = none ∧ u.finish.sw[ch].current = 0 ∧
      u.finish.sw[ch].cycleTimer = none ∧ u.finish.sw[ch].request = c.request := by
  have core := finish_core (s := u) (i := ch) fun k => by
    rw [h, Channel.heater_of_record (show ({ c.enterFault with exempt := x } : Channel).record = c.record from rfl), cold] at k
    cases k
  rw [h] at core
  obtain ⟨request, timer, _, _, current, _, _, _, _, cycle, fade, _⟩ := Channel.core_eq_iff.1 core
  exact ⟨timer, fade, current, cycle, request⟩

/-- Settles O27: the trip marks the channel, its owner's part follows a FAULT, and a cooldown's end leaves the decision to the
evaluation. -/
theorem overcurrentTripsTheChannel : Obligations.OvercurrentTripsTheChannel := by
  refine ⟨?trip, ?cooldown⟩
  case trip =>
    rintro s ch run at_ recent lit above across rfl rfl
    set v := s.reach (s.sw[ch].onSince + 10) with hv
    have run : exec (.channelTrip ch run) s = .next (v.tripsNow ch).finish := by
      rw [← State.tripChannel_eq]
      exact congrArg Host.Outcome.next (if_pos (Channel.overCurrent_iff.2 ⟨lit, above, across⟩))
    have reach := frame_reach s (s.sw[ch].onSince + 10)
    have cmp : Composes [.clock, .channels, .water, .heating] := by simp [Composes]
    have fu : Frame [.clock, .channels, .water, .heating] s (v.tripsNow ch) :=
      (reach.widen (by simp)).trans cmp ((frame_tripsNow v ch).widen (by simp))
    obtain ⟨dark, ended, marked⟩ := v.tripsNow_marks ch
    have now : (v.tripsNow ch).now = max s.now (s.sw[ch].onSince + 10) := frame_tripsNow v ch .clock (by simp)
    obtain ⟨_, _, trips, cooldown, fault, tripped, openLoad⟩ := finish_channel (v.tripsNow ch) ch
    refine ⟨_, run, (finish_now _).trans now, finish_dark dark ended, trips.trans marked, fun h => ?_, fun h => ?_, fun h => ?_,
      fun h => ?_, Changes.after cmp (by simp) fu (by simp)⟩
    · have k := State.tripsNow_get_few (s := v) (ch := ch) h
      rw [k] at tripped cooldown
      exact ⟨tripped.2 rfl, cooldown⟩
    · obtain ⟨h1, _, h3, h4, _, h6⟩ := State.tripsNow_get_third (s := v) (ch := ch) h
      have inFault := fault.2 h1
      refine ⟨inFault, cooldown.trans h3, Bool.eq_false_iff.2 fun o => ?_, fun a => ?_, fun cold => ?_⟩
      · rw [openLoad o] at h4
        cases h4
      · rw [show (v.tripsNow ch).finish.nc.flags = _ from finish_flags _]
        exact channelFault_of_fault (finish_active _ (active_of_frame fu (by simp) a)) inFault
      · obtain ⟨x, e⟩ := h6 fun k => by rw [Channel.heater, show s.sw[ch].fn = .burnerFan from k] at cold; cases cold
        exact fault_keeps (c := { v.sw[ch] with trips := v.sw[ch].recentTrips v.now ++ [v.now] }) e cold
    · exact otherChannels_finish (fun i n => State.tripsNow_get_ne (s := v) h n) (State.tripsNow_burner (s := v))
    · exact Changes.after (by simp [Composes]) (by simp)
        ((reach.widen (by simp)).trans (by simp [Composes]) ((frame_tripsNow_channels (s := v) h).widen (by simp))) (by simp)
  case cooldown =>
    intro s ch e active trippedNow h
    set f : Channel → Channel := fun c => { c with
      cooldown := none, state := if c.state = .tripped then (if c.request then .held else .off) else c.state } with hf
    obtain ⟨now, get, others, frame⟩ := channel_event (s := s) (ch := ch) (e := e) (f := f) rfl rfl
    set u := (s.reach e).onChannel ch f with hu
    obtain ⟨record, core, trips, cooldown, fault, tripped, _⟩ := finish_channel u ch
    rw [get] at record core trips cooldown fault tripped
    have state : (f s.sw[ch]).state = if s.sw[ch].request then .held else .off := if_pos trippedNow
    refine ⟨_, congrArg Host.Outcome.next (onExpiry_of h), now, cooldown, ?_, core, trips, others, frame⟩
    have n1 : u.finish.sw[ch].state ≠ .tripped := fun k => by
      have := tripped.1 k
      rw [state] at this
      split at this <;> cases this
    have n2 : u.finish.sw[ch].state ≠ .fault := fun k => by
      have := fault.1 k
      rw [state] at this
      split at this <;> cases this
    rcases Channel.state_of_evaluate (finish_outputs u active ch) with k | k | ⟨k1, k2⟩ | ⟨k1, k2⟩
    · exact absurd k n1
    · exact absurd k n2
    · exact .inl ⟨k2, k1.symm.imp_left fun r => Bool.eq_false_iff.2 r⟩
    · exact .inr ⟨k1, k2⟩

/-! ### Scenes -/

section
variable {c : Channel} {now iv target : Nat}

/-- A target above 0 keeps the request; a new one is faded to, or taken at once without an interval (R79, R80). -/
theorem Channel.setTarget_pos (l : 0 < target) : (c.setTarget now iv target).request = c.request ∧
    (c.setTarget now iv target).endTimer = c.endTimer ∧
    (target ≠ c.target → target ≠ c.current →
      (0 < iv → (c.setTarget now iv target).fadeTimer = some (now + iv) ∧ (c.setTarget now iv target).current = c.current) ∧
      (iv = 0 → (c.setTarget now iv target).current = target)) := by
  have stays : ∀ d : Channel, d.target = target → d.endFade = d := fun d h => if_neg fun k => by rw [h] at k; omega
  unfold Channel.setTarget
  split
  next h => exact ⟨rfl, rfl, fun n => absurd h.1 n⟩
  · split
    next h =>
      rw [stays { c with target := target, fadeTimer := none, fadeInterval := iv } rfl]
      exact ⟨rfl, rfl, fun _ n => absurd h n⟩
    · split
      next z =>
        rw [stays { c with target := target, current := target, fadeTimer := none, fadeInterval := iv } rfl]
        exact ⟨rfl, rfl, fun _ _ => ⟨fun p => by omega, fun _ => rfl⟩⟩
      next n => exact ⟨rfl, rfl, fun _ _ => ⟨fun _ => ⟨rfl, rfl⟩, fun z => absurd z n⟩⟩

/-- A request outside FAULT is taken with its end timer, and leaves levels and fade (R60, R65). -/
theorem Channel.requestWith_spec (h : c.state ≠ .fault) (t : Timer) : (c.requestWith now t).request = true ∧
    (c.requestWith now t).endTimer = t ∧ (c.requestWith now t).timedRequest = t.isSome ∧
    (c.requestWith now t).target = c.target ∧ (c.requestWith now t).current = c.current ∧
    (c.requestWith now t).fadeTimer = c.fadeTimer ∧ (c.requestWith now t).state = c.state ∧
    (c.requestWith now t).body = c.body := by
  refine ⟨?_, ?_, ?_, ?_, ?_, ?_, ?_, Channel.requestWith_body _ _ _⟩ <;>
    rw [Channel.requestWith, if_neg h] <;> unfold Channel.cycleRequest <;> split <;> rfl

end

/-- What a scene does to a channel: nothing, a fade to 0, or a request with the level as target (R82). -/
theorem Channel.applyScene_skips {c : Channel} (now fade : Nat) {level : Nat}
    (h : level = 255 ∨ c.fn ≠ .light ∨ c.dimmable = false ∨ c.state = .fault) : c.applyScene now fade level = c :=
  if_pos (by simpa using h)

theorem Channel.applyScene_out {c : Channel} (now fade : Nat) (l : c.fn = .light) (d : c.dimmable = true)
    (f : c.state ≠ .fault) : c.applyScene now fade 0 = c.fadeOut now fade :=
  (if_neg (by simp [l, d, f])).trans (if_pos rfl)

theorem Channel.applyScene_to {c : Channel} (now fade : Nat) {level : Nat} (n : level ≠ 255) (l : c.fn = .light)
    (d : c.dimmable = true) (f : c.state ≠ .fault) (z : level ≠ 0) :
    c.applyScene now fade level = (c.requestWith now none).setTarget now fade level :=
  (if_neg (by simp [n, l, d, f])).trans (if_neg z)

theorem ChState.ended_of_working {x : ChState} (h : x ≠ .fault) : x.ended = if x = .tripped then .tripped else .off := by
  cases x <;> simp_all [ChState.ended]

theorem State.applyScene_get (s : State) (k i : Fin 8) : (s.applyScene (k.val + 1)).sw[i] =
    s.sw[i].applyScene s.now s.light.scenes[k].fade s.light.scenes[k].levels[i] := by
  have h : 1 ≤ k.val + 1 ∧ k.val + 1 ≤ 8 := by omega
  unfold State.applyScene
  rw [dif_pos h]
  fin_cases i <;> rfl

theorem State.applyScene_light (s : State) (k : Fin 8) :
    (s.applyScene (k.val + 1)).light = { s.light with lastScene := k.val + 1 } := by
  unfold State.applyScene
  rw [dif_pos (by omega : 1 ≤ k.val + 1 ∧ k.val + 1 ≤ 8)]

theorem frame_applyScene (s : State) (k : Fin 8) : Frame [.light, .channels] s (s.applyScene (k.val + 1)) := by
  have alone := (units_applyScene s (k.val + 1)).rest
  have heating : (s.applyScene (k.val + 1)).ht = s.ht ∧ (s.applyScene (k.val + 1)).wf = s.wf := by
    unfold State.applyScene
    split <;> exact ⟨rfl, rfl⟩
  rw [heating.1, heating.2] at alone
  intro b n
  cases b <;> simp at n
  case channelRecords =>
    intro i
    rw [State.applyScene_get]
    exact Channel.record_of_body (Channel.applyScene_body _ _ _ _)
  all_goals rw [alone]; simp [Same, Drive.Stands.refl, State.life, State.answers, State.drive]

/-- Settles O29: each channel takes the scene's level for itself, and a light's core is kept by what follows. -/
theorem sceneSetsTheLights : Obligations.SceneSetsTheLights := by
  intro s src tgt pr b k h life hb
  set u := s.heard.applyScene (k.val + 1) with hu
  have run : exec (.sceneReceived src tgt (sent pr kindScene src tgt [b])) s = .next u.finish := by
    refine congrArg Host.Outcome.next ((State.receive_handled h (by simp)).trans ?_)
    have number : byteAt [b] 0 = k.val + 1 := hb
    rw [hu, ← number]
    exact congrArg State.finish (if_neg life)
  have f := frame_applyScene s.heard k
  have cmp : Composes [.light, .channels, .link] := by simp [Composes]
  have act : u.life.active = true := active_of_frame f (by simp) (show s.life.active = true from active_of_receivable h.1)
  have burner : u.ht.burner = .firing → s.ht.burner = .firing := by
    have := (f .heating (by simp)).1
    rw [hu]
    unfold State.applyScene
    split <;> exact id
  refine ⟨_, run, heard_of_frame f (by simp), ?light, fun i => ?channel,
    Changes.after cmp (by simp) (((frame_heard s).widen (by simp)).trans cmp (f.widen (by simp))) (by simp)⟩
  case light => rw [finish_light, hu, State.applyScene_light]; rfl
  case channel =>
    rintro _ rfl
    set level := s.light.scenes[k].levels[i] with hlevel
    set fade := s.light.scenes[k].fade with hfade
    have get : u.sw[i] = s.sw[i].applyScene s.now fade level := s.heard.applyScene_get k i
    have kept := finish_channel u i
    refine ⟨fun skip => ?_, fun n light dim fault => ?_⟩
    · have same : u.sw[i] = s.sw[i] := get.trans (Channel.applyScene_skips _ _ skip)
      rw [same] at kept
      exact (Channel.Kept.refl (s.ht.burner = .firing) _).trans burner kept
    · have record : u.sw[i].record = s.sw[i].record := by
        rw [get]
        exact Channel.record_of_body (Channel.applyScene_body _ _ _ _)
      have core := finish_core (s := u) (i := i) fun hot => by
        rw [Channel.heater_of_record record, Channel.heater, light] at hot
        cases hot
      obtain ⟨request, timer, _, target, current, _, _, _, _, _, fadeTimer, interval, _⟩ := Channel.core_eq_iff.1 core
      by_cases z : level = 0
      · have out : u.sw[i] = s.sw[i].fadeOut s.now fade := by
          rw [get, z, Channel.applyScene_out _ _ light dim fault]
        rw [out] at request timer target current fadeTimer interval
        obtain ⟨f1, f2, f3, _⟩ := Channel.fadeOut_marks (c := s.sw[i]) (now := s.now) (iv := fade)
        refine ⟨(target.trans (Channel.fadeOut_target _ _ _)).trans z.symm, timer.trans f1, kept.1.trans record,
          fun p => by omega, fun _ t => request.trans (f2 t), fun _ l new i => ?_, fun _ new ends => ?_, fun p => by omega⟩
        · rw [Channel.fadeOut_fades new (by omega) (by omega)] at request current fadeTimer interval
          refine ⟨fadeTimer, interval, current.trans ?_, fun t => request.trans ?_⟩
          · show (if _ then _ else _ : Channel).current = _
            split <;> rfl
          · show (if _ then _ else _ : Channel).request = _
            rw [if_neg t]
        · rw [Channel.fadeOut_ends new ends.symm] at request current fadeTimer
          obtain ⟨h1, h2⟩ := Channel.ended_of_evaluate (finish_outputs u act i) kept request
          refine ⟨current, fadeTimer, request, h2, h1.trans ?_⟩
          rw [out, f3]
          exact ChState.ended_of_working fault
      · have lit : u.sw[i] = (s.sw[i].requestWith s.now none).setTarget s.now fade level := by
          rw [get, Channel.applyScene_to _ _ n light dim fault z]
        obtain ⟨r1, r2, _, r4, r5, _⟩ := Channel.requestWith_spec (now := s.now) fault none
        obtain ⟨t1, t2, t3⟩ := Channel.setTarget_pos (c := s.sw[i].requestWith s.now none) (now := s.now) (iv := fade)
          (Nat.pos_of_ne_zero z)
        rw [lit] at request timer target current fadeTimer
        rw [r4, r5] at t3
        refine ⟨target.trans (Channel.setTarget_target _ _ _ _), timer.trans (t2.trans r2), kept.1.trans record,
          fun _ => request.trans (t1.trans r1), fun e => absurd e z, fun e => absurd e z, fun e => absurd e z,
          fun _ n1 n2 => ⟨fun p => ⟨fadeTimer.trans ((t3 n1 n2).1 p).1, current.trans ((t3 n1 n2).1 p).2⟩,
            fun p => current.trans ((t3 n1 n2).2 p)⟩⟩

end Sys2Proof.Machine
end

section
/-! SUPPORT. A drive through what follows from an event, and what a forced cause makes of it. -/

namespace Sys2Proof.Machine

/-! ### Fields of a drive -/

theorem Drive.motion_eq_iff {d e : Drive} : e.motion = d.motion ↔
    e.state = d.state ∧ e.origin = d.origin ∧ e.direction = d.direction ∧ e.braked = d.braked ∧ e.homing = d.homing ∧
      e.forced = d.forced ∧ e.grantTimer = d.grantTimer ∧ e.travelTimer = d.travelTimer ∧ e.brakeTimer = d.brakeTimer ∧
      e.pulseWatch = d.pulseWatch := by
  simp [Drive.motion]

theorem Drive.record_eq_iff {d e : Drive} : e.record = d.record ↔
    e.fn = d.fn ∧ e.travelPulses = d.travelPulses ∧ e.travelTime = d.travelTime ∧ e.stall = d.stall ∧
      e.nominal = d.nominal ∧ e.position = d.position ∧ e.jam = d.jam := by
  simp [Drive.record]

/-! ### What follows from an event -/

section
variable {s : State} {i : DriveId}

theorem Same.driveRecord {s t : State} (h : Same .driveRecords s t) (i : DriveId) : (t.drive i).record = (s.drive i).record := by
  cases i
  · exact h.1
  · exact h.2

theorem finish_record (s : State) (i : DriveId) : (s.finish.drive i).record = (s.drive i).record :=
  Same.driveRecord ((finish_changes s).1 .driveRecords (by simp)) i

/-- A drive that does not wait, in a node that is not DORMANT, moves on as it did. -/
theorem finish_motion (l : s.life ≠ .dormant) (n : (s.drive i).state ≠ .waitGrant) :
    (s.finish.drive i).motion = (s.drive i).motion :=
  ((finish_changes s).1 .drives (by simp) (finish_life s l) i).1 n

theorem Moved.finish {t : State} (h : Moved i s t) : OtherDrive i s t.finish :=
  h.2.trans h.1 ((finish_changes t).1 .life (by simp)) fun e j _ => (finish_changes t).1 .drives (by simp) e j

/-- What befell the other drive after a state in which it stands as before. -/
theorem OtherDrive.after {v u : State} (d : ∀ j, j ≠ i → v.drive j = s.drive j) (l : v.life = s.life)
    (il : v.interlock = s.interlock) (g : OtherDrive i v u) : OtherDrive i s u := fun e j n => by
  have := g (e.trans l.symm) j n
  rwa [d j n, il] at this

/-- A latched jam shows in the flags word (R73). -/
theorem channelFault_of_jam (a : s.life.active = true) (h : (s.drive i).jam = true) : s.flagsOf.channelFault = true := by
  unfold State.flagsOf
  rw [if_pos a]
  show (_ || s.ma.jam || s.mb.jam) = true
  cases i
  · rw [show s.ma.jam = true from h, Bool.or_true, Bool.true_or]
  · rw [show s.mb.jam = true from h, Bool.or_true]

theorem frame_setDrive_any (s : State) (i : DriveId) (d : Drive) : Frame [.driveRecords, .drives] s (s.setDrive i d) := by
  intro b n
  cases b <;> simp at n
  case channels => exact same_channels (State.setDrive_sw _ _ _) (State.setDrive_ht _ _ _)
  all_goals simp [Same, State.life, State.answers]

/-- A busy drive keeps a node out of DORMANT. -/
theorem LifeSound.awake (h : LifeSound s) (b : (s.drive i).state.busy = true) : s.life ≠ .dormant := fun e => by
  have := driveBusy_iff.1 (h.1 e).2 i
  rw [b] at this
  cases this

/-! ### Forced causes -/

theorem evaluateForced_ended (h : (s.drive i).state = .retracted ∨ (s.drive i).state = .jammed) : s.evaluateForced i = s := by
  unfold State.evaluateForced
  dsimp only
  rcases h with h | h <;> rw [h] <;> split <;> rfl

theorem evaluateForced_without (h : forcedCauseOf (s.drive i).fn s.interlock = none) : s.evaluateForced i = s := by
  unfold State.evaluateForced
  dsimp only
  rw [h]
  split
  case h_4 => rfl
  all_goals rename_i e; cases e

theorem evaluateForced_forced (h : (s.drive i).forced ≠ none) : s.evaluateForced i = s := by
  unfold State.evaluateForced
  dsimp only
  split
  case h_4 => rfl
  all_goals rename_i e _; exact absurd e h

/-- A forced cause starts the retraction of a drive that stands away from RETRACTED (R100, R101). -/
theorem evaluateForced_starts {c : ForcedCause} (l : s.life.operating = true) (f : (s.drive i).forced = none)
    (h : forcedCauseOf (s.drive i).fn s.interlock = some c)
    (st : (s.drive i).state = .extended ∨ (s.drive i).state = .parked ∨ (s.drive i).state = .unknown) :
    (s.evaluateForced i).drive i = (s.drive i).forcedRetract s.now c (decide ((s.drive i).state = .unknown)) := by
  have k : s.evaluateForced i = s.setDrive i ((s.drive i).forcedRetract s.now c (decide ((s.drive i).state = .unknown))) := by
    unfold State.evaluateForced
    dsimp only
    rw [f, h]
    cases life : s.life
    case run | dormant | listenOnly => rcases st with st | st | st <;> rw [st] <;> rfl
    all_goals
      rw [life] at l
      cases l
  rw [k]
  exact State.drive_setDrive _ _ _

/-- A wake cause in a node that is not DORMANT moves no drive. -/
theorem wakeCause_drive {t : State} (w : Bool) (l : t.life ≠ .dormant) (i : DriveId) :
    (t.wakeCause w).drive i = t.drive i ∧ (t.wakeCause w).life = t.life := by
  unfold State.wakeCause
  split
  next e => exact absurd e l
  next e =>
    unfold State.joinWake
    split <;> split <;> exact ⟨by cases i <;> rfl, rfl⟩
  · exact ⟨rfl, rfl⟩

theorem wakeForForced_drive {t : State} (s : State) (l : t.life ≠ .dormant) (i : DriveId) :
    (wakeForForced s t).drive i = t.drive i ∧ (wakeForForced s t).life = t.life := by
  unfold wakeForForced
  split
  · exact wakeCause_drive _ l i
  · exact ⟨rfl, rfl⟩

theorem Moved.wakeForForced {v t : State} (h : Moved i v t) (s : State) : Moved i v (wakeForForced s t) :=
  h.trans (.of_frame (frame_wakeForForced s t) i)

end

end Sys2Proof.Machine
end

section
/-! PROOFS. O31 to O33: the ends of a travel, of braking and of a wait. -/

namespace Sys2Proof.Machine

/-! ### Ends of a travel -/

section
variable {d : Drive}

theorem Drive.stalled_retracted (h : d.state = .retracting) (w : d.homing = true ∨ d.position ≤ d.window) :
    d.stalled = d.endRetracted := by
  unfold Drive.stalled
  rw [h]
  exact if_pos w

theorem Drive.stalled_extended (h : d.state = .extending) (w : d.travelPulses ≤ d.position + d.window) :
    d.stalled = d.endExtended := by
  unfold Drive.stalled
  rw [h]
  exact if_pos w

theorem Drive.stalled_jammed (h : (d.state = .retracting ∧ d.homing = false ∧ d.window < d.position) ∨
    (d.state = .extending ∧ d.position + d.window < d.travelPulses)) : d.stalled = d.enterJam := by
  unfold Drive.stalled
  rcases h with ⟨h, w1, w2⟩ | ⟨h, w⟩
  · rw [h]
    exact if_neg (by simp [w1]; omega)
  · rw [h]
    exact if_neg (by omega)

end

/-- A drive that has ended its travel in `u` evaluates its forced causes, and what follows brings it to `u.finish`. -/
theorem driveEnds {s v u : State} {i : DriveId} {e : Drive} (hv : v = s.setDrive i e)
    (hu : Moved i v u) (l : u.life ≠ .dormant) (a : s.life.active = true) :
    ((u.drive i).state ≠ .waitGrant → (u.finish.drive i).motion = (u.drive i).motion) ∧
      (u.finish.drive i).record = e.record ∧
      ((u.drive i).jam = true → u.finish.nc.flags.channelFault = true) ∧
      (∀ j, j ≠ i → (u.finish.drive j).record = (s.drive j).record) ∧ OtherDrive i s u.finish ∧
      Frame [.driveRecords, .drives] s u := by
  have others (j : DriveId) (n : j ≠ i) : v.drive j = s.drive j := by rw [hv]; exact State.drive_setDrive_ne s n e
  have records := hu.1 .driveRecords (by simp)
  have fv : Frame [.driveRecords, .drives] s v := by rw [hv]; exact frame_setDrive_any s i e
  have fu : Frame [.driveRecords, .drives] s u := fv.trans (by simp [Composes]) (hu.1.widen (by simp))
  refine ⟨finish_motion l, ?_, fun j => ?_, fun j n => ?_, OtherDrive.after others ?_ ?_ hu.finish, fu⟩
  · rw [finish_record, Same.driveRecord records i, hv, State.drive_setDrive]
  · rw [show u.finish.nc.flags = _ from finish_flags u]
    refine channelFault_of_jam (i := i) (finish_active u (active_of_frame fu (by simp) a)) ?_
    obtain ⟨_, _, _, _, _, _, jam⟩ := Drive.record_eq_iff.1 (finish_record u i)
    rw [jam, j]
  · rw [finish_record, Same.driveRecord records j, others j n]
  · rw [hv]; exact congrArg NodeControl.life (State.setDrive_nc s i e)
  · rw [hv, State.setDrive_interlock]

/-- A stall in a node that is not DORMANT: the drive's end, then its forced causes. -/
theorem stallDrive_spec (s : State) (i : DriveId) (l : s.life ≠ .dormant) :
    ∃ u, s.stallDrive i = u.finish ∧ Moved i (s.setDrive i (s.drive i).stalled) u ∧ u.life = s.life ∧
      u.drive i = ((s.setDrive i (s.drive i).stalled).evaluateForced i).drive i := by
  have life : ((s.setDrive i (s.drive i).stalled).evaluateForced i).life = s.life :=
    (State.evaluateForced_life _ _).trans (congrArg NodeControl.life (State.setDrive_nc _ _ _))
  obtain ⟨drive, after⟩ := wakeForForced_drive s (by rw [life]; exact l) i
  exact ⟨_, rfl, (moved_evaluateForced _ i).wakeForForced s, after.trans life, drive⟩

theorem stallDrive_ends {s : State} {i : DriveId} (e : Nat) (sound : LifeSound s) (active : s.life.active = true)
    (run : (s.drive i).state = .extending ∨ (s.drive i).state = .retracting) :
    ∃ t, (s.reach e).stallDrive i = t ∧ t.now = max s.now e ∧
      ((s.drive i).state = .retracting →
        (s.drive i).homing = true ∨ (s.drive i).position ≤ max 4 ((s.drive i).travelPulses / 20) →
        (t.drive i).state = .retracted ∧ (t.drive i).position = 0 ∧ (t.drive i).jam = false ∧
          (t.drive i).homing = false ∧ (t.drive i).forced = none ∧ (t.drive i).travelTimer = none) ∧
      ((s.drive i).state = .extending →
        (s.drive i).travelPulses ≤ (s.drive i).position + max 4 ((s.drive i).travelPulses / 20) →
        (t.drive i).position = (s.drive i).travelPulses ∧ (t.drive i).jam = (s.drive i).jam ∧
          (forcedCauseOf (s.drive i).fn s.interlock = none →
            (t.drive i).state = .extended ∧ (t.drive i).forced = none ∧ (t.drive i).travelTimer = none)) ∧
      (((s.drive i).state = .retracting ∧ (s.drive i).homing = false ∧
            max 4 ((s.drive i).travelPulses / 20) < (s.drive i).position) ∨
          ((s.drive i).state = .extending ∧
            (s.drive i).position + max 4 ((s.drive i).travelPulses / 20) < (s.drive i).travelPulses) →
        (t.drive i).state = .jammed ∧ (t.drive i).jam = true ∧ (t.drive i).position = (s.drive i).position ∧
          (t.drive i).forced = none ∧ t.nc.flags.channelFault = true) ∧
      (∀ j, j ≠ i → (t.drive j).record = (s.drive j).record) ∧ OtherDrive i s t ∧
      Changes [.clock, .driveRecords, .drives] s t := by
  have awake : s.life ≠ .dormant := sound.awake (i := i) (by rcases run with r | r <;> rw [r] <;> rfl)
  have drive : (s.reach e).drive i = s.drive i := by cases i <;> rfl
  obtain ⟨u, ends, moved, life, at_i⟩ := stallDrive_spec (s.reach e) i awake
  rw [drive] at moved at_i
  obtain ⟨motion, record, fault, records, others, frame⟩ :=
    driveEnds (s := s.reach e) (i := i) (e := (s.drive i).stalled) rfl moved (by rw [life]; exact awake) active
  have atEnd : ∀ x, (s.drive i).stalled = x → x.state = .retracted ∨ x.state = .jammed → u.drive i = x := fun x h k => by
    rw [at_i, h, evaluateForced_ended (by rw [State.drive_setDrive]; exact k), State.drive_setDrive]
  obtain ⟨_, _, _, _, _, position, jam⟩ := Drive.record_eq_iff.1 record
  refine ⟨u.finish, ends, ?now, fun r w => ?retracted, fun r w => ?extended, fun j => ?jammed, fun j n => ?_, others, ?frame⟩
  case now =>
    rw [finish_now, show _ = _ from frame .clock (by simp)]
    rfl
  case retracted =>
    have stalled := Drive.stalled_retracted r w
    have at_i := atEnd _ stalled (.inl rfl)
    rw [at_i] at motion
    rw [stalled] at position jam
    obtain ⟨h1, _, _, _, h5, h6, _, h8, _⟩ := Drive.motion_eq_iff.1 (motion nofun)
    exact ⟨h1, position, jam, h5, h6, h8⟩
  case extended =>
    have stalled := Drive.stalled_extended r w
    rw [stalled] at position jam
    refine ⟨position, jam, fun free => ?_⟩
    have at_i : u.drive i = (s.drive i).endExtended := by
      rw [at_i, stalled, evaluateForced_without, State.drive_setDrive]
      rw [State.drive_setDrive, State.setDrive_interlock]
      exact free
    rw [at_i] at motion
    obtain ⟨h1, _, _, _, _, h6, _, h8, _⟩ := Drive.motion_eq_iff.1 (motion nofun)
    exact ⟨h1, h6, h8⟩
  case jammed =>
    have stalled := Drive.stalled_jammed j
    have at_i := atEnd _ stalled (.inr rfl)
    rw [at_i] at motion fault
    rw [stalled] at position jam
    obtain ⟨h1, _, _, _, _, h6, _⟩ := Drive.motion_eq_iff.1 (motion nofun)
    exact ⟨h1, jam, position, h6, fault rfl⟩
  case frame =>
    have c : Composes [.clock, .driveRecords, .drives] := by simp [Composes]
    exact Changes.after c (by simp) (((frame_reach s e).widen (by simp)).trans c (frame.widen (by simp))) (by simp)
  · rw [records j n]
    cases j <;> rfl

/-- A drive that jams in a node that is not DORMANT. -/
theorem enterJam_spec {s : State} {i : DriveId} (e : Nat) (sound : LifeSound s) (active : s.life.active = true)
    (run : (s.drive i).state = .extending ∨ (s.drive i).state = .retracting) :
    ∃ t, ((s.reach e).onDrive i Drive.enterJam).finish = t ∧ t.now = max s.now e ∧ (t.drive i).state = .jammed ∧
      (t.drive i).jam = true ∧ (t.drive i).bridge = .off ∧ (t.drive i).position = (s.drive i).position ∧
      (t.drive i).forced = none ∧ (t.drive i).homing = false ∧ (t.drive i).direction = none ∧
      (t.drive i).travelTimer = none ∧ (t.drive i).brakeTimer = none ∧ (t.drive i).grantTimer = none ∧
      t.nc.flags.channelFault = true ∧ (∀ j, j ≠ i → (t.drive j).record = (s.drive j).record) ∧ OtherDrive i s t ∧
      Changes [.clock, .driveRecords, .drives] s t := by
  have awake : s.life ≠ .dormant := sound.awake (i := i) (by rcases run with r | r <;> rw [r] <;> rfl)
  have drive : (s.reach e).drive i = s.drive i := by cases i <;> rfl
  set u := (s.reach e).onDrive i Drive.enterJam with hu
  have at_i : u.drive i = (s.drive i).enterJam := (State.drive_setDrive _ _ _).trans (by rw [drive])
  have life : u.life = s.life := congrArg NodeControl.life (State.setDrive_nc _ _ _)
  obtain ⟨motion, record, fault, records, others, frame⟩ :=
    driveEnds (s := s.reach e) (v := u) (u := u) (i := i) (e := (s.drive i).enterJam) (by rw [hu, ← drive]; rfl) (Moved.refl i u)
      (by rw [life]; exact awake) active
  obtain ⟨_, _, _, _, _, position, jam⟩ := Drive.record_eq_iff.1 record
  rw [at_i] at motion fault
  obtain ⟨h1, _, h3, _, h5, h6, h7, h8, h9, _⟩ := Drive.motion_eq_iff.1 (motion nofun)
  have c : Composes [.clock, .driveRecords, .drives] := by simp [Composes]
  refine ⟨u.finish, rfl, ?_, h1, jam, ?_, position, h6, h5, h3, h8, h9, h7, fault rfl, fun j n => ?_, others,
    Changes.after c (by simp) (((frame_reach s e).widen (by simp)).trans c (frame.widen (by simp))) (by simp)⟩
  · rw [finish_now, show _ = _ from frame .clock (by simp)]
    rfl
  · unfold Drive.bridge
    rw [h1]
    rfl
  · rw [records j n]
    cases j <;> rfl

/-- Settles O31: by current the end is now, and by a timer at its instant; the end itself is the same. -/
theorem travelsEndWhereTheyMay : Obligations.TravelsEndWhereTheyMay := by
  refine ⟨?stall, ?jam⟩
  case stall =>
    rintro s i cause at_ _ sound active rfl run how
    have travelling : (s.drive i).state.travelling = true := by rcases run with r | r <;> rw [r] <;> rfl
    rcases how with ⟨c, rfl, above, rfl⟩ | ⟨w, rfl, watch, rfl⟩
    · obtain ⟨t, ends, now, rest⟩ := stallDrive_ends 0 sound active run
      rw [State.reach_zero] at ends
      exact ⟨t, congrArg Host.Outcome.next (((if_pos travelling).trans (if_pos above)).trans ends),
        now.trans (Nat.max_zero _), rest⟩
    · obtain ⟨t, ends, rest⟩ := stallDrive_ends w sound active run
      exact ⟨t, congrArg Host.Outcome.next (((if_pos travelling).trans (onExpiry_of watch)).trans ends), rest⟩
  case jam =>
    rintro s i c at_ _ sound active rfl run how
    have travelling : (s.drive i).state.travelling = true := by rcases run with r | r <;> rw [r] <;> rfl
    rcases how with ⟨x, rfl, above, rfl⟩ | ⟨w, rfl, timer, rfl⟩
    · obtain ⟨t, ends, now, rest⟩ := enterJam_spec 0 sound active run
      rw [State.reach_zero] at ends
      exact ⟨t, congrArg Host.Outcome.next ((if_pos ⟨travelling, above⟩).trans ends), now.trans (Nat.max_zero _), rest⟩
    · obtain ⟨t, ends, rest⟩ := enterJam_spec w sound active run
      exact ⟨t, congrArg Host.Outcome.next (((if_pos travelling).trans (onExpiry_of timer)).trans ends), rest⟩

end Sys2Proof.Machine
end

section
/-! PROOFS. O32 and O33: the end of braking and of a wait. -/

namespace Sys2Proof.Machine

section
variable {s : State} {i : DriveId}

theorem Drive.rest_record (st : DriveState) (d : Drive) : (d.rest st).record = d.record := rfl

@[simp] theorem State.onDrive_life (s : State) (i : DriveId) (f : Drive → Drive) : (s.onDrive i f).life = s.life :=
  congrArg NodeControl.life (State.setDrive_nc _ _ _)

theorem State.comeToRest_life (s : State) (i : DriveId) (st : DriveState) : (s.comeToRest i st).life = s.life :=
  (State.evaluateForced_life _ _).trans (s.onDrive_life i _)

/-- A drive that comes to rest stays there where no forced cause applies, and in RETRACTED and JAMMED in any case (R100). -/
theorem comeToRest_stays {st : DriveState}
    (h : st = .retracted ∨ st = .jammed ∨ forcedCauseOf (s.drive i).fn s.interlock = none) :
    (s.comeToRest i st).drive i = (s.drive i).rest st := by
  have drive : (s.onDrive i (Drive.rest st)).drive i = (s.drive i).rest st := State.drive_setDrive _ _ _
  have stays : (s.onDrive i (Drive.rest st)).evaluateForced i = s.onDrive i (Drive.rest st) := by
    rcases h with h | h | h
    · exact evaluateForced_ended (.inl (by rw [drive]; exact h))
    · exact evaluateForced_ended (.inr (by rw [drive]; exact h))
    · refine evaluateForced_without ?_
      rw [drive, show (s.onDrive i (Drive.rest st)).interlock = s.interlock from State.setDrive_interlock _ _ _]
      exact h
  unfold State.comeToRest
  rw [stays, drive]

/-- Elsewhere a forced cause that applies starts its retraction at once (R100, R101). -/
theorem comeToRest_starts {st : DriveState} {c : ForcedCause} (l : s.life.operating = true) (f : (s.drive i).forced = none)
    (h : forcedCauseOf (s.drive i).fn s.interlock = some c) (w : st = .extended ∨ st = .parked ∨ st = .unknown) :
    (s.comeToRest i st).drive i = ((s.drive i).rest st).forcedRetract s.now c (decide (st = .unknown)) := by
  have drive : (s.onDrive i (Drive.rest st)).drive i = (s.drive i).rest st := State.drive_setDrive _ _ _
  have k := evaluateForced_starts (s := s.onDrive i (Drive.rest st)) (i := i) (c := c) (by rw [State.onDrive_life]; exact l)
    (by rw [drive]; exact f)
    (by rw [drive, show (s.onDrive i (Drive.rest st)).interlock = s.interlock from State.setDrive_interlock _ _ _]; exact h)
    (by rw [drive]; exact w)
  rw [drive, show (s.onDrive i (Drive.rest st)).now = s.now from State.setDrive_now _ _ _] at k
  exact k

theorem moved_endBraking (s : State) (i : DriveId) : Moved i s (s.endBraking i) := by
  unfold State.endBraking
  split
  · exact moved_comeToRest s i .parked
  · exact moved_setDrive s i _ rfl
  · split
    · exact moved_setDrive s i _ rfl
    · exact moved_comeToRest s i .parked

theorem State.endBraking_life (s : State) (i : DriveId) : (s.endBraking i).life = s.life := by
  unfold State.endBraking
  split
  · exact s.comeToRest_life i .parked
  · exact s.onDrive_life i _
  · split
    · exact s.onDrive_life i _
    · exact s.comeToRest_life i .parked

theorem endBraking_retract (h : (s.drive i).direction = some .retract) :
    (s.endBraking i).drive i = (s.drive i).travel s.now .retract := by
  unfold State.endBraking
  rw [h]
  exact State.drive_setDrive _ _ _

theorem endBraking_extend (h : (s.drive i).direction = some .extend) (r : extendRefusal (s.drive i).fn s.interlock = none) :
    (s.endBraking i).drive i = (s.drive i).travel s.now .extend := by
  unfold State.endBraking
  rw [h]
  dsimp only
  rw [if_pos r]
  exact State.drive_setDrive _ _ _

theorem endBraking_parks (h : (s.drive i).direction = none ∨
    ((s.drive i).direction = some .extend ∧ extendRefusal (s.drive i).fn s.interlock ≠ none)) :
    s.endBraking i = s.comeToRest i .parked := by
  unfold State.endBraking
  rcases h with h | ⟨h, r⟩
  · rw [h]
  · rw [h]
    exact if_neg r

end

/-- Settles O32: by direction and refusal a full travel or PARKED, and the drive moves on so through what follows. -/
theorem brakingEndsInItsDirection : Obligations.BrakingEndsInItsDirection := by
  rintro s i w at_ _ sound rfl braking timer rfl
  have awake : s.life ≠ .dormant := sound.awake (i := i) (by rw [braking]; rfl)
  set v := s.reach w with hv
  have drive : v.drive i = s.drive i := by cases i <;> rfl
  have life : (v.endBraking i).life = s.life := v.endBraking_life i
  obtain ⟨at_i, after⟩ := wakeForForced_drive (t := v.endBraking i) v (by rw [life]; exact awake) i
  set u := wakeForForced v (v.endBraking i) with hu
  have moved : Moved i v u := (moved_endBraking v i).wakeForForced v
  have run : exec (.brakeTimerExpiry i) s = .next u.finish :=
    congrArg Host.Outcome.next ((if_pos braking).trans (onExpiry_of timer))
  have motion (n : (u.drive i).state ≠ .waitGrant) : (u.finish.drive i).motion = (u.drive i).motion :=
    finish_motion (by rw [after, life]; exact awake) n
  rw [at_i] at motion
  have c : Composes [.clock, .drives] := by simp [Composes]
  refine ⟨u.finish, run, ?_, fun d => ?_, fun d r => ?_, fun d free => ?_, fun d c forced f l => ?_, moved.finish,
    Changes.after c (by simp) (((frame_reach s w).widen (by simp)).trans c (moved.1.widen (by simp))) (by simp)⟩
  · rw [finish_now, show _ = _ from moved.1 .clock (by simp)]
    rfl
  · rw [endBraking_retract (by rw [drive]; exact d), drive] at motion
    obtain ⟨h1, _, _, _, _, h6, _, h8, _, h10⟩ := Drive.motion_eq_iff.1 (motion nofun)
    exact ⟨h1, h6, h8, h10⟩
  · rw [endBraking_extend (by rw [drive]; exact d) (by rw [drive]; exact r), drive] at motion
    obtain ⟨h1, _, _, _, _, _, _, h8, _, h10⟩ := Drive.motion_eq_iff.1 (motion nofun)
    exact ⟨h1, h8, h10⟩
  · rw [endBraking_parks (by rw [drive]; exact d), comeToRest_stays (by rw [drive]; exact .inr (.inr free))] at motion
    obtain ⟨h1, _, _, _, _, _, _, h8, _⟩ := Drive.motion_eq_iff.1 (motion nofun)
    exact ⟨h1, h8⟩
  · have starts := comeToRest_starts (s := v) (i := i) (st := .parked) (c := c)
      (by rcases l with l | l <;> rw [show v.life = s.life from rfl, l] <;> rfl) (by rw [drive]; exact f)
      (by rw [drive]; exact forced) (.inr (.inl rfl))
    rw [endBraking_parks (by rw [drive]; exact d), starts, drive] at motion
    obtain ⟨h1, _, _, _, _, h6, _, h8, _⟩ := Drive.motion_eq_iff.1 (motion nofun)
    exact ⟨h1, h6, h8⟩

/-! ### The end of a wait -/

/-- A waiting answer that finds room joins the FIFO (R94). -/
theorem resolve_answers {s : State} {i : DriveId} {r : Requester} (code : AnswerCode) (w : (s.drive i).slot = .waiting r)
    (room : s.fifoHasRoom = true) :
    (s.resolve i code).answers = s.answers ++ [(r.addr, [r.fn, r.inst, r.action, byteOf code.code])] := by
  unfold State.resolve
  rw [w]
  dsimp only
  rw [if_pos room]
  have roomAfter : (s.onDrive i fun d => { d with slot := .empty }).fifoHasRoom = true := by
    unfold State.fifoHasRoom State.onDrive
    rw [State.setDrive_ts]
    exact room
  unfold State.place
  rw [if_pos roomAfter]
  simp only [State.answers, State.onDrive, State.setDrive_ts, List.map_append, List.map_cons, List.map_nil]
  rfl

/-- Settles O33: the answer resolves, the drive leaves the list and comes to rest at its origin. -/
theorem waitEndsAtItsOrigin : Obligations.WaitEndsAtItsOrigin := by
  rintro s i w _ o sound rfl wait timer origin forced from_
  have awake : s.life ≠ .dormant := sound.awake (i := i) (by rw [wait]; rfl)
  set v := s.reach w with hv
  have drive : v.drive i = s.drive i := by cases i <;> rfl
  set x := v.resolve i .refusedLowPower with hx
  obtain ⟨sl, resolved⟩ := v.drive_resolve i .refusedLowPower
  rw [drive, ← hx] at resolved
  set y := x.leaveGrantList i with hy
  have ydrive : y.drive i = { s.drive i with slot := sl } := (State.drive_leaveGrantList x i i).trans resolved
  have rests : x.returnToOrigin i = y.comeToRest i o := by
    unfold State.returnToOrigin
    rw [resolved]
    dsimp only
    rw [origin]
    rfl
  have yframe : Frame [] v y := (frame_resolve v i _).trans (by simp [Composes]) (frame_leaveGrantList x i)
  have ylife : y.life = s.life := (State.resolve_life v i .refusedLowPower : x.life = v.life)
  have life : (y.comeToRest i o).life = s.life := (State.comeToRest_life y i o).trans ylife
  obtain ⟨at_i, after⟩ := wakeForForced_drive (t := y.comeToRest i o) v (by rw [life]; exact awake) i
  set u := wakeForForced v (y.comeToRest i o) with hu
  have moved : Moved i v u := ((Moved.of_frame yframe i).trans (moved_comeToRest y i o)).wakeForForced v
  have run : exec (.grantWaitTimerExpiry i) s = .next u.finish := by
    refine congrArg Host.Outcome.next ((if_pos wait).trans ((onExpiry_of timer).trans ?_))
    rw [hu, ← rests]
  have motion (n : (u.drive i).state ≠ .waitGrant) : (u.finish.drive i).motion = (u.drive i).motion :=
    finish_motion (by rw [after, life]; exact awake) n
  rw [at_i] at motion
  have inter : y.interlock = s.interlock := yframe .interlock (by simp)
  have now : y.now = max s.now w := yframe .clock (by simp)
  have c : Composes [.clock, .drives] := by simp [Composes]
  refine ⟨u.finish, run, ?_, fun g m => ?_, fun stays => ?_, fun leaves c cause l => ?_, fun r slot room => ?_, moved.finish,
    Changes.after c (by simp) (((frame_reach s w).widen (by simp)).trans c (moved.1.widen (by simp))) (by simp)⟩
  · rw [finish_now, show _ = _ from moved.1 .clock (by simp)]
    rfl
  · have k : Frame [.drives] y u := ((moved_comeToRest y i o).wakeForForced v).1
    have m := k .grants (by simp) g ((finish_changes u).1 .grants (by simp) g m)
    simpa using (List.mem_filter.1 (show g ∈ x.lb.grants.filter fun g => g.drive ≠ i from m)).2
  · have st : o ≠ .waitGrant := by rcases from_ with rfl | rfl | rfl | rfl | rfl <;> nofun
    rw [comeToRest_stays (by rw [ydrive, inter]; exact stays)] at motion
    obtain ⟨h1, _, h3, _, _, _, h7, _⟩ := Drive.motion_eq_iff.1 (motion st)
    exact ⟨h1, h3, h7⟩
  · have starts := comeToRest_starts (s := y) (i := i) (st := o) (c := c)
      (by rcases l with l | l <;> rw [ylife, l] <;> rfl) (by rw [ydrive]; exact forced) (by rw [ydrive, inter]; exact cause) leaves
    rw [starts] at motion
    obtain ⟨h1, _, _, _, h5, h6, _⟩ := Drive.motion_eq_iff.1 (motion nofun)
    refine ⟨h1, h6, ?_⟩
    rw [h5]
    exact decide_eq_true_iff
  · have placed := resolve_answers (s := v) (i := i) .refusedLowPower (by rw [drive]; exact slot) room
    have kept : x.answers <+: u.finish.answers :=
      (((frame_leaveGrantList x i).widen (by simp)).trans (by simp [Composes])
        ((moved_comeToRest y i o).wakeForForced v).1 .answers (by simp) : Same .answers x u).trans
        ((finish_changes u).1 .answers (by simp))
    rw [hx, placed] at kept
    exact kept

end Sys2Proof.Machine
end

section
/-! PROOFS. O34 and O36: gusts and the Travel line. -/

namespace Sys2Proof.Machine

/-! ### The view after an event -/

section
variable (s : State)

@[simp] theorem finish_interlockNow : s.finish.interlockNow = s.interlockNow := by
  unfold State.interlockNow State.ignitionActive State.speedActive State.peerFlag State.routed State.switchActive State.entryOf
  rw [finish_pt, finish_sfe, finish_gust, finish_trv]

/-- After an interlock event and what follows, the view is that of its inputs. -/
theorem interlockEvent_finish : s.interlockEvent.finish.interlock = s.interlockNow ∧
    s.interlockEvent.finish.interlockNow = s.interlockNow := by
  obtain ⟨h1, h2⟩ := interlockEvent_current s
  rw [finish_interlock, finish_interlockNow]
  exact ⟨h1, h2⟩

theorem flags_of_active {s : State} (h : s.life.active = true) : s.finish.nc.flags =
    { drive := s.finish.ownDrive
      driveSrc := s.finish.ownDriveSource
      wind := s.finish.gust.lockout.isSome
      frost := s.finish.wf.fresh.heats || s.finish.wf.grey.heats
      dumped := s.finish.wf.fresh = .dumped
      freshEmpty := s.finish.wf.freshEmpty
      greyFull := s.finish.wf.greyFull
      overdraw := s.finish.lb.overdraw
      cut := s.finish.lb.cutUsed
      island := s.finish.island
      noBattery := s.finish.noBattery
      dormant := s.finish.life = .dormant
      hello := s.finish.ts.hello
      overflow := s.finish.od.overflow
      sensorFault := s.finish.sensorFault
      channelFault := s.finish.channelFault } := by
  rw [show s.finish.nc.flags = _ from finish_flags s]
  exact if_pos (finish_active s h)

end

/-- An event that changes gusts, inputs or the Travel line, then the view. -/
theorem interlock_changes {c : List Block} {s v : State} (n : Composes c) (m : .inbound ∉ c) (l : .life ∉ c) (f : Frame c s v)
    (i : [.interlock, .drives] ⊆ c) : Changes c s v.interlockEvent.finish :=
  Changes.after n m (f.trans n ((frame_interlockEvent v).widen i)) l

/-! ### Gusts -/

/-- Settles O34: the window's update, then an interlock event; pulses only count. -/
theorem gustsLockTheAwning : Obligations.GustsLockTheAwning := by
  intro s active
  have c : Composes [.clock, .gust, .interlock, .drives] := by simp [Composes]
  refine ⟨fun e h => ?window, fun e h => ?lockout, fun r => congrArg Host.Outcome.next (if_pos ⟨active, r⟩),
    fun r => congrArg Host.Outcome.next (if_neg fun k => by rw [r] at k; cases k.2)⟩
  case window =>
    set v := if s.routed .anemometer then min 65535 (s.gust.pulses * s.gust.kWind) else 0 with hv
    set g : GustDetector := { s.gust with
      speed := v, pulses := 0, windowEnd := some (max s.now e + 3000),
      lockout := if s.gust.threshold ≤ v then some (max s.now e + s.gust.lockoutTime * 1000) else s.gust.lockout } with hg
    set u : State := { s.reach e with gust := g } with hu
    have run : exec .gustWindowEnd s = .next u.interlockEvent.finish :=
      congrArg Host.Outcome.next ((if_pos active).trans (onExpiry_of h))
    have f := frame_interlockEvent u
    have gust : u.interlockEvent.finish.gust = g := by rw [finish_gust]; exact f .gust (by simp)
    obtain ⟨view, current⟩ := interlockEvent_finish u
    refine ⟨_, v, run, ?_, rfl, gust, view.trans current.symm, fun strong => ?_,
      interlock_changes c (by simp) (by simp)
        (((frame_reach s e).widen (by simp)).trans c ((frame_gust (s.reach e) g).widen (by simp))) (by simp)⟩
    · rw [finish_now, show _ = _ from f .clock (by simp)]; rfl
    · have locked : g.lockout.isSome = true := by rw [hg]; dsimp only; rw [if_pos strong]; rfl
      refine ⟨?_, ?_⟩
      · rw [view]
        show (g.lockout.isSome || _) = true
        rw [locked, Bool.true_or]
      · rw [flags_of_active (active_of_frame f (by simp) active)]
        show Option.isSome _ = true
        rw [gust, locked]
  case lockout =>
    set u : State := { s.reach e with gust := { s.gust with lockout := none } } with hu
    have run : exec .gustLockoutExpiry s = .next u.interlockEvent.finish := congrArg Host.Outcome.next (onExpiry_of h)
    have f := frame_interlockEvent u
    have gust : u.interlockEvent.finish.gust = { s.gust with lockout := none } := by
      rw [finish_gust]; exact f .gust (by simp)
    obtain ⟨view, current⟩ := interlockEvent_finish u
    refine ⟨_, run, ?_, gust, view.trans current.symm, ?_, ?_,
      interlock_changes c (by simp) (by simp)
        (((frame_reach s e).widen (by simp)).trans c ((frame_gust (s.reach e) _).widen (by simp))) (by simp)⟩
    · rw [finish_now, show _ = _ from f .clock (by simp)]; rfl
    · rw [view]
      show (false || s.peerFlag _) = true ↔ _
      rw [Bool.false_or]
    · rw [flags_of_active (active_of_frame f (by simp) active)]
      show Option.isSome _ = false
      rw [gust]
      rfl

/-! ### The Travel line -/

section
variable {s : State} {i : DriveId}

theorem State.stopUnsourced_life (s : State) (i : DriveId) : (s.stopUnsourced i).life = s.life := by
  unfold State.stopUnsourced
  dsimp only
  split
  · exact s.comeToRest_life i .parked
  · rfl

theorem wakeForForced_life {t : State} (s : State) (l : t.life ≠ .dormant) : (wakeForForced s t).life = t.life :=
  (wakeForForced_drive s l .ma).2

/-- An interlock event keeps the life state of a node that is not DORMANT. -/
theorem interlockEvent_life (l : s.life ≠ .dormant) : s.interlockEvent.life = s.life := by
  rcases frame_interlockEvent s .life (by simp) with e | ⟨e, _⟩
  · exact e
  · exact absurd e l

/-- A new view forces a drive that stands away from RETRACTED into a retraction at once (R98, R100, R101). -/
theorem interlockEvent_forces {c : ForcedCause} (l : s.life.operating = true) (awake : s.life ≠ .dormant)
    (n : s.interlockNow ≠ s.interlock) (f : (s.drive i).forced = none)
    (st : (s.drive i).state = .extended ∨ (s.drive i).state = .parked)
    (h : forcedCauseOf (s.drive i).fn s.interlockNow = some c) :
    s.interlockEvent.drive i = (s.drive i).forcedRetract s.now c false := by
  set v : State := { s with interlock := s.interlockNow } with hv
  set y := (v.stopUnsourced .ma).stopUnsourced .mb with hy
  have vdrive (j : DriveId) : v.drive j = s.drive j := by cases j <;> rfl
  have idle : (v.drive i).state.busy = false := by rw [vdrive]; rcases st with st | st <;> rw [st] <;> rfl
  have fy : Frame [.drives] v y :=
    (moved_stopUnsourced v .ma).1.trans (by simp [Composes]) (moved_stopUnsourced (v.stopUnsourced .ma) .mb).1
  have ylife : y.life = s.life := (State.stopUnsourced_life _ _).trans (State.stopUnsourced_life _ _)
  have ydrive : y.drive i = s.drive i := by
    rw [← vdrive]
    cases i
    · rw [hy, State.drive_stopUnsourced_ne (i := .mb) (j := .ma) (by simp), stopUnsourced_idle idle]
    · have k : (v.stopUnsourced .ma).drive .mb = v.drive .mb := State.drive_stopUnsourced_ne (by simp)
      rw [hy, stopUnsourced_idle (by rw [k]; exact idle), k]
  have view : y.interlock = s.interlockNow := fy .interlock (by simp)
  have forces (x : State) (xl : x.life = s.life) (xi : x.interlock = s.interlockNow) (xn : x.now = s.now)
      (xd : x.drive i = s.drive i) : (x.evaluateForced i).drive i = (s.drive i).forcedRetract s.now c false := by
    have k := evaluateForced_starts (s := x) (i := i) (c := c) (by rw [xl]; exact l) (by rw [xd]; exact f)
      (by rw [xd, xi]; exact h) (by rw [xd]; exact st.imp_right .inl)
    rw [xd, xn, decide_eq_false (by rcases st with st | st <;> rw [st] <;> nofun)] at k
    exact k
  have both : y.evaluateBothForced.drive i = (s.drive i).forcedRetract s.now c false := by
    have fx := (moved_evaluateForced y .ma).1
    cases i
    · exact (State.drive_evaluateForced_ne (by simp)).trans (forces y ylife view (fy .clock (by simp)) ydrive)
    · exact forces (y.evaluateForced .ma) ((State.evaluateForced_life _ _).trans ylife)
        ((fx .interlock (by simp) : _ = y.interlock).trans view)
        ((fx .clock (by simp) : _ = y.now).trans (fy .clock (by simp)))
        ((State.drive_evaluateForced_ne (by simp)).trans ydrive)
  have event : s.interlockEvent = wakeForForced v y.evaluateBothForced := if_neg n
  have awake' : y.evaluateBothForced.life ≠ .dormant := by rw [State.evaluateBothForced_life, ylife]; exact awake
  rw [event, (wakeForForced_drive v awake' i).1, both]

end

/-- Settles O36: an interlock event, then a wake cause for a line that is asserted. -/
theorem travelLineForcesRetraction : Obligations.TravelLineForcesRetraction := by
  intro s active
  have c : Composes [.travelLine, .interlock, .drives] := by simp [Composes]
  refine ⟨fun h => ?asserted, fun h n => ?released⟩
  case released =>
    set u : State := { s with trv := { s.trv with reading := false } } with hu
    have run : exec (.trvReadingChange false) s = .next u.interlockEvent.finish :=
      congrArg Host.Outcome.next (if_pos ⟨active, by rw [h]; nofun, .inr (by rw [n]; nofun)⟩)
    obtain ⟨view, current⟩ := interlockEvent_finish u
    refine ⟨_, run, ?_, view.trans current.symm,
      interlock_changes c (by simp) (by simp) ((frame_trv s _).widen (by simp)) (by simp)⟩
    rw [finish_trv, show _ = _ from frame_interlockEvent u .travelLine (by simp)]
  case asserted =>
    set u : State := { s with trv := { s.trv with reading := true } } with hu
    set v := u.interlockEvent with hv
    set w := v.wakeCause false with hw
    have run : exec (.trvReadingChange true) s = .next w.finish :=
      congrArg Host.Outcome.next (if_pos ⟨active, by rw [h]; nofun, .inl rfl⟩)
    have fv := frame_interlockEvent u
    have fw := frame_wakeCause false v
    have fu : Frame [.travelLine, .interlock, .drives] s w :=
      (((frame_trv s _).widen (by simp)).trans c (fv.widen (by simp))).trans c (fw.widen (by simp))
    have view : w.finish.interlock = u.interlockNow := by
      rw [finish_interlock, show _ = _ from fw .interlock (by simp)]
      exact (interlockEvent_current u).1
    have current : w.finish.interlockNow = u.interlockNow := by
      rw [finish_interlockNow, interlockNow_congr (fw.widen (by simp))]
      exact (interlockEvent_current u).2
    have now : u.interlockNow.driveActive = true ∧ u.interlockNow.sourceKnown = true := by
      simp [State.interlockNow, hu]
    have awake (l : s.life ≠ .dormant) : v.life = s.life ∧ w.life = s.life := by
      have k : v.life = s.life := interlockEvent_life (s := u) l
      exact ⟨k, ((wakeCause_drive false (by rw [k]; exact l) .ma).2).trans k⟩
    refine ⟨_, run, ?_, view.trans current.symm, by rw [view]; exact now.1, by rw [view]; exact now.2, fun d => ?wakes,
      fun l => ?stays, fun l idle i fn f st => ?forces, Changes.after c (by simp) fu (by simp)⟩
    · rw [finish_trv, show w.trv = v.trv from fw .travelLine (by simp), show v.trv = u.trv from fv .travelLine (by simp)]
    case wakes =>
      have run : w.life = .run := by
        rcases fv .life (by simp) with e | ⟨_, e⟩
        · exact wakeCause_dormant false (e.trans d)
        · exact ((wakeCause_drive false (by rw [e]; nofun) .ma).2).trans e
      rw [finish_life w (by rw [run]; nofun), run]
    case stays =>
      have k := (awake l).2
      rw [finish_life w (by rw [k]; exact l), k]
    case forces =>
      have n : s.life ≠ .dormant := by rcases l with l | l <;> rw [l] <;> nofun
      obtain ⟨vl, wl⟩ := awake n
      have drive : u.drive i = s.drive i := by cases i <;> rfl
      have forced : v.drive i = (s.drive i).forcedRetract s.now .drive false := by
        rw [← drive]
        refine interlockEvent_forces (by rcases l with l | l <;> rw [show u.life = s.life from rfl, l] <;> rfl) n
          (fun e => ?_) (by rw [drive]; exact f) (by rw [drive]; exact st) ?_
        · rw [show u.interlock = s.interlock from rfl] at e
          rw [← e, now.1] at idle
          cases idle
        · rw [drive]
          unfold forcedCauseOf
          cases k : (s.drive i).fn
          case none => exact absurd k fn
          all_goals exact if_pos now.1
      have at_i : w.drive i = (s.drive i).forcedRetract s.now .drive false :=
        ((wakeCause_drive false (by rw [vl]; exact n) i).1).trans forced
      have motion := finish_motion (s := w) (i := i) (by rw [wl]; exact n) (by rw [at_i]; nofun)
      rw [at_i] at motion
      obtain ⟨h1, _, _, _, h5, h6, _, h8, _⟩ := Drive.motion_eq_iff.1 motion
      exact ⟨h1, h6, h5, h8⟩

end Sys2Proof.Machine
end

section
/-! SUPPORT. The Heating unit acts on itself and on the BURNER and BURNER_FAN channels. -/

namespace Sys2Proof.Machine

/-- Nothing but the Heating unit has changed, and BURNER and BURNER_FAN channels, their records standing. -/
structure HeaterAlone (s t : State) : Prop where
  rest : t = { s with sw := t.sw, ht := t.ht }
  others : ∀ i : Fin 8, s.sw[i].heater = false → t.sw[i] = s.sw[i]
  records : ∀ i : Fin 8, t.sw[i].record = s.sw[i].record

theorem State.onBurnerAndFan_get (s : State) (f : Channel → Channel) (i : Fin 8) :
    (s.onBurnerAndFan f).sw[i] = if s.sw[i].heater then f s.sw[i] else s.sw[i] := by
  unfold State.onBurnerAndFan Channel.heater
  simp

namespace HeaterAlone
variable {s t u : State}

theorem refl (s : State) : HeaterAlone s s := ⟨rfl, fun _ _ => rfl, fun _ => rfl⟩

theorem trans (h : HeaterAlone s t) (g : HeaterAlone t u) : HeaterAlone s u where
  rest := by rw [g.rest, h.rest]
  others i n := (g.others i (by rw [Channel.heater_of_record (h.records i), n])).trans (h.others i n)
  records i := (g.records i).trans (h.records i)

theorem heater (h : HeaterAlone s t) (i : Fin 8) : t.sw[i].heater = s.sw[i].heater :=
  Channel.heater_of_record (h.records i)

theorem ite {p : Prop} [Decidable p] (h : p → HeaterAlone s t) (g : HeaterAlone s u) :
    HeaterAlone s (if p then t else u) := by
  split
  · next c => exact h c
  · exact g

/-- As units, with no other block touched. -/
theorem frame (h : HeaterAlone s t) : Frame [.heating, .channels] s t := by
  have rest := h.rest
  intro b n
  cases b <;> simp at n
  case channelRecords => exact h.records
  all_goals rw [rest]; simp [Same, Drive.Stands.refl, State.life, State.answers, State.drive]

theorem life (h : HeaterAlone s t) : t.life = s.life := by rw [h.rest]; rfl
theorem now (h : HeaterAlone s t) : t.now = s.now := by rw [h.rest]
theorem lb (h : HeaterAlone s t) : t.lb = s.lb := by rw [h.rest]

end HeaterAlone

section
variable (s : State)

theorem heater_onHeating (f : Heating → Heating) : HeaterAlone s (s.onHeating f) := ⟨rfl, fun _ _ => rfl, fun _ => rfl⟩

theorem heater_onBurnerAndFan (f : Channel → Channel) (r : ∀ c, (f c).record = c.record) :
    HeaterAlone s (s.onBurnerAndFan f) where
  rest := rfl
  others i n := by rw [State.onBurnerAndFan_get, n]; rfl
  records i := by
    rw [State.onBurnerAndFan_get]
    split
    · exact r _
    · rfl

theorem heater_onFunction (fn : ChFn) (n : fn = .burner ∨ fn = .burnerFan) (f : Channel → Channel)
    (r : ∀ c, (f c).record = c.record) : HeaterAlone s (s.onFunction fn f) where
  rest := rfl
  others i h := by
    rw [State.onFunction_get, if_neg]
    intro e
    have e : s.sw[i].fn = fn := e
    rcases n with n | n <;> rw [Channel.heater, e, n] at h <;> cases h
  records i := by
    rw [State.onFunction_get]
    split
    · exact r _
    · rfl

theorem heater_giveBurnerClass : HeaterAlone s s.giveBurnerClass :=
  .ite (fun _ => heater_onBurnerAndFan s _ fun _ => rfl) (.refl s)

theorem heater_enterFiring : HeaterAlone s s.enterFiring :=
  (heater_onBurnerAndFan s (fun c => { c.requestUntilOff s.now with givenClass := some s.burnerClass }) fun c =>
    Channel.record_of_body (c := c) (d := c.requestUntilOff s.now) (c.requestUntilOff_body s.now)).trans (heater_onHeating _ _)

theorem heater_tryFire : HeaterAlone s s.tryFire := .ite (fun _ => heater_enterFiring s) (.refl s)

theorem heater_abandonFiring : HeaterAlone s s.abandonFiring :=
  (heater_onBurnerAndFan s (fun c => { c.requestOff with givenClass := none }) fun _ => rfl).trans (heater_onHeating _ _)

theorem heater_burnerOff : HeaterAlone s s.burnerOff := by
  refine ((heater_onFunction s .burner (.inl rfl) (fun c => { c.requestOff with givenClass := none }) fun _ => rfl).trans
    (heater_onFunction _ .burnerFan (.inr rfl) (Channel.runOn s.now) fun _ => rfl)).trans ?_
  exact heater_onHeating _ fun h =>
    { h with burner := .runOn, lit := false, minimumOn := none, rest := some (s.now + Config.restMs) }

theorem heater_heatingDisabled : HeaterAlone s s.heatingDisabled :=
  .ite (fun _ => .ite (fun _ => heater_giveBurnerClass s) (.ite (fun _ => heater_burnerOff s) (heater_abandonFiring s)))
    (.refl s)

theorem heater_chooseCabin : HeaterAlone s s.chooseCabin := by
  unfold State.chooseCabin
  split <;> exact heater_onHeating s _

theorem heater_actOnBurner : HeaterAlone s s.actOnBurner := by
  unfold State.actOnBurner
  split
  · exact heater_tryFire s
  · exact .ite (fun _ => heater_giveBurnerClass s) (heater_abandonFiring s)
  · exact .ite (fun _ => heater_burnerOff s) (heater_giveBurnerClass s)
  · exact .refl s
  · exact .refl s

theorem heater_heatingEvaluates : HeaterAlone s s.heatingEvaluates :=
  .ite (fun _ => ((heater_chooseCabin s).trans (heater_onHeating _ _)).trans (heater_actOnBurner _)) (.refl s)

end

end Sys2Proof.Machine
end

section
/-! PROOFS. O42 to O45: what a received telegram does by its filter, its kind and the life state. -/

namespace Sys2Proof.Machine

/-! ### What the filter lets pass (R160) -/

/-- A good telegram from a source that is no station goes no further than the receiver. -/
theorem State.receive_dropped {s : State} {pr : Fin 8} {kind : Nat} {src tgt : Addr} {p : List Byte} {fits : Bool}
    {handle : Bool → State → State} (r : s.receivable = true) (w : p.length ≤ 12) (d : src = 0 ∨ src = 31) :
    s.receive kind src tgt (sent pr kind src tgt p) fits handle = s.onLink LinkController.readTelegram := by
  have v : (s.onLink LinkController.readTelegram).verdict src tgt = .dropped := if_pos d
  unfold State.receive State.filter
  rw [State.readIn_sent r w, v]

theorem State.verdict_clash {s : State} {own : Addr} (tgt : Addr) (a : s.ownAddr = some own) (z : own ≠ 0) (o : own ≠ 31) :
    (s.onLink LinkController.readTelegram).verdict own tgt = .clash := by
  have a' : (s.onLink LinkController.readTelegram).ownAddr = some own := a
  simp [State.verdict, z, o, a']

/-- One with the node's own address is a clash (R31). -/
theorem State.receive_clash {s : State} {pr : Fin 8} {kind : Nat} {own tgt : Addr} {p : List Byte} {fits : Bool}
    {handle : Bool → State → State} (r : s.receivable = true) (w : p.length ≤ 12) (a : s.ownAddr = some own) (z : own ≠ 0)
    (o : own ≠ 31) :
    s.receive kind own tgt (sent pr kind own tgt p) fits handle = (s.onLink LinkController.readTelegram).clash.finish := by
  unfold State.receive State.filter
  rw [State.readIn_sent r w, State.verdict_clash tgt a z o]

/-! ### O43: telegrams that are ignored -/

/-- Settles O43, by the verdict of the filter and the length of the kind. -/
theorem ignoredTelegramsChangeNothing : Obligations.IgnoredTelegramsChangeNothing := by
  intro s src tgt pr p w
  refine ⟨fun h c hc => ?_, fun h n => ?_, fun kind r n => ?_, fun r d c hc => ?_⟩
  · refine ⟨s.heard, ?_, rfl, by simp [Heard, State.heard, State.driveHeard, State.onLink, LinkController.readTelegram, State.life]⟩
    have unfit {kind : Nat} {fits : Bool} {handle : Bool → State → State} (no : fits = false) :
        s.receive kind src tgt (sent pr kind src tgt p) fits handle = s.heard := by
      rw [no]; exact State.receive_unfit h w
    rcases hc with ⟨rfl, n⟩ | ⟨rfl, n⟩ | ⟨rfl, n⟩ | ⟨rfl, n⟩ | ⟨rfl, n⟩ | ⟨rfl, n⟩ | ⟨rfl, n⟩ | ⟨rfl, n⟩ <;>
      refine congrArg Host.Outcome.next (unfit ?_)
    case inr.inr.inr.inr.inr.inr.inl =>
      have n' : ¬ 2 ≤ p.length := by omega
      simp [sent, n']
    all_goals exact decide_eq_false n
  · refine ⟨s.heard.finish, ?_, heard_of_frame (Frame.refl [] _) (by simp),
      Changes.after (by simp [Composes]) (by simp) (frame_heard s) (by simp)⟩
    refine congrArg Host.Outcome.next ?_
    have fits : decide ((sent pr kindAnswer src tgt p).payload.length = 4) = true := decide_eq_true n
    rw [fits]
    exact State.receive_handled h w
  · refine congrArg Host.Outcome.next ((State.readIn_sent r w).trans ?_)
    have v : (s.onLink LinkController.readTelegram).verdict src tgt ≠ .clash := by
      have a : (s.onLink LinkController.readTelegram).ownAddr ≠ some src := n
      unfold State.verdict
      rw [if_neg a]
      repeat' split
      all_goals nofun
    dsimp only
    split
    · next e => exact absurd e v
    all_goals rfl
  · simp only [List.mem_cons, List.not_mem_nil, or_false] at hc
    rcases hc with rfl | rfl | rfl | rfl | rfl | rfl | rfl | rfl <;>
      exact congrArg Host.Outcome.next (State.receive_dropped r w d)

end Sys2Proof.Machine
end

section
/-! PROOFS. O42: the entry to LISTEN_ONLY and the clash. -/

namespace Sys2Proof.Machine

/-- A frame after a wider one. -/
theorem Frame.seq {c d : List Block} {s t u : State} (h : Frame c s t) (n : Composes c) (g : Frame d t u) (i : d ⊆ c) :
    Frame c s u := h.trans n (g.widen i)

theorem frame_node (s : State) (n : NodeControl) (l : n.life = s.nc.life) : Frame [.node] s { s with nc := n } := by
  intro b m
  cases b <;> simp at m
  case channels => exact same_channels rfl rfl
  all_goals simp [Same, Drive.Stands.refl, State.life, State.answers, State.drive, l]

/-- The units start: one evaluation of the Heating unit, and their marks (R129, R178). -/
theorem frame_startUnits (s : State) : Frame [.node, .heating, .channels] s s.startUnits := by
  have c : Composes [.node, .heating, .channels] := by simp [Composes]
  exact ((frame_node s { s.nc with started := true } rfl).widen (by simp)).trans c
    (((heater_onHeating _ fun h => { h with
      heaterEnabled := h.params.heaterEnable, frostHoldEnabled := h.params.frostHoldEnable,
      next := some (s.now + Config.evaluationMs) }).trans (heater_heatingEvaluates _)).frame.widen (by simp))

/-- A telegram of its own that it stops leaves its cause pending (R167, R181). -/
theorem frame_stopSending (s : State) : Frame [] s s.stopSending := by
  unfold State.stopSending
  split
  · next v e =>
    intro b _
    cases b
    case channels => exact same_channels rfl rfl
    case causes => exact ServiceCause.le_giveBack v.cause s.ts.pending
    all_goals simp [Same, Drive.Stands.refl, State.life, State.answers, State.drive, State.onCauses]
  · exact Frame.refl _ _

theorem frame_enterListenOnly {s : State} (h : s.od.restartPending = false) :
    Frame [.life, .node, .heating, .channels, .drives, .scheduler] s s.enterListenOnly := by
  have c : Composes [.life, .node, .heating, .channels, .drives, .scheduler] := by simp [Composes]
  have enter : Frame [.life, .node, .heating, .channels, .drives, .scheduler] s
      (s.changeLife .listenOnly).stopSending.stopMeasurePeriod.clearStore :=
    ((((frame_changeLife .listenOnly s).widen (by simp)).trans c ((frame_stopSending _).widen (by simp))).trans c
      ((frame_measurePeriod _ none).widen (by simp))).trans c ((frame_clearStore _).widen (by simp))
  have forced (u : State) : Frame [.life, .node, .heating, .channels, .drives, .scheduler] u u.evaluateBothForced :=
    (frame_evaluateBothForced u).widen (by simp)
  have units (u : State) : Frame [.life, .node, .heating, .channels, .drives, .scheduler] u u.startUnits :=
    (frame_startUnits u).widen (by simp)
  unfold State.enterListenOnly
  rw [h]
  dsimp only
  rw [if_neg (by nofun)]
  split
  · exact enter.trans c (forced _)
  · exact (enter.trans c (units _)).trans c (forced _)

theorem State.enterListenOnly_life {s : State} (h : s.od.restartPending = false) : s.enterListenOnly.life = .listenOnly := by
  unfold State.enterListenOnly
  rw [h]
  dsimp only
  rw [if_neg (by nofun), State.evaluateBothForced_life]
  have l : (s.changeLife .listenOnly).stopSending.stopMeasurePeriod.clearStore.life = .listenOnly := by
    have l := s.changeLife_life .listenOnly
    unfold State.stopSending
    split <;> exact l
  split
  · exact l
  · exact (State.startUnits_life _).trans l

/-! ### O42: the node's own address -/

theorem frame_clashMark (s : State) : Frame [.peers] s { s with pt := { s.pt with clash := true } } := frame_peers s _

theorem clash_awake {s : State} (h : s.life = .run ∨ s.life = .dormant) :
    s.clash = ({ s with pt := { s.pt with clash := true } } : State).enterListenOnly := by
  have l : ({ s with pt := { s.pt with clash := true } } : State).life = s.life := rfl
  unfold State.clash
  dsimp only
  rw [l]
  rcases h with h | h <;> rw [h]

theorem clash_else {s : State} (h : s.life ≠ .run) (d : s.life ≠ .dormant) :
    s.clash = { s with pt := { s.pt with clash := true } } := by
  unfold State.clash
  have l : ({ s with pt := { s.pt with clash := true } } : State).life = s.life := rfl
  dsimp only
  rw [l]
  split
  · next e => exact absurd e h
  · next e => exact absurd e d
  · rfl

/-- What a clash keeps (R31, R181). -/
theorem frame_clash {s : State} (h : s.od.restartPending = false) :
    Frame [.life, .node, .peers, .heating, .channels, .drives, .scheduler] s s.clash := by
  have c : Composes [.life, .node, .peers, .heating, .channels, .drives, .scheduler] := by simp [Composes]
  have mark : Frame [.life, .node, .peers, .heating, .channels, .drives, .scheduler] s
      { s with pt := { s.pt with clash := true } } := (frame_clashMark s).widen (by simp)
  by_cases a : s.life = .run ∨ s.life = .dormant
  · rw [clash_awake a]
    exact mark.seq c (frame_enterListenOnly (s := { s with pt := { s.pt with clash := true } }) h) (by simp)
  · rw [not_or] at a
    rw [clash_else a.1 a.2]
    exact mark

theorem clash_pt {s : State} (h : s.od.restartPending = false) : s.clash.pt = { s.pt with clash := true } := by
  by_cases a : s.life = .run ∨ s.life = .dormant
  · rw [clash_awake a]
    exact frame_enterListenOnly (s := { s with pt := { s.pt with clash := true } }) h .peers (by simp)
  · rw [not_or] at a
    rw [clash_else a.1 a.2]

/-- Settles O42. Every kind comes to the same verdict of the filter; the entry to LISTEN_ONLY stops the node's sending. -/
theorem ownAddressIsAClash : Obligations.OwnAddressIsAClash := by
  intro s own tgt pr kind p c r a z o q w hc
  have run : exec c s = .next (s.onLink LinkController.readTelegram).clash.finish := by
    simp only [List.mem_cons, List.not_mem_nil, or_false] at hc
    rcases hc with rfl | rfl | rfl | rfl | rfl | rfl | rfl | rfl | rfl
    case inr.inr.inr.inr.inr.inr.inr.inr =>
      refine congrArg Host.Outcome.next ((State.readIn_sent r w).trans ?_)
      dsimp only
      rw [State.verdict_clash tgt a z o]
    all_goals exact congrArg Host.Outcome.next (State.receive_clash r w a z o)
  generalize hu : s.onLink LinkController.readTelegram = u at run
  have uq : u.od.restartPending = false := by rw [← hu]; exact q
  have ulife : u.life = s.life := by rw [← hu]; rfl
  have ulc : u.lc = s.lc.readTelegram := by rw [← hu]; rfl
  have f : Frame [.link, .life, .node, .peers, .heating, .channels, .drives, .scheduler] s u := by
    rw [← hu]; exact (frame_onLink s _).widen (by simp)
  have f' := f.seq (by simp [Composes]) (frame_clash uq) (by simp)
  have link : u.clash.finish.lc = { u.lc with service := u.clash.finish.lc.service } :=
    (Same.trans_alone (by simp) (frame_clash uq .link (by simp)) ((finish_changes u.clash).1 .link (by simp))).1
  have stays : u.clash.life ≠ .dormant → u.clash.finish.life = u.clash.life := fun n =>
    ((finish_changes u.clash).1 .life (by simp)).resolve_right fun x => n x.1
  refine ⟨_, run, ?_, ?_, ?_, fun l => ?_, fun l => ?_, ?_, ?_, ?_, ?_, ?_⟩
  · rw [finish_pt, clash_pt uq, ← hu]; rfl
  · rw [link, ulc]; rfl
  · rw [link, ulc]; rfl
  · rw [← ulife] at l
    have here : u.clash.life = .listenOnly := by
      rw [clash_awake l]; exact State.enterListenOnly_life (s := { u with pt := { u.pt with clash := true } }) uq
    have there : u.clash.finish.life = .listenOnly := (stays (by rw [here]; nofun)).trans here
    have mute : Mute u.clash.finish := by
      refine mute_finishKeeps.finish (mute_eventKeeps.clash ?_ ?_)
      · rcases l with l | l <;> rw [l] <;> rfl
      · rcases l with l | l <;> exact .ofLife (by rw [l]; rfl)
    refine ⟨there, mute (by rw [there]; rfl), ?_⟩
    simp [State.trvDriven, there]
  · rw [← ulife] at l
    have n : u.life ≠ .run ∧ u.life ≠ .dormant := by rcases l with l | l <;> rw [l] <;> exact ⟨nofun, nofun⟩
    have here : u.clash.life = u.life := by rw [clash_else n.1 n.2]; rfl
    rw [stays (by rw [here]; exact n.2), here, ulife]
  · exact (finish_cc _).trans (f' .charge (by simp))
  · exact (finish_light _).trans (f' .light (by simp))
  · exact (finish_sfe _).trans (f' .sensors (by simp))
  · exact (finish_now _).trans (f' .clock (by simp))
  · exact (finish_pending _).trans (f' .queue (by simp))

end Sys2Proof.Machine
end

section
/-! SUPPORT. The marks of a wake and of a pending store through what follows from an event. -/

namespace Sys2Proof.Machine

/-- What the settling of an event does not touch: WAKE_OUT and MEASURE_DUE, the mark of a quiet wake, a pending store. -/
def State.marks (s : State) : Bool × Option Nat × Bool × Bool := 
  (s.ts.pending.wakeOut, s.nc.quietWake, s.od.storePending, s.ts.pending.measureDue)

theorem syncFlags_marks (s : State) : s.syncFlags.marks = s.marks := by
  unfold State.syncFlags
  split <;> rfl

theorem marks_motionKeeps (m : Bool × Option Nat × Bool × Bool) : MotionKeeps fun t => t.marks = m where
  drive s i d _ h := by cases i <;> exact h

theorem marks_followKeeps (m : Bool × Option Nat × Bool × Bool) : FollowKeeps fun t => t.marks = m where
  toMotionKeeps := marks_motionKeeps m
  locks _ _ h := h
  channels _ _ h := h
  heating s _ h := by rw [(units_heatingReacts s).rest]; exact h
  flags s h := (syncFlags_marks s).trans h

theorem settle_marks (s : State) : s.settle.syncFlags.marks = s.marks :=
  (syncFlags_marks _).trans ((marks_followKeeps s.marks).settle rfl)

theorem afterQueue_marks (s : State) : s.afterQueue.marks = s.marks := by
  have p : s.placeAllKept.marks = s.marks := (marks_motionKeeps s.marks).placeAllKept rfl
  have q (u : State) : u.takeSettings.marks = u.marks := by
    unfold State.takeSettings
    split
    · split
      · split <;> rfl
      · rfl
    · rfl
  have r (u : State) : ({ u with od := u.od.clearOverflow } : State).marks = u.marks := by
    unfold State.marks Dispatcher.clearOverflow
    split <;> rfl
  exact (r _).trans ((q _).trans p)

theorem afterQueue_life (s : State) : s.afterQueue.life = s.life := by
  have q (u : State) : u.takeSettings.life = u.life := by
    unfold State.takeSettings
    split
    · split
      · split <;> rfl
      · rfl
    · rfl
  exact (q _).trans (placeAllKept_life s)

theorem afterQueue_addressedHead (s : State) : s.afterQueue.addressedHead = s.takeSettings.addressedHead := by
  unfold State.addressedHead
  rw [(handed_afterQueue s).1]

/-- The oldest entry wakes the node or ends a store only where it is an addressed OPERATE, in RUN or DORMANT. -/
theorem finish_sleepless {s : State}
    (h : s.takeSettings.addressedHead = false ∨ (s.life ≠ .run ∧ s.life ≠ .dormant)) :
    s.finish = s.afterQueue.settle.syncFlags := by
  have e : s.afterQueue.headWakes = s.afterQueue := by
    unfold State.headWakes
    rcases h with h | ⟨r, d⟩
    · rw [afterQueue_addressedHead, h]; rfl
    · split
      · unfold State.wakeCause
        rw [afterQueue_life]
        split
        · next e => exact absurd e d
        · next e => exact absurd e r
        · rfl
      · rfl
  exact congrArg (fun u : State => u.settle.syncFlags) e

theorem life_followKeeps (l : LifeState) : FollowKeeps fun t => t.life = l where
  drive s i d _ h := by cases i <;> exact h
  locks _ _ h := h
  channels _ _ h := h
  heating s _ h := (units_heatingReacts s).life.trans h
  flags s h := by
    unfold State.syncFlags
    split <;> exact h

/-- Then the life state stands. -/
theorem finish_sleepless_life {s : State}
    (h : s.takeSettings.addressedHead = false ∨ (s.life ≠ .run ∧ s.life ≠ .dormant)) : s.finish.life = s.life := by
  rw [finish_sleepless h]
  exact (life_followKeeps s.life).flags _ ((life_followKeeps s.life).settle (afterQueue_life s))

theorem finish_marks {s : State} (h : s.takeSettings.addressedHead = false ∨ (s.life ≠ .run ∧ s.life ≠ .dormant)) :
    s.finish.marks = s.marks := by
  rw [finish_sleepless h, settle_marks, afterQueue_marks]

/-- A wake cause without WAKE_OUT, in a node that is awake, ends a pending store and nothing else. -/
theorem wakeCause_awake {s : State} (h : s.life ≠ .dormant) :
    s.wakeCause false = s ∨ (s.life = .run ∧ s.wakeCause false = s.clearStore) := by
  have join (u : State) : u.joinWake false = u := if_neg (by simp)
  unfold State.wakeCause
  split
  · next d => exact absurd d h
  · next r =>
    rw [join]
    split
    · exact .inr ⟨r, rfl⟩
    · exact .inl rfl
  · exact .inl rfl

/-- In a node that is awake, what follows from an event raises no WAKE_OUT. -/
theorem finish_wakeOut {s : State} (h : s.life ≠ .dormant) :
    s.finish.ts.pending.wakeOut = s.ts.pending.wakeOut ∧ s.finish.nc.quietWake = s.nc.quietWake := by
  have head : s.afterQueue.headWakes.marks.1 = s.marks.1 ∧ s.afterQueue.headWakes.marks.2.1 = s.marks.2.1 := by
    rw [← afterQueue_marks s]
    unfold State.headWakes
    split
    · rcases wakeCause_awake (s := s.afterQueue) (by rw [afterQueue_life]; exact h) with e | ⟨-, e⟩ <;> rw [e]
      · exact ⟨rfl, rfl⟩
      · exact ⟨rfl, rfl⟩
    · exact ⟨rfl, rfl⟩
  have all : s.finish.marks = s.afterQueue.headWakes.marks := settle_marks _
  exact ⟨(congrArg Prod.fst all).trans head.1, (congrArg (fun m => m.2.1) all).trans head.2⟩

/-! ### Waking -/

theorem evaluateBothForced_without {s : State} (h : ∀ i, forcedCauseOf (s.drive i).fn s.interlock = none) :
    s.evaluateBothForced = s := by
  unfold State.evaluateBothForced
  rw [evaluateForced_without (h .ma), evaluateForced_without (h .mb)]

theorem startedForced_still {s t : State} (a : t.ma = s.ma) (b : t.mb = s.mb) : startedForced s t = false := by
  unfold startedForced
  rw [a, b]
  cases s.ma.forced <;> cases s.mb.forced <;> simp

/-- The wake of a node in which no cause forces a drive (R180). -/
theorem wake_quiet {s : State} (h : ∀ i, forcedCauseOf (s.drive i).fn s.interlock = none) :
    s.wake false = (s.changeLife .run).startMeasurePeriod.setQuietWake (some s.now) := by
  obtain ⟨sv, p, e⟩ := State.changeLife_eq .run s
  have w : ∀ i, forcedCauseOf ((s.changeLife .run).startMeasurePeriod.drive i).fn
      (s.changeLife .run).startMeasurePeriod.interlock = none := by rw [e]; exact h
  unfold State.wake
  dsimp only
  rw [evaluateBothForced_without w, startedForced_still (by rw [e]; rfl) (by rw [e]; rfl)]
  rfl

theorem changeLife_wakeOut {s : State} {l : LifeState} (h : ∀ v, s.lc.service = some v → v.cause ≠ .wakeOut) :
    (s.changeLife l).ts.pending.wakeOut = s.ts.pending.wakeOut := by
  unfold State.changeLife State.returnHeld
  split
  · next v e =>
    split
    · rfl
    · have n := h v e
      show (v.cause.giveBack s.ts.pending).wakeOut = _
      cases c : v.cause with
      | wakeOut => exact absurd c n
      | _ => rfl
  · rfl

theorem wake_measurePeriod (w : Bool) (s : State) : (s.wake w).ts.measurePeriod = some (s.now + 5000) := by
  have m : (s.changeLife .run).startMeasurePeriod.evaluateBothForced.ts.measurePeriod = some (s.now + 5000) := by
    refine ((frame_evaluateBothForced _ .scheduler (by simp)).2.2.2 (State.evaluateBothForced_life _)).trans ?_
    obtain ⟨sv, p, e⟩ := State.changeLife_eq .run s
    rw [e]
    rfl
  unfold State.wake
  dsimp only
  split <;> exact m

end Sys2Proof.Machine
end

section
/-! PROOFS. O44 and O45: OPERATE, SETTINGS and WAKE telegrams. -/

namespace Sys2Proof.Machine

/-! ### The receiver under a handled telegram -/

theorem heard_heard (s : State) : Heard false s s.heard := by
  simp [Heard, State.heard, State.driveHeard, State.onLink, LinkController.readTelegram, State.life]

theorem heard_taken (s : State) : Heard true s s.heard.driveTaken := by
  simp [Heard, State.heard, State.driveHeard, State.driveTaken, State.onLink, LinkController.readTelegram, State.life]

theorem Heard.frame {b : Bool} {c : List Block} {s t u : State} (h : Heard b s t) (f : Frame c t u) (m : .link ∉ c) :
    Heard b s u := by
  have l : u.lc = { t.lc with service := u.lc.service } := (f .link m).1
  unfold Heard at h ⊢
  rw [l, h]

theorem Heard.finish {b : Bool} {s t : State} (h : Heard b s t) : Heard b s t.finish :=
  h.frame (finish_changes t).1 (by simp)

/-! ### The queue -/

theorem frame_driveTaken (s : State) : Frame [.link] s s.driveTaken := frame_onLink s _

theorem State.enqueue_room {s : State} (e : Entry) (n : s.od.iq.length < 6) : s.enqueue e =
    if e.addressed then ({ s with od := { s.od with iq := s.od.iq ++ [e] } } : State).driveTaken
    else { s with od := { s.od with iq := s.od.iq ++ [e] } } := if_pos n

theorem State.enqueue_full {s : State} (e : Entry) (n : 6 ≤ s.od.iq.length) : s.enqueue e =
    { s with od := { s.od with overflow := true } } := if_neg (Nat.not_lt.2 n)

/-- An entry with room joins the end of the queue (R162). -/
theorem State.enqueue_joins {s : State} (e : Entry) (n : s.od.iq.length < 6) :
    (s.enqueue e).od.iq = s.od.iq ++ [e] ∧ (s.enqueue e).od.inHand = s.od.inHand := by
  rw [State.enqueue_room e n]
  split <;> exact ⟨rfl, rfl⟩

theorem State.enqueue_life (s : State) (e : Entry) : (s.enqueue e).life = s.life := by
  unfold State.enqueue
  split
  · dsimp only; split <;> rfl
  · rfl

theorem frame_enqueue (s : State) (e : Entry) : Frame [.inbound, .link] s (s.enqueue e) := by
  have od (d : Dispatcher) (h : d.restartPending = s.od.restartPending ∧ d.storePending = s.od.storePending) :
      Frame [.inbound, .link] s { s with od := d } := (frame_od s d h).widen (by simp)
  unfold State.enqueue
  split
  · dsimp only
    split
    · exact (od { s.od with iq := s.od.iq ++ [e] } ⟨rfl, rfl⟩).seq (by simp [Composes])
        (frame_driveTaken { s with od := { s.od with iq := s.od.iq ++ [e] } }) (by simp)
    · exact od _ ⟨rfl, rfl⟩
  · exact od _ ⟨rfl, rfl⟩

/-- TAKEN is driven for an addressed telegram with room in the queue, HEARD in each case (R161). -/
theorem heard_enqueue (s : State) (e : Entry) :
    (s.od.iq.length < 6 → Heard e.addressed s (s.heard.enqueue e)) ∧
      (6 ≤ s.od.iq.length → Heard false s (s.heard.enqueue e)) := by
  refine ⟨fun n => ?_, fun n => ?_⟩
  · rw [State.enqueue_room e (show s.heard.od.iq.length < 6 from n)]
    cases a : e.addressed
    · exact heard_heard s
    · exact heard_taken s
  · rw [State.enqueue_full e (show 6 ≤ s.heard.od.iq.length from n)]
    exact heard_heard s

/-- Outside COMMISSIONING the queue hands no SETTINGS into hand. -/
theorem finish_queue {s : State} (h : s.life ≠ .commissioning) :
    s.finish.od.iq = dropSettings s.od.iq ∧ s.finish.od.inHand = s.od.inHand := by
  obtain ⟨g1, g2, -⟩ := (finish_changes s).2
  rw [g1, g2]
  unfold State.takeSettings
  rw [if_neg h]
  exact ⟨rfl, rfl⟩

/-- In COMMISSIONING the queue stands while a payload is in hand. -/
theorem finish_holds {s : State} (h : s.life = .commissioning) (i : s.od.inHand ≠ none) :
    s.finish.od.iq = s.od.iq ∧ s.finish.od.inHand = s.od.inHand := by
  obtain ⟨g1, g2, -⟩ := (finish_changes s).2
  rw [g1, g2]
  unfold State.takeSettings
  rw [if_pos h]
  split
  · next e _ => exact absurd e i
  · exact ⟨rfl, rfl⟩

theorem finish_overflow (s : State) : s.finish.od.overflow = (s.od.overflow && !s.finish.od.iq.isEmpty) :=
  (finish_changes s).2.2.2

theorem finish_awake {s : State} (h : s.life ≠ .dormant) : s.finish.life = s.life :=
  ((finish_changes s).1 .life (by simp)).resolve_right fun x => h x.1

/-- The flag of the full queue, where the blocks run (R162). -/
theorem overflow_flag {s : State} (a : s.finish.life.active = true) (o : s.od.overflow = true) (n : s.finish.od.iq ≠ []) :
    s.finish.nc.flags.overflow = true := by
  rw [finish_flags s, State.flagsOf, if_pos a]
  show s.finish.od.overflow = true
  rw [finish_overflow, o]
  simpa using n

theorem exec_operateReceived {s : State} {src tgt : Addr} {pr : Fin 8} {p : List Byte} (h : Handles src tgt s)
    (n : p.length = 5) : exec (.operateReceived src tgt (sent pr kindOperate src tgt p)) s =
      .next (if (s.life = .run ∨ s.life = .dormant) ∧ (decide (tgt ≠ 0) ∨ s.hasFunction (operateOf p)) then
        s.heard.enqueue ⟨true, src, decide (tgt ≠ 0), p⟩ else s.heard).finish := by
  refine congrArg Host.Outcome.next ?_
  have fits : decide ((sent pr kindOperate src tgt p).payload.length = 5) = true := decide_eq_true n
  rw [fits]
  exact State.receive_handled h (by omega)

theorem exec_settingsReceived {s : State} {src tgt : Addr} {pr : Fin 8} {p : List Byte} (h : Handles src tgt s)
    (n : 2 ≤ p.length) (w : p.length ≤ 12) : exec (.settingsReceived src tgt (sent pr kindSettings src tgt p)) s =
      .next (if s.life = .commissioning ∧ decide (tgt ≠ 0) then s.heard.enqueue ⟨false, src, true, p⟩
        else s.heard).finish := by
  refine congrArg Host.Outcome.next ?_
  have fits : (decide (2 ≤ (sent pr kindSettings src tgt p).payload.length) &&
      decide ((sent pr kindSettings src tgt p).payload.length ≤ 12)) = true := by
    simp [sent, n, w]
  rw [fits]
  exact State.receive_handled h w

/-- A telegram that is heard and nothing more. -/
theorem heard_alone (s : State) : Heard false s s.heard.finish ∧ Changes [.link] s s.heard.finish :=
  ⟨(heard_heard s).finish, Changes.after (by simp [Composes]) (by simp) (frame_heard s) (by simp)⟩

theorem frame_enqueued (s : State) (e : Entry) : Frame [.inbound, .link] s (s.heard.enqueue e).finish :=
  (((frame_heard s).widen (by simp)).seq (by simp [Composes]) (frame_enqueue _ e) (by simp)).seq (by simp [Composes])
    (finish_changes _).1 (by simp)

/-- An addressed OPERATE on an empty queue is the oldest entry, and a DORMANT node is then awake (R149). -/
theorem finish_headWakes {s : State} {e : Entry} (l : s.life = .dormant) (q : s.od.iq = [e]) (o : e.operate = true)
    (a : e.addressed = true) : s.finish.life = .run ∧ s.finish.od.iq = [e] := by
  have iq : s.finish.od.iq = [e] := by
    rw [(finish_queue (by rw [l]; nofun)).1, q, dropSettings, if_pos o]
  refine ⟨?_, iq⟩
  rcases (finish_changes s).1 .life (by simp) with k | k
  · have n := headLeft_finish s (k.trans l)
    unfold State.addressedHead at n
    rw [iq] at n
    simp [o, a] at n
  · exact k.2

/-- Settles O44, by the life state, the target and the room of the queue. -/
theorem queueAdmitsRequests : Obligations.QueueAdmitsRequests := by
  intro s src tgt pr p h
  have life (e : Entry) : (s.heard.enqueue e).life = s.life := State.enqueue_life _ e
  have full (e : Entry) (n : 6 ≤ s.od.iq.length) :
      (s.heard.enqueue e).od = { s.od with overflow := true } := by rw [State.enqueue_full e (s := s.heard) n]; rfl
  refine ⟨fun n l f => ?_, fun n l a q => ?_, fun n no => ?_, fun n w l a q => ?_, fun n w l a q i => ?_, fun n w no => ?_⟩
  · have run := exec_operateReceived (pr := pr) h n
    rw [if_pos ⟨l, f.imp_left decide_eq_true⟩] at run
    have nc (e : Entry) : (s.heard.enqueue e).life ≠ .commissioning := by
      rw [life]; rcases l with l | l <;> rw [l] <;> nofun
    obtain ⟨iq, hand⟩ := finish_queue (nc ⟨true, src, decide (tgt ≠ 0), p⟩)
    have fr := frame_enqueued s ⟨true, src, decide (tgt ≠ 0), p⟩
    refine ⟨_, run, fun r => ⟨?_, ((heard_enqueue s _).1 r).finish⟩,
      fun r => ⟨?_, ((heard_enqueue s _).2 r).finish, fun ne => overflow_flag ?_ ?_ ne⟩, ?_, fun r => ?_, fr⟩
    · rw [iq, (State.enqueue_joins (s := s.heard) _ r).1]; rfl
    · rw [iq, full _ r]
    · exact active_of_frame (finish_changes _).1 (by simp) (by rw [life]; rcases l with l | l <;> rw [l] <;> rfl)
    · rw [full _ r]
    · rw [hand]
      by_cases r : s.od.iq.length < 6
      · exact (State.enqueue_joins (s := s.heard) _ r).2
      · rw [full _ (by omega)]
    · rw [finish_awake (by rw [life, r]; nofun), life, r]
  · have run := exec_operateReceived (pr := pr) h n
    rw [if_pos ⟨.inr l, .inl (decide_eq_true a)⟩, decide_eq_true a] at run
    have room : s.od.iq.length < 6 := by rw [q]; decide
    have joined : (s.heard.enqueue ⟨true, src, true, p⟩).od.iq = [⟨true, src, true, p⟩] := by
      rw [(State.enqueue_joins (s := s.heard) _ room).1, show s.heard.od.iq = [] from q]; rfl
    obtain ⟨awake, iq⟩ := finish_headWakes (by rw [life]; exact l) joined rfl rfl
    exact ⟨_, run, awake, iq, ((heard_enqueue s ⟨true, src, true, p⟩).1 room).finish⟩
  · have run := exec_operateReceived (pr := pr) h n
    rw [if_neg ?_] at run
    · exact ⟨_, run, heard_alone s⟩
    · rintro ⟨l, f⟩
      rcases no with k | k | ⟨k, g⟩
      · rcases l with l | l <;> rw [l] at k <;> cases k
      · rcases l with l | l <;> rw [l] at k <;> cases k
      · rw [g] at f; simp [k] at f
  · have run := exec_settingsReceived (pr := pr) h n w
    rw [if_pos ⟨l, decide_eq_true a⟩] at run
    obtain ⟨joined, hand⟩ := State.enqueue_joins (s := s.heard) ⟨false, src, true, p⟩ q
    have lc : (s.heard.enqueue ⟨false, src, true, p⟩).life = .commissioning := by rw [life]; exact l
    refine ⟨_, run, ((heard_enqueue s ⟨false, src, true, p⟩).1 q).finish, fun i => ?_, fun i e => ?_, ?_, frame_enqueued s _⟩
    · obtain ⟨k1, k2⟩ := finish_holds lc (by rw [hand]; exact i)
      rw [k1, k2, joined, hand]
      exact ⟨rfl, rfl⟩
    · obtain ⟨g1, g2, -⟩ := (finish_changes (s.heard.enqueue ⟨false, src, true, p⟩)).2
      rw [g1, g2]
      unfold State.takeSettings
      rw [if_pos lc, joined, hand, show s.heard.od.inHand = none from i, show s.heard.od.iq = [] from e]
      exact ⟨rfl, rfl⟩
    · rw [finish_awake (by rw [lc]; nofun), life]
  · have run := exec_settingsReceived (pr := pr) h n w
    rw [if_pos ⟨l, decide_eq_true a⟩] at run
    have od := full ⟨false, src, true, p⟩ q
    have lc : (s.heard.enqueue ⟨false, src, true, p⟩).life = .commissioning := by rw [life]; exact l
    obtain ⟨k1, k2⟩ := finish_holds lc (by rw [od]; exact i)
    have iq : (s.heard.enqueue ⟨false, src, true, p⟩).finish.od.iq = s.od.iq := by rw [k1, od]
    refine ⟨_, run, ((heard_enqueue s ⟨false, src, true, p⟩).2 q).finish, iq, by rw [k2, od],
      overflow_flag ?_ (by rw [od]) ?_, frame_enqueued s _⟩
    · rw [finish_awake (by rw [lc]; nofun), lc]; rfl
    · rw [iq]; intro e; rw [e] at q; simp at q
  · have run := exec_settingsReceived (pr := pr) h n w
    rw [if_neg ?_] at run
    · exact ⟨_, run, heard_alone s⟩
    · rintro ⟨l, a⟩
      rcases no with k | k
      · exact k l
      · simp [k] at a

/-! ### O45: WAKE -/

/-- The receiver at the handling of a WAKE: TAKEN in RUN and DORMANT where it is addressed (R160). -/
def State.heardWake (addressed : Bool) (s : State) : State :=
  if addressed = true ∧ (s.life = .run ∨ s.life = .dormant) then s.heard.driveTaken else s.heard

theorem heardWake_eq (b : Bool) (s : State) : s.heardWake b = { s with lc := (s.heardWake b).lc } := by
  unfold State.heardWake
  split <;> rfl

theorem frame_heardWake (b : Bool) (s : State) : Frame [.link] s (s.heardWake b) := by
  unfold State.heardWake
  split
  · exact (frame_heard s).seq (by simp [Composes]) (frame_driveTaken _) (by simp)
  · exact frame_heard s

theorem heardWake_service (b : Bool) (s : State) : (s.heardWake b).lc.service = s.lc.service := by
  unfold State.heardWake
  split <;> rfl

theorem heard_heardWake (b : Bool) (s : State) :
    Heard (b && decide (s.life = .run ∨ s.life = .dormant)) s (s.heardWake b) := by
  unfold State.heardWake
  split
  · next c => rw [c.1, decide_eq_true c.2]; exact heard_taken s
  · next c =>
    have e : (b && decide (s.life = .run ∨ s.life = .dormant)) = false := by
      cases b
      · rfl
      · simpa using c
    rw [e]; exact heard_heard s

theorem exec_wakeReceived {s : State} {src tgt : Addr} {pr : Fin 8} (h : Handles src tgt s) :
    exec (.wakeReceived src tgt (sent pr kindWake src tgt [])) s =
      .next ((s.heardWake (decide (tgt ≠ 0))).wakeCause false).finish :=
  congrArg Host.Outcome.next (State.receive_handled h (by simp))

/-- Settles O45, by the life state. -/
theorem wakeTelegramWakes : Obligations.WakeTelegramWakes := by
  intro s src tgt pr h
  generalize hx : s.heardWake (decide (tgt ≠ 0)) = x
  have run := exec_wakeReceived (pr := pr) h
  rw [hx] at run
  have xeq : x = { s with lc := x.lc } := hx ▸ heardWake_eq _ s
  have xservice : x.lc.service = s.lc.service := hx ▸ heardWake_service _ s
  have xlife : x.life = s.life := by rw [xeq]; rfl
  have fx : Frame [.link] s x := hx ▸ frame_heardWake _ s
  have f : Frame [.link] s (x.wakeCause false) := fx.seq (by simp [Composes]) (frame_wakeCause false x) (by simp)
  have woken : s.life = .dormant → x.wakeCause false = x.wake false := fun l => by
    unfold State.wakeCause; rw [xlife, l]
  have awake (n : s.life ≠ .dormant) : (x.wakeCause false).life = s.life ∧
      (x.wakeCause false).ts.pending = s.ts.pending := by
    rcases wakeCause_awake (s := x) (by rw [xlife]; exact n) with e | ⟨-, e⟩ <;> rw [e, xeq] <;> exact ⟨rfl, rfl⟩
  have changes : Changes [.link] s (x.wakeCause false).finish := Changes.after (by simp [Composes]) (by simp) f (by simp)
  refine ⟨_, run, ?_, fun l => ?_, fun l no v => ?_, fun n => ?_, fun l => ?_, fun n d => ?_, ?_⟩
  · have k := heard_heardWake (decide (tgt ≠ 0)) s
    rw [hx] at k
    exact (k.frame (frame_wakeCause false x) (by simp)).finish
  · have r : (x.wakeCause false).life = .run := by rw [woken l]; exact State.wake_life _ _
    have r' := finish_awake (s := x.wakeCause false) (by rw [r]; nofun)
    refine ⟨r'.trans r, (((finish_changes _).1 .scheduler (by simp)).2.2.2 r').trans ?_⟩
    rw [woken l, wake_measurePeriod, xeq]
  · have r : (x.wakeCause false).life ≠ .dormant := by rw [woken l, State.wake_life]; nofun
    have quiet := wake_quiet (s := x) (by rw [xeq]; exact no)
    obtain ⟨o, q⟩ := finish_wakeOut r
    rw [o, q, woken l, quiet]
    exact ⟨(changeLife_wakeOut (by rw [xservice]; exact v)).trans (by rw [xeq]), by rw [xeq]; rfl⟩
  · obtain ⟨l, p⟩ := awake n
    have d : (x.wakeCause false).life ≠ .dormant := by rw [l]; exact n
    exact ⟨(finish_awake d).trans l, by rw [(finish_wakeOut d).1, p], changes⟩
  · refine ((finish_changes _).1 .dispatcher (by simp)).2 ?_
    unfold State.wakeCause
    rw [xlife, l]
    dsimp only
    rw [State.joinWake, if_neg (by simp)]
    split
    · rfl
    · next c => simpa using c
  · have e : x.wakeCause false = x := by
      rcases wakeCause_awake (s := x) (by rw [xlife]; exact d) with e | ⟨r, -⟩
      · exact e
      · exact absurd (xlife.symm.trans r) n
    have m := finish_marks (s := x) (.inr (by rw [xlife]; exact ⟨n, d⟩))
    rw [e]
    exact (congrArg (fun m => m.2.2.1) m).trans (by rw [xeq])
  · exact ⟨changes.1.widen (by simp), changes.2⟩

end Sys2Proof.Machine
end

section
/-! PROOFS. O56: what every OPERATE row does with its entry; absent functions and unknown actions. -/

namespace Sys2Proof.Machine

/-! ### An entry that is taken -/

theorem State.canTake_iff {s : State} {e : Entry} : s.canTake e = true ↔
    e.operate = true ∧ takesOperate s.life e.addressed = true ∧ s.od.storePending = false ∧
      s.od.restartPending = false ∧ (e.addressed = true → s.fifoHasRoom = true ∧ s.keepsAnswer = false) := by
  unfold State.canTake
  cases e.addressed <;> simp [and_assoc]

theorem Entry.addressed_of_requester {e : Entry} (h : e.requester ≠ none) : e.addressed = true := by
  unfold Entry.requester at h
  simp only [ne_eq, ite_eq_right_iff, reduceCtorEq, imp_false, not_not] at h
  exact h

theorem Entry.requester_of_addressed {e : Entry} (h : e.addressed = true) : e.requester =
    some ⟨e.src, (operateOf e.payload).fn, (operateOf e.payload).inst, (operateOf e.payload).action⟩ := if_pos h

theorem Entry.requester_of_broadcast {e : Entry} (h : e.addressed = false) : e.requester = none := if_neg (by simp [h])

/-- The life states in which an entry is taken. -/
theorem life_of_takes {s : State} {e : Entry} (h : s.canTake e = true) :
    s.life = .run ∨ s.life = .listenOnly ∨ (s.life = .dormant ∧ e.addressed = false) := by
  have t := (State.canTake_iff.mp h).2.1
  unfold takesOperate at t
  split at t
  · next l => exact .inl l
  · next l => exact .inr (.inl l)
  · next l => exact .inr (.inr ⟨l, by simpa using t⟩)
  all_goals cases t

theorem active_of_canTake {s : State} {e : Entry} (h : s.canTake e = true) : s.life.active = true :=
  active_of_operating (operating_of_canTake h)

/-! ### Answers -/

/-- An answer finds room where it is placed at once (R145, R165). -/
theorem replied_reply {s u : State} {r : Option Requester} {code : AnswerCode} (room : r ≠ none → s.fifoHasRoom = true)
    (a : u.ts.fifo = s.ts.fifo) : Replied r code s (u.reply r code) := by
  cases r with
  | none =>
    have same : u.answers = s.answers := by rw [State.answers, a]; rfl
    show s.answers <+: u.answers
    rw [same]
  | some q =>
    have full : u.fifoHasRoom = true := by
      rw [State.fifoHasRoom, a]; exact room (by simp)
    show s.answers ++ _ <+: (u.place (q.answer code)).answers
    rw [State.place, if_pos full]
    simp [State.answers, a, Requester.answer, Answer.payload]

theorem Replied.frame {r : Option Requester} {code : AnswerCode} {c : List Block} {s t u : State} (h : Replied r code s t)
    (f : Frame c t u) (m : Block.answers ∉ c) : Replied r code s u := by
  have g : t.answers <+: u.answers := f .answers m
  cases r with
  | none => exact List.IsPrefix.trans h g
  | some q => exact List.IsPrefix.trans h g

theorem Replied.finish {r : Option Requester} {code : AnswerCode} {s t : State} (h : Replied r code s t) :
    Replied r code s t.finish := h.frame (finish_changes t).1 (by simp)

/-- The answer to the entry that is taken. -/
theorem replied_taken {s u : State} {e : Entry} (h : s.canTake e = true) (a : u.ts.fifo = s.ts.fifo) (code : AnswerCode) :
    Replied e.requester code s (u.reply e.requester code).finish :=
  (replied_reply (fun n => ((State.canTake_iff.mp h).2.2.2.2 (Entry.addressed_of_requester n)).1) a).finish

/-! ### The queue after it -/

theorem frame_popEntry (s : State) : Frame [.inbound] s s.popEntry := frame_od s _ ⟨rfl, rfl⟩

/-- The frame of a request that has been served: the entry has left, SETTINGS behind it are discarded. -/
theorem served_of_frame {c : List Block} {s u : State} (n : Composes (.inbound :: c)) (k : s.life ≠ .commissioning)
    (l : Block.life ∉ c) (i : Block.inbound ∉ c) (f : Frame c s.popEntry u) : Served c s u.finish := by
  have f' : Frame (.inbound :: c) s u := ((frame_popEntry s).widen (by simp)).trans n (f.widen (by simp))
  obtain ⟨q, d, -⟩ := f .inbound i
  have nc : u.life ≠ .commissioning := by
    rcases f .life l with e | e
    · rw [e]; exact k
    · rw [e.2]; nofun
  obtain ⟨g1, g2⟩ := finish_queue nc
  exact ⟨f'.seq n (finish_changes u).1 (by simp), by rw [g1, q]; rfl, g2.trans d⟩

theorem commissioning_of_canTake {s : State} {e : Entry} (h : s.canTake e = true) : s.life ≠ .commissioning := by
  rcases life_of_takes h with l | l | ⟨l, -⟩ <;> rw [l] <;> nofun

/-- A request that only answers. -/
theorem served_reply {s : State} {e : Entry} (h : s.canTake e = true) (r : Option Requester) (code : AnswerCode) :
    Served [] s (s.popEntry.reply r code).finish :=
  served_of_frame (by simp [Composes]) (commissioning_of_canTake h) (by simp) (by simp) (frame_reply _ _ _)

/-! ### O56 -/

/-- The rows of the functions table, each a use of one form. -/
theorem exec_operate_row {c : Instr} {fn act : Nat} (h : (c, fn, act) ∈
    [(Instr.lightOn, 2, 1), (.lightOff, 2, 2), (.lightLevel, 2, 3), (.lightTimed, 2, 4), (.auxOn, 3, 1),
     (.auxOff, 3, 2), (.auxTimed, 3, 4), (.pumpOn, 4, 1), (.pumpOff, 4, 2), (.heaterOn, 5, 1), (.heaterOff, 5, 2),
     (.heaterSet, 5, 5), (.heaterFrostHold, 5, 6), (.dumpReset, 6, 7), (.waterResetVolume, 7, 8),
     (.stepExtend, 8, 9), (.stepRetract, 8, 10), (.stepStop, 8, 11), (.awningExtend, 9, 9),
     (.awningRetract, 9, 10), (.awningStop, 9, 11)]) :
    ∃ body, ∀ s, exec c s = .next (s.operate fn act body) := by
  simp only [List.mem_cons, List.not_mem_nil, or_false, Prod.mk.injEq] at h
  rcases h with h | h | h | h | h | h | h | h | h | h | h | h | h | h | h | h | h | h | h | h | h <;>
    obtain ⟨rfl, rfl, rfl⟩ := h <;> exact ⟨_, fun _ => rfl⟩

/-- Settles O56: the answer depends on the function alone, and no request is handed on. -/
theorem unknownRequestsAreAnswered : Obligations.UnknownRequestsAreAnswered := by
  intro s e c fn act
  refine ⟨fun row => ?_, fun q t k => ?_⟩
  · obtain ⟨body, run⟩ := exec_operate_row row
    refine ⟨fun t no => ⟨_, run s, ?_⟩, fun q n => (run s).trans (congrArg Host.Outcome.next (State.operate_left ?_))⟩
    · rw [State.operate_taken t, State.popEntry_hasFunction, no, if_neg (by nofun)]
      exact ⟨replied_taken (u := s.popEntry) t.2.1 rfl _, served_reply t.2.1 _ _⟩
    · rintro e' ⟨q', t, -⟩
      rw [q] at q'
      cases q'
      rw [n] at t
      cases t
  · have row : s.takable (fun o => !o.known) = some e := State.takable_eq_some.mpr ⟨q, t, by simp [k]⟩
    have run : exec .unknownOperateCode s = .next
        (s.popEntry.reply e.requester (if s.popEntry.hasFunction (operateOf e.payload) then .badAction else .noFunction)).finish := by
      show execUnknownOperateCode s = _
      unfold execUnknownOperateCode
      rw [row]
    rw [State.popEntry_hasFunction] at run
    exact ⟨_, run, served_reply t _ _, replied_taken (u := s.popEntry) t rfl _⟩

end Sys2Proof.Machine
end

section
/-! PROOFS. O50 and O51: the LIGHT and AUX rows. -/

namespace Sys2Proof.Machine

/-! ### A request on every channel of a group -/

theorem State.onChannels_at (s : State) (f : Channel → Channel) (i : Fin 8) : (s.onChannels f).sw[i] = f s.sw[i] := by
  simp

theorem frame_onChannels_any (s : State) (f : Channel → Channel) (r : ∀ c, (f c).record = c.record) :
    Frame [.channels] s (s.onChannels f) := by
  intro b n
  cases b <;> simp at n
  case channelRecords =>
    intro i
    rw [State.onChannels_at]
    exact r _
  all_goals simp [Same, Drive.Stands.refl, State.life, State.answers, State.drive]

theorem State.reply_sw (s : State) (r : Option Requester) (code : AnswerCode) : (s.reply r code).sw = s.sw := by
  rw [show s.reply r code = _ from motionAlone_reply s r code]

theorem State.reply_ht (s : State) (r : Option Requester) (code : AnswerCode) : (s.reply r code).ht = s.ht := by
  rw [show s.reply r code = _ from motionAlone_reply s r code]

theorem State.reply_life (s : State) (r : Option Requester) (code : AnswerCode) : (s.reply r code).life = s.life := by
  rw [show s.reply r code = _ from motionAlone_reply s r code]
  rfl

/-- The node after a request that changes channels and is answered. -/
def State.served (f : Channel → Channel) (r : Option Requester) (code : AnswerCode) (s : State) : State :=
  ((s.popEntry.onChannels f).reply r code).finish

/-- What such a request comes to: each channel is kept as the request leaves it. -/
theorem served_channels {s : State} {e : Entry} (t : s.canTake e = true) {f : Channel → Channel} (code : AnswerCode)
    (r : ∀ c, (f c).record = c.record) :
    Served [.channels] s (s.served f e.requester code) ∧ Replied e.requester code s (s.served f e.requester code) ∧
      OutputsCurrent (s.served f e.requester code) ∧
      ∀ i : Fin 8, (f s.sw[i]).Kept (s.ht.burner = .firing) (s.served f e.requester code).sw[i] ∧
        (s.sw[i].heater = false → (s.served f e.requester code).sw[i].core = (f s.sw[i]).core) := by
  have get (i : Fin 8) : ((s.popEntry.onChannels f).reply e.requester code).sw[i] = f s.sw[i] := by
    rw [State.reply_sw, State.onChannels_at]
    rfl
  have burner : ((s.popEntry.onChannels f).reply e.requester code).ht.burner = s.ht.burner := by
    rw [State.reply_ht]
    rfl
  refine ⟨?_, replied_taken (u := s.popEntry.onChannels f) t rfl code, ?_, fun i => ⟨?_, fun h => ?_⟩⟩
  · exact served_of_frame (by simp [Composes]) (commissioning_of_canTake t) (by simp) (by simp)
      ((frame_onChannels_any s.popEntry f r).seq (by simp [Composes]) (frame_reply _ _ _) (by simp))
  · exact finish_outputs _ (by rw [State.reply_life]; exact active_of_canTake t)
  · have k := finish_channel ((s.popEntry.onChannels f).reply e.requester code) i
    rwa [get, burner] at k
  · have k := finish_core (s := (s.popEntry.onChannels f).reply e.requester code) (i := i) fun hot => by
      rw [get, Channel.heater_of_record (r _), h] at hot
      cases hot
    rwa [get] at k

/-- One change on the channels of a function and instance, as one on all channels. -/
def Channel.inGroup (fn : ChFn) (inst : Nat) (f : Channel → Channel) (c : Channel) : Channel :=
  if c.fn = fn ∧ c.inst = inst then f c else c

theorem Channel.inGroup_record {fn : ChFn} {inst : Nat} {f : Channel → Channel} (r : ∀ c, (f c).record = c.record) (c : Channel) :
    (c.inGroup fn inst f).record = c.record := by
  unfold Channel.inGroup
  split
  · exact r c
  · rfl

theorem requestGroup_eq (fn : ChFn) (f : Channel → Channel) (o : Operate) (r : Option Requester) (s : State) :
    (s.popEntry.requestGroup fn f o r).finish =
      s.served (Channel.inGroup fn o.inst.toNat fun c => if c.state = .fault then c else f c) r
        (if s.groupTakes fn o.inst.toNat then .done else .refusedFault) := rfl

theorem offGroup_eq (fn : ChFn) (o : Operate) (r : Option Requester) (s : State) :
    (s.popEntry.offGroup fn o r).finish =
      s.served (Channel.inGroup fn o.inst.toNat fun c => if c.state = .fault then c.clearFault else c.endRequest s.now) r
        .done := rfl

/-! ### O50: requests on -/

/-- A request on with an end timer and, for a dimmable channel, a target. -/
def Channel.putOn (now : Nat) (t : Timer) (aim : Option Nat) (c : Channel) : Channel :=
  match aim with
  | some n => (c.requestWith now t).aim now n
  | none => c.requestWith now t

section
variable {c : Channel} {now : Nat} {t : Timer}

theorem Channel.putOn_record (aim : Option Nat) : (c.putOn now t aim).record = c.record := by
  unfold Channel.putOn
  split
  · exact Channel.record_of_body ((Channel.aim_body _ _ _).trans (Channel.requestWith_body _ _ _))
  · exact Channel.record_of_body (Channel.requestWith_body _ _ _)

theorem Channel.putOn_body (aim : Option Nat) : (c.putOn now t aim).body = c.body := by
  unfold Channel.putOn
  split
  · exact (Channel.aim_body _ _ _).trans (Channel.requestWith_body _ _ _)
  · exact Channel.requestWith_body _ _ _

/-- A target above 0 changes level and fade alone (R79). -/
theorem Channel.setTarget_lit {iv n : Nat} (l : 0 < n) : c.setTarget now iv n = { c with
    target := n, current := (c.setTarget now iv n).current, fadeTimer := (c.setTarget now iv n).fadeTimer,
    fadeInterval := (c.setTarget now iv n).fadeInterval } := by
  have stays : ∀ d : Channel, d.target = n → d.endFade = d := fun d h => if_neg fun k => by rw [h] at k; omega
  unfold Channel.setTarget
  split
  next h => rw [h.1]
  · split
    · rw [stays { c with target := n, fadeTimer := none, fadeInterval := iv } rfl]
    · split
      · rw [stays { c with target := n, current := n, fadeTimer := none, fadeInterval := iv } rfl]
      · rfl

/-- What a request on does to a channel outside FAULT (R60, R64, R65, R78). -/
theorem Channel.putOn_spec {aim : Option Nat} (h : c.state ≠ .fault) (l : ∀ n, aim = some n → 0 < n) :
    (c.putOn now t aim).request = true ∧ (c.putOn now t aim).endTimer = t ∧
      (c.putOn now t aim).timedRequest = t.isSome ∧
      (c.mode = .cycle → c.request = false →
        (c.putOn now t aim).cycleOn = true ∧ (c.putOn now t aim).cycleStart = now ∧
          (c.putOn now t aim).cycleTimer = some (now + c.a * 1000)) ∧
      (c.dimmable = false ∨ aim = none →
        (c.putOn now t aim).target = c.target ∧ (c.putOn now t aim).current = c.current) ∧
      (c.dimmable = true → ∀ n, aim = some n → (c.putOn now t aim).target = n ∧
        (n ≠ c.target → n ≠ c.current →
          (0 < c.fade → (c.putOn now t aim).fadeTimer = some (now + c.fade) ∧
            (c.putOn now t aim).current = c.current) ∧
          (c.fade = 0 → (c.putOn now t aim).current = n))) := by
  obtain ⟨r1, r2, r3, r4, r5, r6, -, r8⟩ := Channel.requestWith_spec (now := now) h t
  have cyc : c.mode = .cycle → c.request = false → (c.requestWith now t).cycleOn = true ∧
      (c.requestWith now t).cycleStart = now ∧ (c.requestWith now t).cycleTimer = some (now + c.a * 1000) := fun m r => by
    have start : c.cycleRequest now = c.startPeriod now := if_pos ⟨m, by simp [r]⟩
    rw [Channel.requestWith, if_neg h, start]
    exact ⟨rfl, rfl, rfl⟩
  have plain : aim = none ∨ c.dimmable = false → c.putOn now t aim = c.requestWith now t := by
    have dim : (c.requestWith now t).dimmable = c.dimmable :=
      (Channel.record_eq_iff.1 (Channel.record_of_body r8)).2.2.2.2.2.1
    rintro (rfl | d)
    · rfl
    · cases aim with
      | none => rfl
      | some n => exact if_neg (by rw [dim, d]; nofun)
  by_cases p : aim = none ∨ c.dimmable = false
  · rw [plain p]
    refine ⟨r1, r2, r3, cyc, fun _ => ⟨r4, r5⟩, fun d n a => ?_⟩
    rcases p with p | p
    · rw [p] at a; cases a
    · rw [p] at d; cases d
  · rw [not_or] at p
    obtain ⟨n, a⟩ := Option.ne_none_iff_exists'.1 p.1
    have dim : c.dimmable = true := by simpa using p.2
    have fields := Channel.record_eq_iff.1 (Channel.record_of_body r8)
    have led : c.putOn now t aim = (c.requestWith now t).setTarget now c.fade n := by
      rw [a]
      refine (if_pos (fields.2.2.2.2.2.1.trans dim)).trans ?_
      rw [fields.2.2.2.2.2.2.2.2.2]
    obtain ⟨-, -, t3⟩ := Channel.setTarget_pos (c := c.requestWith now t) (now := now) (iv := c.fade) (l n a)
    rw [r4, r5] at t3
    have lit := Channel.setTarget_lit (c := c.requestWith now t) (now := now) (iv := c.fade) (l n a)
    rw [← led] at t3 lit
    rw [lit]
    refine ⟨r1, r2, r3, cyc, fun k => ?_, fun _ m b => ?_⟩
    · rcases k with k | k
      · rw [k] at dim; cases dim
      · rw [k] at a; cases a
    · obtain rfl : n = m := Option.some.inj (a.symm.trans b)
      exact ⟨rfl, t3⟩

end

/-- The end timer that a row of LIGHT or AUX gives to a channel (R60, R64, R78, R143). -/
def onTimer (row : Instr) (now : Nat) (o : Operate) (c : Channel) : Timer :=
  if row = .lightTimed ∨ row = .auxTimed then some (now + clampNat 1 3600 o.value * 1000)
  else if row ≠ .lightLevel ∧ c.mode = .timed then some (now + c.a * 1000) else none

/-- The target that a row of LIGHT gives to a dimmable channel (R78). -/
def onAim (row : Instr) (o : Operate) (c : Channel) : Option Nat :=
  if row = .lightOn then some 63
  else if row = .lightLevel then some (min 63 o.value)
  else if row = .lightTimed ∧ c.target = 0 then some 63
  else none

/-- Each row's change of a channel is such a request. -/
theorem onRow_lightOn (now : Nat) (o : Operate) (c : Channel) :
    c.lightOn now = c.putOn now (onTimer .lightOn now o c) (onAim .lightOn o c) := by
  simp [onTimer, onAim, Channel.putOn, Channel.lightOn, Channel.requestOn]

theorem onRow_lightLevel (now : Nat) (o : Operate) (c : Channel) :
    c.lightLevel now (min 63 o.value) = c.putOn now (onTimer .lightLevel now o c) (onAim .lightLevel o c) := by
  simp [onTimer, onAim, Channel.putOn, Channel.lightLevel]

theorem onRow_lightTimed (now : Nat) (o : Operate) (c : Channel) :
    c.lightTimed now o.duration = c.putOn now (onTimer .lightTimed now o c) (onAim .lightTimed o c) := by
  by_cases z : c.target = 0 <;>
    simp [onTimer, onAim, Channel.putOn, Channel.lightTimed, Channel.requestTimed, Operate.duration, z]

theorem onRow_auxOn (now : Nat) (o : Operate) (c : Channel) :
    c.requestOn now = c.putOn now (onTimer .auxOn now o c) (onAim .auxOn o c) := by
  simp [onTimer, onAim, Channel.putOn, Channel.requestOn]

theorem onRow_auxTimed (now : Nat) (o : Operate) (c : Channel) :
    c.requestTimed now o.duration = c.putOn now (onTimer .auxTimed now o c) (onAim .auxTimed o c) := by
  simp [onTimer, onAim, Channel.putOn, Channel.requestTimed, Operate.duration]

theorem exec_onRow {row : Instr} {fn act : Nat} {f : ChFn} (h : (row, fn, act, f) ∈
    [(Instr.lightOn, 2, 1, ChFn.light), (.lightLevel, 2, 3, .light), (.lightTimed, 2, 4, .light), (.auxOn, 3, 1, .aux),
      (.auxTimed, 3, 4, .aux)]) {s : State} {e : Entry} {o : Operate} (ho : o = operateOf e.payload) (k : Takes fn act e s)
    (own : s.hasFunction o = true) (n : row = .lightLevel → o.value ≠ 0) :
    exec row s =
      .next (s.popEntry.requestGroup f (fun c => c.putOn s.now (onTimer row s.now o c) (onAim row o c)) o e.requester).finish := by
  subst ho
  have taken (body : Operate → Option Requester → State → State) :
      s.operate fn act body = (body (operateOf e.payload) e.requester s.popEntry).finish := by
    rw [State.operate_taken k, State.popEntry_hasFunction, own]
    rfl
  have group (f : ChFn) {g g' : Channel → Channel} (same : ∀ c, g c = g' c) :
      (s.popEntry.requestGroup f g (operateOf e.payload) e.requester).finish =
        (s.popEntry.requestGroup f g' (operateOf e.payload) e.requester).finish := by
    rw [show g = g' from funext same]
  simp only [List.mem_cons, List.not_mem_nil, or_false, Prod.mk.injEq] at h
  rcases h with ⟨rfl, rfl, rfl, rfl⟩ | ⟨rfl, rfl, rfl, rfl⟩ | ⟨rfl, rfl, rfl, rfl⟩ | ⟨rfl, rfl, rfl, rfl⟩ | ⟨rfl, rfl, rfl, rfl⟩
  · exact congrArg Host.Outcome.next ((taken _).trans (group .light (onRow_lightOn _ _)))
  · refine congrArg Host.Outcome.next ((taken _).trans ?_)
    rw [if_neg (n rfl)]
    exact group .light (onRow_lightLevel _ _)
  · exact congrArg Host.Outcome.next ((taken _).trans (group .light (onRow_lightTimed _ _)))
  · exact congrArg Host.Outcome.next ((taken _).trans (group .aux (onRow_auxOn _ _)))
  · exact congrArg Host.Outcome.next ((taken _).trans (group .aux (onRow_auxTimed _ _)))

theorem onAim_pos {row : Instr} {o : Operate} {c : Channel} (n : row = .lightLevel → o.value ≠ 0) {k : Nat}
    (h : onAim row o c = some k) : 0 < k := by
  unfold onAim at h
  split at h
  · cases h; omega
  · split at h
    · next l => have := n l; cases h; omega
    · split at h
      · cases h; omega
      · cases h

theorem onAim_aux {row : Instr} {o : Operate} {c : Channel} (a : row = .auxOn ∨ row = .auxTimed) : onAim row o c = none := by
  rcases a with rfl | rfl <;> simp [onAim]

theorem groupTakes_iff {s : State} {fn : ChFn} {inst : Nat} : s.groupTakes fn inst = true ↔
    ∃ i : Fin 8, s.sw[i].fn = fn ∧ s.sw[i].inst = inst ∧ s.sw[i].state ≠ .fault := by
  unfold State.groupTakes
  rw [State.anyChannel_iff]
  simp [and_assoc]

theorem heater_of_group {c : Channel} {f : ChFn} (h : c.fn = f) (n : f = .light ∨ f = .aux) : c.heater = false := by
  rcases n with rfl | rfl <;> exact Channel.heater_eq_false (by rw [h]; nofun) (by rw [h]; nofun)

/-- Settles O50: the group's channels outside FAULT take the request, and what follows keeps it. -/
theorem onRequestsReachTheGroup : Obligations.OnRequestsReachTheGroup := by
  intro s e o row fn act f ho hrow k own n
  have run := exec_onRow hrow ho k own n
  rw [requestGroup_eq] at run
  have record (c : Channel) : (if c.state = .fault then c
      else c.putOn s.now (onTimer row s.now o c) (onAim row o c)).record = c.record := by
    split
    · rfl
    · exact Channel.putOn_record _
  have group : f = .light ∨ f = .aux := by
    simp only [List.mem_cons, List.not_mem_nil, or_false, Prod.mk.injEq] at hrow
    rcases hrow with ⟨-, -, -, h⟩ | ⟨-, -, -, h⟩ | ⟨-, -, -, h⟩ | ⟨-, -, -, h⟩ | ⟨-, -, -, h⟩ <;> simp [h]
  have auxRow : f = .aux → row = .auxOn ∨ row = .auxTimed := by
    rintro rfl
    have rows : (row = .auxOn ∧ fn = 3 ∧ act = 1) ∨ (row = .auxTimed ∧ fn = 3 ∧ act = 4) := by simpa using hrow
    exact rows.imp (·.1) (·.1)
  have timedRow : f = .light → row = .lightOn ∨ row = .lightLevel ∨ row = .lightTimed := by
    rintro rfl
    have rows : (row = .lightOn ∧ fn = 2 ∧ act = 1) ∨ (row = .lightLevel ∧ fn = 2 ∧ act = 3) ∨
        (row = .lightTimed ∧ fn = 2 ∧ act = 4) := by simpa using hrow
    exact rows.imp (·.1) (.imp (·.1) (·.1))
  obtain ⟨served, replied, -, channels⟩ := served_channels k.2.1
    (if s.groupTakes f o.inst.toNat then .done else .refusedFault) (Channel.inGroup_record (fn := f) (inst := o.inst.toNat) record)
  refine ⟨_, run, served, fun h => ?_, fun h => ?_, fun i h => ?_, fun i hf hi hs => ?_⟩
  · rw [if_pos (groupTakes_iff.2 h)] at replied ⊢
    exact replied
  · have no : s.groupTakes f o.inst.toNat = false := by
      rw [Bool.eq_false_iff, ne_eq, groupTakes_iff]
      rintro ⟨i, hf, hi, hs⟩
      exact hs (h i hf hi)
    rw [no] at replied ⊢
    exact replied
  · have stays : s.sw[i].inGroup f o.inst.toNat (fun c => if c.state = .fault then c
        else c.putOn s.now (onTimer row s.now o c) (onAim row o c)) = s.sw[i] := by
      unfold Channel.inGroup
      split
      next g => exact if_pos (h.resolve_left fun x => x g)
      · rfl
    have kept := (channels i).1
    rwa [stays] at kept
  · have taken : s.sw[i].inGroup f o.inst.toNat (fun c => if c.state = .fault then c
        else c.putOn s.now (onTimer row s.now o c) (onAim row o c)) =
        s.sw[i].putOn s.now (onTimer row s.now o s.sw[i]) (onAim row o s.sw[i]) := (if_pos ⟨hf, hi⟩).trans (if_neg hs)
    obtain ⟨kept, core⟩ := channels i
    rw [taken] at kept core
    obtain ⟨request, timer, timed, target, current, -, cycleOn, cycleStart, -, cycleTimer, fadeTimer, -, -⟩ :=
      Channel.core_eq_iff.1 (core (heater_of_group hf group))
    obtain ⟨p1, p2, p3, p4, p5, p6⟩ := Channel.putOn_spec (now := s.now) (t := onTimer row s.now o s.sw[i]) hs
      fun m h => onAim_pos n h
    refine ⟨request.trans p1, kept.2.2.1.trans (Channel.trips_of_body (Channel.putOn_body _)), ?_, timer.trans p2,
      fun m r => ?_, fun h => ?_, fun d hl m hm => ?_⟩
    · rw [timed, timer, p2, p3]
    · obtain ⟨c1, c2, c3⟩ := p4 m r
      exact ⟨cycleOn.trans c1, cycleStart.trans c2, cycleTimer.trans c3⟩
    · obtain ⟨c1, c2⟩ := p5 (h.imp_right fun a => onAim_aux (auxRow a))
      exact ⟨target.trans c1, current.trans c2⟩
    · by_cases kept0 : row = .lightTimed ∧ s.sw[i].target ≠ 0
      · obtain ⟨rfl, z⟩ := kept0
        rw [if_neg (by nofun), if_neg (by nofun), if_neg z] at hm
        obtain ⟨c1, -⟩ := p5 (.inr (by rw [onAim, if_neg (by nofun), if_neg (by nofun), if_neg fun x => z x.2]))
        exact ⟨(target.trans c1).trans hm.symm, fun ne => absurd hm ne⟩
      · have aim : onAim row o s.sw[i] = some m := by
          rcases timedRow hl with rfl | rfl | rfl
          · simpa [onAim] using hm.symm
          · simpa [onAim] using hm.symm
          · have z : s.sw[i].target = 0 := by simpa using kept0
            rw [if_neg (by nofun), if_neg (by nofun), if_pos z] at hm
            rw [onAim, if_neg (by nofun), if_neg (by nofun), if_pos ⟨rfl, z⟩, hm]
        obtain ⟨c1, c2⟩ := p6 d m aim
        refine ⟨target.trans c1, fun n1 n2 => ⟨fun p => ?_, fun p => current.trans ((c2 n1 n2).2 p)⟩⟩
        obtain ⟨c3, c4⟩ := (c2 n1 n2).1 p
        exact ⟨fadeTimer.trans c3, current.trans c4⟩

/-! ### O51: requests off -/

theorem exec_offRow {row : Instr} {fn act : Nat} {f : ChFn} (h : (row, fn, act, f) ∈
    [(Instr.lightOff, 2, 2, ChFn.light), (.lightLevel, 2, 3, .light), (.auxOff, 3, 2, .aux)]) {s : State} {e : Entry}
    {o : Operate} (ho : o = operateOf e.payload) (k : Takes fn act e s) (own : s.hasFunction o = true)
    (n : row = .lightLevel → o.value = 0) : exec row s = .next (s.popEntry.offGroup f o e.requester).finish := by
  subst ho
  have taken (body : Operate → Option Requester → State → State) :
      s.operate fn act body = (body (operateOf e.payload) e.requester s.popEntry).finish := by
    rw [State.operate_taken k, State.popEntry_hasFunction, own]
    rfl
  simp only [List.mem_cons, List.not_mem_nil, or_false, Prod.mk.injEq] at h
  rcases h with ⟨rfl, rfl, rfl, rfl⟩ | ⟨rfl, rfl, rfl, rfl⟩ | ⟨rfl, rfl, rfl, rfl⟩
  · exact congrArg Host.Outcome.next (taken _)
  · refine congrArg Host.Outcome.next ((taken _).trans ?_)
    rw [if_pos (n rfl)]
  · exact congrArg Host.Outcome.next (taken _)

/-- A cleared fault (R72). -/
theorem Channel.clearFault_spec {c : Channel} (h : c.state = .fault) : c.clearFault.record = c.record ∧
    c.clearFault.state = .off ∧ c.clearFault.request = false ∧ c.clearFault.endTimer = none ∧ c.clearFault.trips = [] ∧
    c.clearFault.target = 0 := by
  unfold Channel.clearFault
  rw [if_pos h]
  exact ⟨rfl, rfl, rfl, rfl, rfl, rfl⟩

/-- Settles O51: an OFF clears FAULT, fades a dimmable channel and ends the request of any other. -/
theorem offRequestsReachTheGroup : Obligations.OffRequestsReachTheGroup := by
  intro s e o row fn act f ho hrow k own n
  have run := exec_offRow hrow ho k own n
  rw [offGroup_eq] at run
  have record (c : Channel) : (if c.state = .fault then c.clearFault else c.endRequest s.now).record = c.record := by
    split
    next h => exact (Channel.clearFault_spec h).1
    · exact (Channel.endRequest_spec c s.now).1
  have group : f = .light ∨ f = .aux := by
    simp only [List.mem_cons, List.not_mem_nil, or_false, Prod.mk.injEq] at hrow
    rcases hrow with ⟨-, -, -, h⟩ | ⟨-, -, -, h⟩ | ⟨-, -, -, h⟩ <;> simp [h]
  obtain ⟨served, replied, outputs, channels⟩ := served_channels k.2.1 .done
    (Channel.inGroup_record (fn := f) (inst := o.inst.toNat) record)
  refine ⟨_, run, served, replied, fun i h => ?_, fun i hf hi => ?_⟩
  · have stays : s.sw[i].inGroup f o.inst.toNat (fun c => if c.state = .fault then c.clearFault else c.endRequest s.now) =
        s.sw[i] := if_neg h
    have kept := (channels i).1
    rwa [stays] at kept
  · have taken : s.sw[i].inGroup f o.inst.toNat (fun c => if c.state = .fault then c.clearFault else c.endRequest s.now) =
        if s.sw[i].state = .fault then s.sw[i].clearFault else s.sw[i].endRequest s.now := if_pos ⟨hf, hi⟩
    obtain ⟨kept, core⟩ := channels i
    have core := core (heater_of_group hf group)
    rw [taken] at kept core
    by_cases hs : s.sw[i].state = .fault
    · rw [if_pos hs] at kept core
      obtain ⟨request, timer, -, target, -⟩ := Channel.core_eq_iff.1 core
      obtain ⟨-, c1, c2, c3, c4, c5⟩ := Channel.clearFault_spec hs
      refine ⟨timer.trans c3, fun _ => ⟨?_, request.trans c2, kept.2.2.1.trans c4, target.trans c5⟩,
        fun x => absurd hs x, fun x => absurd hs x⟩
      have ended := (Channel.ended_of_evaluate (outputs i) kept (request.trans c2)).1
      rw [c1] at ended
      exact ended
    · rw [if_neg hs] at kept core
      obtain ⟨-, c1, c2, c3⟩ := Channel.endRequest_spec s.sw[i] s.now
      obtain ⟨request, timer, -, target, current, -, -, -, -, cycleTimer, fadeTimer, -, -⟩ := Channel.core_eq_iff.1 core
      have tripped : s.sw[i].state = .tripped → (s.sw[i].endRequest s.now).state = .tripped := fun h => by
        rw [h] at c2
        exact ChState.ended_eq_tripped.1 c2
      refine ⟨timer.trans c1, fun x => absurd x hs, fun _ d => ?_, fun _ d => ?_⟩
      · obtain ⟨d1, d2⟩ := c3 d
        refine ⟨request.trans d1, cycleTimer.trans d2, ?_⟩
        rw [(Channel.ended_of_evaluate (outputs i) kept (request.trans d1)).1, c2]
        exact ChState.ended_of_working hs
      · have out : s.sw[i].endRequest s.now = s.sw[i].fadeOut s.now s.sw[i].fade := if_pos d
        rw [out] at request target current fadeTimer kept tripped
        obtain ⟨-, f2, -, -⟩ := Channel.fadeOut_marks (c := s.sw[i]) (now := s.now) (iv := s.sw[i].fade)
        refine ⟨target.trans (Channel.fadeOut_target _ _ _),
          fun t => ⟨kept.2.2.2.2.2.1.2 (tripped t), request.trans (f2 t)⟩, fun z ft => ?_, fun l ft => ⟨fun p => ?_, fun z => ?_⟩⟩
        · rw [request, Channel.fadeOut_ends (.inr ft) (.inl z)]
          rfl
        · have fades := Channel.fadeOut_fades (now := s.now) (iv := s.sw[i].fade) (.inr ft) (Nat.pos_iff_ne_zero.1 l)
            (Nat.pos_iff_ne_zero.1 p)
          rw [fades] at request current fadeTimer
          refine ⟨fadeTimer, current.trans ?_, fun t => request.trans ?_⟩
          · show (if _ then _ else _ : Channel).current = _
            split <;> rfl
          · show (if _ then _ else _ : Channel).request = _
            rw [if_neg t]
        · rw [request, current, Channel.fadeOut_ends (.inr ft) (.inr z)]
          exact ⟨rfl, rfl⟩

end Sys2Proof.Machine
end

section
/-! PROOFS. O52: the PUMP, DUMP and WATER rows. -/

namespace Sys2Proof.Machine

/-- A row of the functions table whose entry is taken and whose function the node has. -/
theorem State.operate_served {s : State} {fn act : Nat} {body : Operate → Option Requester → State → State} {e : Entry}
    (h : Takes fn act e s) (own : s.hasFunction (operateOf e.payload) = true) :
    s.operate fn act body = (body (operateOf e.payload) e.requester s.popEntry).finish := by
  rw [State.operate_taken h, State.popEntry_hasFunction, own]
  rfl

/-- The request that only answers, with what it leaves. -/
theorem answered_taken {s : State} {e : Entry} (t : s.canTake e = true) (code : AnswerCode) :
    Replied e.requester code s (s.popEntry.reply e.requester code).finish ∧
      Served [] s (s.popEntry.reply e.requester code).finish ∧
      ∀ i : Fin 8, s.sw[i].Kept (s.ht.burner = .firing) (s.popEntry.reply e.requester code).finish.sw[i] := by
  have served := served_reply t e.requester code
  exact ⟨replied_taken (u := s.popEntry) t rfl code, served, (served.1 .channels (by simp)).2.2⟩

theorem Served.widen {c d : List Block} {s t : State} (h : Served c s t) (i : c ⊆ d) : Served d s t :=
  ⟨h.1.widen (List.cons_subset_cons _ i), h.2⟩

theorem channelFaulted_eq_false {s : State} {fn : ChFn} :
    s.channelFaulted fn = false ↔ ∀ i : Fin 8, s.sw[i].fn = fn → s.sw[i].state ≠ .fault := by
  rw [Bool.eq_false_iff, ne_eq, State.channelFaulted, State.anyChannel_iff]
  simp

/-! ### PUMP (R115) -/

/-- One change on the channels of a function, as one on all channels. -/
def Channel.ofFn (fn : ChFn) (f : Channel → Channel) (c : Channel) : Channel := if c.fn = fn then f c else c

theorem Channel.ofFn_record {fn : ChFn} {f : Channel → Channel} (r : ∀ c, (f c).record = c.record) (c : Channel) :
    (c.ofFn fn f).record = c.record := by
  unfold Channel.ofFn
  split
  · exact r c
  · rfl

theorem heater_of_pump {c : Channel} (h : c.fn = .pump) : c.heater = false :=
  Channel.heater_eq_false (by rw [h]; nofun) (by rw [h]; nofun)

theorem pumpOn_served {s : State} {e : Entry} (own : s.hasFunction (operateOf e.payload) = true) (k : Takes 4 1 e s) :
    ∃ t, exec .pumpOn s = .next t ∧ Served [.channels] s t ∧
      (s.channelFaulted .pump = true → Replied e.requester .refusedFault s t ∧ Served [] s t) ∧
      (s.channelFaulted .pump = false → s.locksNow.any = true →
        Replied e.requester .refusedLocked s t ∧ Served [] s t) ∧
      (s.channelFaulted .pump = false → s.locksNow.any = false →
        Replied e.requester .done s t ∧
          ∀ i : Fin 8, s.sw[i].fn = .pump → t.sw[i].request = true ∧
            t.sw[i].endTimer = if s.sw[i].mode = .timed then some (s.now + s.sw[i].a * 1000) else none) ∧
      ∀ i : Fin 8, s.sw[i].fn ≠ .pump → s.sw[i].Kept (s.ht.burner = .firing) t.sw[i] := by
  refine ⟨_, congrArg Host.Outcome.next (State.operate_served k own), ?_⟩
  have faulted : s.popEntry.channelFaulted .pump = s.channelFaulted .pump := rfl
  have locks : s.popEntry.locksNow = s.locksNow := rfl
  unfold State.pumpOn
  rw [faulted, locks]
  by_cases f : s.channelFaulted .pump = true
  · rw [if_pos f]
    obtain ⟨replied, served, kept⟩ := answered_taken k.2.1 .refusedFault
    exact ⟨served.widen (by simp), fun _ => ⟨replied, served⟩, fun n => absurd f (by simp [n]),
      fun n => absurd f (by simp [n]), fun i _ => kept i⟩
  · rw [if_neg f]
    by_cases l : s.locksNow.any = true
    · rw [if_pos l]
      obtain ⟨replied, served, kept⟩ := answered_taken k.2.1 .refusedLocked
      exact ⟨served.widen (by simp), fun n => absurd n f, fun _ _ => ⟨replied, served⟩,
        fun _ n => absurd l (by simp [n]), fun i _ => kept i⟩
    · rw [if_neg l]
      have record (c : Channel) : (c.ofFn .pump (Channel.requestOn s.now)).record = c.record :=
        Channel.ofFn_record (fun c => Channel.record_of_body (Channel.requestOn_body c _)) c
      obtain ⟨served, replied, -, channels⟩ := served_channels k.2.1 .done record
      refine ⟨served, fun n => absurd n f, fun _ n => absurd n l, fun _ _ => ⟨replied, fun i p => ?_⟩, fun i p => ?_⟩
      · have well := channelFaulted_eq_false.1 (Bool.eq_false_iff.2 f) i p
        have on : s.sw[i].ofFn .pump (Channel.requestOn s.now) = s.sw[i].requestOn s.now := if_pos p
        obtain ⟨request, timer, -⟩ := Channel.core_eq_iff.1 ((channels i).2 (heater_of_pump p))
        rw [on] at request timer
        obtain ⟨r1, r2, -⟩ := Channel.requestWith_spec (now := s.now) well
          (if s.sw[i].mode = .timed then some (s.now + s.sw[i].a * 1000) else none)
        exact ⟨request.trans r1, timer.trans r2⟩
      · have stays : s.sw[i].ofFn .pump (Channel.requestOn s.now) = s.sw[i] := if_neg p
        have kept := (channels i).1
        rwa [stays] at kept

/-- What an OFF does to a PUMP channel (R72, R115). -/
def Channel.disarm (c : Channel) : Channel := if c.state = .fault then c.clearFault else c.requestOff

theorem Channel.disarm_spec (c : Channel) : c.disarm.record = c.record ∧ c.disarm.request = false ∧
    c.disarm.endTimer = none ∧ c.disarm.state ≠ .fault ∧
    (c.state = .fault → c.disarm.state = .off ∧ c.disarm.trips = []) := by
  unfold Channel.disarm
  split
  next h =>
    obtain ⟨c1, c2, c3, c4, c5, -⟩ := Channel.clearFault_spec h
    exact ⟨c1, c3, c4, by rw [c2]; nofun, fun _ => ⟨c2, c5⟩⟩
  next h =>
    refine ⟨rfl, rfl, rfl, ?_, fun e => absurd e h⟩
    show (if c.state = .on ∨ c.state = .held then ChState.off else c.state) ≠ .fault
    split
    · nofun
    · exact h

theorem pumpOff_served {s : State} {e : Entry} (own : s.hasFunction (operateOf e.payload) = true) (k : Takes 4 2 e s) :
    ∃ t, exec .pumpOff s = .next t ∧ Served [.channels] s t ∧ Replied e.requester .done s t ∧
      (∀ i : Fin 8, s.sw[i].fn = .pump →
        t.sw[i].request = false ∧ t.sw[i].endTimer = none ∧ t.sw[i].duty = 0 ∧
          (s.sw[i].state = .fault → t.sw[i].state = .off ∧ t.sw[i].trips = [])) ∧
      t.wf.locks.fault = false ∧
      ∀ i : Fin 8, s.sw[i].fn ≠ .pump → s.sw[i].Kept (s.ht.burner = .firing) t.sw[i] := by
  have record (c : Channel) : (c.ofFn .pump Channel.disarm).record = c.record :=
    Channel.ofFn_record (fun c => (Channel.disarm_spec c).1) c
  have run : exec .pumpOff s = .next (s.served (Channel.ofFn .pump Channel.disarm) e.requester .done) :=
    congrArg Host.Outcome.next (State.operate_served k own)
  obtain ⟨served, replied, outputs, channels⟩ := served_channels k.2.1 .done record
  have off (i : Fin 8) (p : s.sw[i].fn = .pump) : s.sw[i].ofFn .pump Channel.disarm = s.sw[i].disarm := if_pos p
  have active : (s.served (Channel.ofFn .pump Channel.disarm) e.requester .done).life.active = true :=
    active_of_frame (finish_changes _).1 (by simp) (by rw [State.reply_life]; exact active_of_canTake k.2.1)
  refine ⟨_, run, served, replied, fun i p => ?_, ?_, fun i p => ?_⟩
  · obtain ⟨kept, core⟩ := channels i
    have core := core (heater_of_pump p)
    rw [off i p] at kept core
    obtain ⟨request, timer, -⟩ := Channel.core_eq_iff.1 core
    obtain ⟨-, d2, d3, -, d5⟩ := Channel.disarm_spec s.sw[i]
    obtain ⟨state, dark⟩ := Channel.ended_of_evaluate (outputs i) kept (request.trans d2)
    refine ⟨request.trans d2, timer.trans d3, dark, fun f => ⟨?_, kept.2.2.1.trans (d5 f).2⟩⟩
    rw [(d5 f).1] at state
    exact state
  · rw [show (s.served (Channel.ofFn .pump Channel.disarm) e.requester .done).wf.locks = _ from (locks_finish _ active).1]
    refine channelFaulted_eq_false.2 fun i p => ?_
    have kept := (channels i).1
    have fn : s.sw[i].fn = .pump := (Channel.fn_of_record (kept.1.trans (record _))).symm.trans p
    rw [off i fn] at kept
    exact fun f => (Channel.disarm_spec s.sw[i]).2.2.2.1 (kept.2.2.2.2.1.1 f)
  · have stays : s.sw[i].ofFn .pump Channel.disarm = s.sw[i] := if_neg p
    have kept := (channels i).1
    rwa [stays] at kept

/-! ### DUMP and WATER (R114, R124) -/

/-- A request that changes the tanks' unit alone. -/
theorem water_served {s : State} {e : Entry} (t : s.canTake e = true) (f : WaterFrost → WaterFrost) (code : AnswerCode) :
    Replied e.requester code s ((s.popEntry.onWater f).reply e.requester code).finish ∧
      Served [.water] s ((s.popEntry.onWater f).reply e.requester code).finish ∧
      ((s.popEntry.onWater f).reply e.requester code).finish.wf =
        { f s.wf with locks := ((s.popEntry.onWater f).reply e.requester code).finish.wf.locks } := by
  have answered := frame_reply (s.popEntry.onWater f) e.requester code
  refine ⟨replied_taken (u := s.popEntry.onWater f) t rfl code,
    served_of_frame (by simp [Composes]) (commissioning_of_canTake t) (by simp) (by simp)
      ((frame_onWater s.popEntry f).seq (by simp [Composes]) answered (by simp)), ?_⟩
  have water := (answered.widen (d := [.inbound]) (by simp)).trans (by simp [Composes]) (finish_changes _).1
  exact water .water (by simp)

theorem dumpReset_served {s : State} {e : Entry} (own : s.hasFunction (operateOf e.payload) = true) (k : Takes 6 7 e s) :
    ∃ t, exec .dumpReset s = .next t ∧
      (s.wf.fresh ≠ .dumped → Replied e.requester .already s t ∧ Served [] s t) ∧
      (s.wf.fresh = .dumped → (∀ x, s.temperature .freshT = some x → x < s.wf.params.frostOff) →
        Replied e.requester .refusedLocked s t ∧ Served [] s t) ∧
      (∀ x, s.wf.fresh = .dumped → s.temperature .freshT = some x → s.wf.params.frostOff ≤ x →
        Replied e.requester .done s t ∧ t.wf = { s.wf with fresh := .idle, locks := t.wf.locks } ∧
          t.wf.locks.dumped = false ∧ t.nc.flags.dumped = false ∧ Served [.water] s t) := by
  refine ⟨_, congrArg Host.Outcome.next (State.operate_served k own), ?_⟩
  have fresh : s.popEntry.wf = s.wf := rfl
  have temperature : s.popEntry.temperature .freshT = s.temperature .freshT := rfl
  unfold State.dumpReset
  rw [fresh, temperature]
  have refused (code : AnswerCode) := answered_taken k.2.1 code
  by_cases d : s.wf.fresh = .dumped
  · rw [if_neg (fun n => n d)]
    cases h : s.temperature .freshT with
    | none => exact ⟨fun n => absurd d n, fun _ _ => ⟨(refused _).1, (refused _).2.1⟩, nofun⟩
    | some x =>
      dsimp only
      by_cases w : s.wf.params.frostOff ≤ x
      · rw [if_pos w]
        obtain ⟨replied, served, wf⟩ := water_served k.2.1 (fun w => { w with fresh := .idle }) .done
        refine ⟨fun n => absurd d n, fun _ n => absurd (n x rfl) (by omega), fun _ _ _ _ => ⟨replied, wf, ?_, ?_, served⟩⟩
        · have active : ((s.popEntry.onWater fun w => { w with fresh := .idle }).reply e.requester .done).finish.life.active = true :=
            active_of_frame (finish_changes _).1 (by simp) (by rw [State.reply_life]; exact active_of_canTake k.2.1)
          rw [(locks_finish _ active).1, State.locksNow, wf]
          rfl
        · rw [finish_flags]
          unfold State.flagsOf
          split
          · rw [wf]; rfl
          · rfl
      · rw [if_neg w]
        exact ⟨fun n => absurd d n, fun _ _ => ⟨(refused _).1, (refused _).2.1⟩,
          fun y _ e n => by cases e; exact absurd n w⟩
  · rw [if_pos d]
    exact ⟨fun _ => ⟨(refused _).1, (refused _).2.1⟩, fun e => absurd e d, fun _ e => absurd e d⟩

/-- Settles O52, row by row. -/
theorem waterRequestsAreServed : Obligations.WaterRequestsAreServed := by
  intro s e own
  refine ⟨pumpOn_served own, pumpOff_served own, dumpReset_served own, fun k => ?_⟩
  obtain ⟨replied, served, wf⟩ := water_served k.2.1 (fun w => { w with volume := 0, remainder := 0 }) .done
  exact ⟨_, congrArg Host.Outcome.next (State.operate_served k own), replied, wf, served⟩

end Sys2Proof.Machine
end

section
/-! PROOFS. O59: what every record row does with its record; CURVE and SCENE, and records that are not applied. -/

namespace Sys2Proof.Machine

/-! ### A record that is applied -/

theorem byteAt_take {p : List Byte} {n i : Nat} (h : i < n) : byteAt (p.take n) i = byteAt p i := by
  simp [byteAt, List.getD_eq_getElem?_getD, h]

theorem wordAt_take {p : List Byte} {n i : Nat} (h : i + 1 < n) : wordAt (p.take n) i = wordAt p i := by
  rw [wordAt, wordAt, byteAt_take (by omega), byteAt_take h]

theorem frame_setInHand (s : State) (x : Option (List Byte)) : Frame [.inbound] s (s.setInHand x) :=
  frame_od s _ ⟨rfl, rfl⟩

theorem frame_moveClosing (s : State) : Frame [.node] s s.moveClosing := frame_node s _ rfl

/-- What follows from a record: the blocks that its application changes, the payload at its next record, the closing
timer (R176, R177). -/
theorem applied_of_frame {c : List Block} {n : Nat} {p : List Byte} {s u : State} (m : Composes (.inbound :: .node :: c))
    (k : Block.inbound ∉ c) (q : Block.clock ∉ c) (l : s.life = .commissioning)
    (f : Frame c (s.setInHand (leftOf (p.drop n))) u) (nc : u.nc = s.nc) : Applied c n p s u.moveClosing.finish := by
  have life : u.moveClosing.life = .commissioning := (congrArg NodeControl.life nc).trans l
  have awake : u.moveClosing.life ≠ .dormant := by rw [life]; nofun
  have done := finish_changes u.moveClosing
  have life' : u.moveClosing.finish.life = u.moveClosing.life := finish_awake awake
  obtain ⟨i1, i2, i3⟩ := f .inbound k
  have now : u.now = s.now := f .clock q
  have closed : u.moveClosing.nc = { s.nc with closing := s.nc.closing.map fun e => max e (s.now + 5000) } := by
    show ({ u.nc with closing := _ } : NodeControl) = _
    rw [nc, now]
    rfl
  refine ⟨?_, ?_, life'.trans life, ?_⟩
  · exact ((((frame_setInHand s _).widen (by simp)).seq m f (fun b => by simp +contextual)).seq m (frame_moveClosing u) (by simp)).seq
      m done.1 (by simp)
  · obtain ⟨h1, h2, h3⟩ := done.2
    obtain ⟨e1, e2⟩ := takeSettings_congr (s := s.setInHand (leftOf (p.drop n))) (t := u.moveClosing)
      (life.trans l.symm) i1 i2
    exact ⟨h1.trans e1, h2.trans e2, by rw [h3, show u.moveClosing.od.overflow = _ from i3]⟩
  · have node := done.1 .node (by simp)
    have quiet := (finish_wakeOut awake).2
    rw [show u.moveClosing.finish.nc = { u.moveClosing.nc with
      life := u.moveClosing.life, lifeSince := u.moveClosing.finish.nc.lifeSince,
      quietWake := u.moveClosing.nc.quietWake, flags := u.moveClosing.finish.nc.flags } by
        rw [← quiet, ← life']; exact node]
    show ({ u.moveClosing.nc with
      life := u.moveClosing.nc.life, lifeSince := u.moveClosing.finish.nc.lifeSince,
      quietWake := u.moveClosing.nc.quietWake, flags := u.moveClosing.finish.nc.flags } : NodeControl) = _
    rw [closed]

/-- The state after a record row that is applied. -/
def State.afterRecord (apply : State → State) (n : Nat) (p : List Byte) (s : State) : State :=
  (apply (s.setInHand (leftOf (p.drop n)))).moveClosing.finish

/-- A record that leaves the payload where it stands. -/
theorem handed_setInHand (s : State) (x : Option (List Byte)) :
    Frame [.inbound] s (s.setInHand x).finish ∧ Handed (s.setInHand x) (s.setInHand x).finish :=
  ⟨(frame_setInHand s x).trans (by simp [Composes]) (finish_changes _).1, (finish_changes _).2⟩

/-! ### CURVE and SCENE (R77, R81) -/

theorem curveOf_get (n : Fin 8) (p : List Byte) (v : Vector Nat 64) (i : Fin 64) : (curveOf n.val p v)[i] =
    if i.val / 8 = n.val then bytesNat ((p.drop 2).take 10) / 2 ^ (70 - 10 * (i.val % 8)) % 1024 else v[i] := by
  obtain ⟨n, hn⟩ := n
  obtain ⟨i, hi⟩ := i
  have place (k : Nat) (hk : k < 8) : (8 * n + k = i) ↔ (i / 8 = n ∧ i % 8 = k) := by omega
  have first : (8 * n = i) ↔ (i / 8 = n ∧ i % 8 = 0) := place 0 (by decide)
  simp only [curveOf, List.foldl_cons, List.foldl_nil, Fin.getElem_fin, Vector.getElem_setIfInBounds, bitsAt]
  by_cases q : i / 8 = n
  · rw [if_pos q]
    have r : i % 8 < 8 := Nat.mod_lt _ (by decide)
    interval_cases h : i % 8 <;> simp [place, first, q]
  · rw [if_neg q]
    simp [place, first, q]

theorem sceneOf_get (p : List Byte) (i : Fin 8) :
    (sceneOf p).levels[i] = if byteAt p (i.val + 2) ≤ 63 then byteAt p (i.val + 2) else 255 := by
  fin_cases i <;> rfl

/-- The default curve is floor(1023 i² / 3969), 0 at level 0 (R77). -/
theorem defaultCurve_duty (i : Fin 64) : levelDuty LightUnit.defaultCurve i.val = 1023 * i.val ^ 2 / 3969 := by
  unfold levelDuty
  split
  next z => rw [z]; rfl
  · simp [LightUnit.defaultCurve, List.getD_eq_getElem?_getD, i.isLt]

/-! ### O59 -/

section
variable {s : State} {p : List Byte}

theorem curveRecord_applied (k : Fin 8) (h : Holds 8 12 p s) (b : byteAt p 1 = k.val) :
    ∃ t, exec .curveRecord s = .next t ∧ Applied [.light] 12 p s t ∧
      t.light = { s.light with curve := t.light.curve } ∧
      ∀ i : Fin 64, t.light.curve[i] =
        if i.val / 8 = k.val then bytesNat ((p.drop 2).take 10) / 2 ^ (70 - 10 * (i.val % 8)) % 1024
        else s.light.curve[i] := by
  have range : numberIn 0 7 p = true := by simp [numberIn, b]; omega
  have run := congrArg (Host.Outcome.next (φ := Fault) (ρ := Refusal)) (State.record_applied
    (apply := fun p s => { s with light := { s.light with curve := curveOf (byteAt p 1) p s.light.curve } }) h
    (mine := always) rfl range)
  refine ⟨_, run, applied_of_frame (by simp [Composes]) (by simp) (by simp) h.1 (frame_light _ _) rfl, ?_, fun i => ?_⟩
  · rw [finish_light]; rfl
  · rw [finish_light]
    show (curveOf (byteAt (p.take 12) 1) (p.take 12) s.light.curve)[i] = _
    rw [byteAt_take (by decide), b, curveOf_get]
    congr 4
    rw [List.drop_take, List.take_take]
    rfl

theorem sceneRecord_applied (k : Fin 8) (h : Holds 9 11 p s) (b : byteAt p 1 = k.val + 1) :
    ∃ (t : State) (sc : Scene), exec .sceneRecord s = .next t ∧ Applied [.light] 11 p s t ∧
      t.light = { s.light with scenes := s.light.scenes.set k.val sc k.isLt } ∧ sc.fade = byteAt p 10 ∧
      ∀ i : Fin 8, sc.levels[i] = if byteAt p (i.val + 2) ≤ 63 then byteAt p (i.val + 2) else 255 := by
  have range : numberIn 1 8 p = true := by simp [numberIn, b]
  have run := congrArg (Host.Outcome.next (φ := Fault) (ρ := Refusal)) (State.record_applied
    (apply := fun p s =>
      { s with light := { s.light with scenes := s.light.scenes.setIfInBounds (byteAt p 1 - 1) (sceneOf p) } }) h
    (mine := always) rfl range)
  refine ⟨_, sceneOf (p.take 11), run, applied_of_frame (by simp [Composes]) (by simp) (by simp) h.1 (frame_light _ _) rfl,
    ?_, byteAt_take (by decide), fun i => ?_⟩
  · rw [finish_light]
    show ({ s.light with scenes := s.light.scenes.setIfInBounds (byteAt (p.take 11) 1 - 1) (sceneOf (p.take 11)) } : LightUnit) = _
    rw [byteAt_take (by decide), b]
    simp [Vector.setIfInBounds, Vector.set, Array.setIfInBounds]
  · rw [sceneOf_get, byteAt_take (by omega)]

end

/-- The rows whose record has a number. -/
theorem exec_numbered {c : Instr} {type : Nat} {out : Bool} {p : List Byte} (h : (c, type, out) ∈
    [(Instr.channelRecord, 1, decide (byteAt p 1 = 0 ∨ 10 < byteAt p 1)),
     (.routeRecord, 2, decide (byteAt p 1 = 0 ∨ 12 < byteAt p 1)),
     (.driveRecord, 7, decide (byteAt p 1 = 0 ∨ 2 < byteAt p 1)), (.curveRecord, 8, decide (7 < byteAt p 1)),
     (.sceneRecord, 9, decide (byteAt p 1 = 0 ∨ 8 < byteAt p 1))]) (o : out = true) :
    ∃ mine inRange apply, (∀ s, exec c s = .next (s.record type mine inRange apply)) ∧ mine p = true ∧ inRange p = false := by
  subst o
  simp only [List.mem_cons, List.not_mem_nil, or_false, Prod.mk.injEq, true_eq_decide_iff] at h
  rcases h with ⟨rfl, rfl, o⟩ | ⟨rfl, rfl, o⟩ | ⟨rfl, rfl, o⟩ | ⟨rfl, rfl, o⟩ | ⟨rfl, rfl, o⟩
  case inl => exact ⟨_, _, _, fun _ => rfl, by simp [numberIn]; omega, by simp [numberIn]; omega⟩
  all_goals exact ⟨_, _, _, fun _ => rfl, rfl, by simp [numberIn]; omega⟩

/-- Every record row, with the records it takes. -/
theorem exec_record {c : Instr} {type : Nat} {p : List Byte} (h : (c, type) ∈
    [(if byteAt p 1 = 9 ∨ byteAt p 1 = 10 then Instr.channelRecordDrive else .channelRecord, 1), (.routeRecord, 2),
     (.frostRecord, 3), (.heatRecord, 4), (.batteryARecord, 5), (.batteryVRecord, 6), (.driveRecord, 7),
     (.curveRecord, 8), (.sceneRecord, 9), (.windRecord, 10), (.waterRecord, 11), (.linkRecord, 12),
     (.trvRecord, 13)]) :
    ∃ mine inRange apply, (∀ s, exec c s = .next (s.record type mine inRange apply)) ∧ mine p = true := by
  simp only [List.mem_cons, List.not_mem_nil, or_false, Prod.mk.injEq] at h
  rcases h with ⟨rfl, rfl⟩ | h | h | h | h | h | h | h | h | h | h | h | h
  case inl =>
    split
    next n => exact ⟨_, _, _, fun _ => rfl, by simp [numberIn]; omega⟩
    next n => exact ⟨_, _, _, fun _ => rfl, by simp [numberIn]; omega⟩
  all_goals
    obtain ⟨rfl, rfl⟩ := h
    exact ⟨_, _, _, fun _ => rfl, rfl⟩

/-- Settles O59, record by record. -/
theorem otherRecordsAreApplied : Obligations.OtherRecordsAreApplied := by
  refine ⟨defaultCurve_duty, by decide, fun s p => ⟨fun k h b => curveRecord_applied k h b,
    fun k h b => sceneRecord_applied k h b, fun c type n out h row o => ?_, fun c type n l i e t k w row => ?_, fun l i r => ?_⟩⟩
  · obtain ⟨mine, inRange, apply, run, m, x⟩ := exec_numbered row o
    exact ⟨_, (run s).trans (congrArg Host.Outcome.next (State.record_skipped h m x)), handed_setInHand s _⟩
  · obtain ⟨mine, inRange, apply, run, m⟩ := exec_record row
    exact ⟨_, (run s).trans (congrArg Host.Outcome.next (State.record_cut l i e t k w m)), handed_setInHand s _⟩
  · refine ⟨(s.setInHand none).finish, ?_, handed_setInHand s _⟩
    show execUnknownRecordType s = _
    unfold execUnknownRecordType
    rw [l, i]
    dsimp only
    rw [if_pos r]

end Sys2Proof.Machine
end

section
/-! PROOFS. O57: the limit in force after an event, and the parameter records. -/

namespace Sys2Proof.Machine

/-! ### The limit in force -/

/-- The limit used is that of the present view, and the pair handed on that of the life state. -/
def LimitCurrent (s : State) : Prop :=
  s.lb.lU = s.limitUsed.1 ∧ s.lb.cutUsed = s.limitUsed.2 ∧ s.lb.sEff = effectiveShed s.life s.lb.s ∧
    s.lb.applied = appliedOf s.life s.lb.f

/-- So it is, or a recomputation is called for (R39, R41, R48, R49). -/
def LimitReady (s : State) : Prop := s.lb.trigger = true ∨ LimitCurrent s

theorem LimitReady.of_eq {s t : State} (h : LimitReady s) (l : t.life = s.life) (b : t.lb = s.lb)
    (u : t.limitUsed = s.limitUsed) : LimitReady t := by
  unfold LimitReady LimitCurrent
  rw [l, b, u]
  exact h

theorem limit_finishKeeps : FinishKeeps LimitReady where
  drive s i d _ h := by cases i <;> exact h
  place _ _ _ h := h
  grants _ _ _ := .inl rfl
  wakes s _ _ := .inl (by obtain ⟨sv, p, e⟩ := State.changeLife_eq .run s; rw [e])
  scheduler _ _ _ h := h
  quiet _ _ h := h
  store _ h := h
  settings s h := by
    obtain ⟨d, e⟩ := takeSettings_od s
    rw [e]
    exact h
  overflow _ h := h
  locks _ _ h := h
  budget _ _ _ := .inr ⟨rfl, rfl, rfl, rfl⟩
  channels _ _ h := h
  heating s _ h := by
    have u := units_heatingReacts s
    exact h.of_eq u.life (by rw [u.rest]) (by rw [u.rest]; rfl)
  flags s h := by
    unfold State.syncFlags
    split <;> exact h

/-- In the states in which the blocks run, no recomputation is left to make at the end of an event (R39). -/
theorem finish_settled {s : State} (a : s.life.active = true) : s.finish.callsForRecompute = false := by
  have c := followAll_ends 7 s.dispatch (s.dispatch.callsLeft_le.trans (by decide))
  unfold State.finish State.settle
  rw [if_pos (dispatch_active s a)]
  unfold State.syncFlags
  split <;> exact c

theorem finish_limit {s : State} (a : s.life.active = true) (h : LimitReady s) :
    LimitCurrent s.finish := by
  refine (limit_finishKeeps.finish h).resolve_left fun t => ?_
  have c := finish_settled a
  unfold State.callsForRecompute at c
  rw [t] at c
  cases c

/-! ### O57 -/

section
variable {s : State} {p : List Byte}

/-- A record that is taken whatever its number. -/
theorem record_row {type n : Nat} {apply : List Byte → State → State} (h : Holds type n p s) :
    (.next (s.record type always always apply) : Host.Outcome State Fault Refusal) =
      .next (apply (p.take n) (s.setInHand (leftOf (p.drop n)))).moveClosing.finish :=
  congrArg Host.Outcome.next (State.record_applied h rfl rfl)

theorem finish_wf (u : State) : u.finish.wf = { u.wf with locks := u.finish.wf.locks } :=
  (finish_changes u).1 .water (by simp)

theorem finish_ht (u : State) : u.finish.ht = { u.ht with
    burner := u.finish.ht.burner, lit := u.finish.ht.lit, minimumOn := u.finish.ht.minimumOn, rest := u.finish.ht.rest } :=
  ((finish_changes u).1 .heating (by simp)).1

theorem frostRecord_applied (on : Int) (h : Holds 3 10 p s) (eon : on = clampInt 0 100 (wordAt p 1)) :
    ∃ t, exec .frostRecord s = .next t ∧ Applied [.water] 10 p s t ∧
      t.wf = { s.wf with
        locks := t.wf.locks
        params := { s.wf.params with
          frostOn := on, frostOff := clampInt (on + 10) 150 (wordAt p 3), dumpEnable := decide (byteAt p 5 ≠ 0),
          dumpTemp := clampInt (-50) (min 50 (on - 10)) (signed16 (wordAt p 6)),
          dumpDelay := clampNat 60 3600 (wordAt p 8) } } := by
  subst eon
  refine ⟨_, record_row h, applied_of_frame (by simp [Composes]) (by simp) (by simp) h.1 (frame_onWater _ _) rfl,
    (finish_wf _).trans ?_⟩
  have fields : s.wf.params.ofFrost (p.take 10) = { s.wf.params with
      frostOn := clampInt 0 100 (wordAt p 1), frostOff := clampInt (clampInt 0 100 (wordAt p 1) + 10) 150 (wordAt p 3),
      dumpEnable := decide (byteAt p 5 ≠ 0),
      dumpTemp := clampInt (-50) (min 50 (clampInt 0 100 (wordAt p 1) - 10)) (signed16 (wordAt p 6)),
      dumpDelay := clampNat 60 3600 (wordAt p 8) } := by
    simp [WfParams.ofFrost, yesAt, byteAt_take, wordAt_take]
  show ({ s.wf with params := s.wf.params.ofFrost (p.take 10), locks := _ } : WaterFrost) = _
  rw [fields]

theorem waterRecord_applied (fresh grey ppl : Nat) (h : Holds 11 7 p s) (ef : fresh = min 240 (byteAt p 1))
    (eg : grey = min 240 (byteAt p 3)) (ep : ppl = clampNat 100 5000 (wordAt p 5)) :
    ∃ t, exec .waterRecord s = .next t ∧ Applied [.water] 7 p s t ∧
      t.wf = { s.wf with
        locks := t.wf.locks
        params := { s.wf.params with
          freshREmpty := fresh, freshRFull := clampNat (fresh + 10) 250 (byteAt p 2), greyREmpty := grey,
          greyRFull := clampNat (grey + 10) 250 (byteAt p 4), ppl := ppl }
        volume := if ppl < s.wf.remainder then min 9999999 (s.wf.volume + s.wf.remainder / ppl) else s.wf.volume
        remainder := if ppl < s.wf.remainder then s.wf.remainder % ppl else s.wf.remainder } := by
  refine ⟨_, record_row h, applied_of_frame (by simp [Composes]) (by simp) (by simp) h.1 (frame_onWater _ _) rfl,
    (finish_wf _).trans ?_⟩
  have fields : s.wf.params.ofWater (p.take 7) = { s.wf.params with
      freshREmpty := fresh, freshRFull := clampNat (fresh + 10) 250 (byteAt p 2), greyREmpty := grey,
      greyRFull := clampNat (grey + 10) 250 (byteAt p 4), ppl := ppl } := by
    simp [WfParams.ofWater, byteAt_take, wordAt_take, ef, eg, ep]
  show ({ s.wf.takeWater (p.take 7) with locks := _ } : WaterFrost) = _
  unfold WaterFrost.takeWater
  dsimp only
  rw [fields]
  split <;> rfl

theorem heatRecord_applied (h : Holds 4 8 p s) :
    ∃ t, exec .heatRecord s = .next t ∧ Applied [.heating] 8 p s t ∧
      t.ht = { s.ht with
        params :=
          { setpoint := clampInt 50 300 (wordAt p 1), hyst := clampInt 2 20 (byteAt p 3),
            heaterEnable := decide (byteAt p 4 ≠ 0), frostHoldEnable := decide (byteAt p 5 ≠ 0),
            frostFloor := clampInt 0 100 (wordAt p 6) }
        setpoint := clampInt 50 300 (wordAt p 1), burner := t.ht.burner, lit := t.ht.lit,
        minimumOn := t.ht.minimumOn, rest := t.ht.rest } := by
  refine ⟨_, record_row h, applied_of_frame (by simp [Composes]) (by simp) (by simp) h.1 (frame_onHeating' _ _ rfl) rfl,
    (finish_ht _).trans ?_⟩
  have fields : HtParams.ofRecord (p.take 8) =
      { setpoint := clampInt 50 300 (wordAt p 1), hyst := clampInt 2 20 (byteAt p 3),
        heaterEnable := decide (byteAt p 4 ≠ 0), frostHoldEnable := decide (byteAt p 5 ≠ 0),
        frostFloor := clampInt 0 100 (wordAt p 6) } := by
    simp [HtParams.ofRecord, yesAt, byteAt_take, wordAt_take]
  show ({ s.ht with
    params := HtParams.ofRecord (p.take 8), setpoint := (HtParams.ofRecord (p.take 8)).setpoint, burner := _, lit := _,
    minimumOn := _, rest := _ } : Heating) = _
  rw [fields]

theorem windRecord_applied (h : Holds 10 6 p s) :
    ∃ t, exec .windRecord s = .next t ∧ Applied [.gust] 6 p s t ∧
      t.gust = { s.gust with
        kWind := clampNat 1 50 (byteAt p 1), threshold := clampNat 20 400 (wordAt p 2),
        lockoutTime := clampNat 60 3600 (wordAt p 4) } := by
  refine ⟨_, record_row h, applied_of_frame (by simp [Composes]) (by simp) (by simp) h.1 (frame_gust _ _) rfl,
    (finish_gust _).trans ?_⟩
  show s.gust.ofRecord (p.take 6) = _
  simp [GustDetector.ofRecord, byteAt_take, wordAt_take]

theorem batteryARecord_applied (cNom iMax rLo : Nat) (h : Holds 5 12 p s) (ec : cNom = clampNat 20 800 (wordAt p 1))
    (ei : iMax = min 2000 (wordAt p 4)) (er : rLo = min 98 (byteAt p 8)) :
    ∃ t, exec .batteryARecord s = .next t ∧ Applied [.charge] 12 p s t ∧
      t.cc = { s.cc with
        params := { s.cc.params with
          cNom := cNom, eta := clampNat 80 100 (byteAt p 3), iMax := iMax, iEss := min iMax (wordAt p 6), rLo := rLo,
          rHi := clampNat (rLo + 1) 100 (byteAt p 9), iTail := min 1000 (wordAt p 10) }
        count := s.cc.count.map fun n => if n.capacity = cNom then n else ⟨n.q * cNom / n.capacity, n.f, cNom⟩ } := by
  refine ⟨_, record_row h, applied_of_frame (by simp [Composes]) (by simp) (by simp) h.1 (frame_charge _ _) rfl,
    (finish_cc _).trans ?_⟩
  have fields : s.cc.params.ofA (p.take 12) = { s.cc.params with
      cNom := cNom, eta := clampNat 80 100 (byteAt p 3), iMax := iMax, iEss := min iMax (wordAt p 6), rLo := rLo,
      rHi := clampNat (rLo + 1) 100 (byteAt p 9), iTail := min 1000 (wordAt p 10) } := by
    simp [CcParams.ofA, byteAt_take, wordAt_take, ec, ei, er]
  show s.cc.takeA (p.take 12) = _
  unfold ChargeCounter.takeA
  rw [fields]
  rfl

theorem batteryVRecord_applied (vEmpty : Nat) (h : Holds 6 7 p s) (ev : vEmpty = clampNat 10000 14000 (wordAt p 3)) :
    ∃ t, exec .batteryVRecord s = .next t ∧ Applied [.charge] 7 p s t ∧
      t.cc.params = { s.cc.params with
        vCut := clampNat 10000 13000 (wordAt p 1), vEmpty := vEmpty,
        vFull := clampNat (vEmpty + 100) 16000 (wordAt p 5) } ∧
      (s.cc.estimatedSinceReset = false → t.cc = { s.cc with params := t.cc.params }) ∧
      (s.cc.estimatedSinceReset = true → t.cc = { s.cc with params := t.cc.params }.estimate) := by
  have fields : s.cc.params.ofV (p.take 7) = { s.cc.params with
      vCut := clampNat 10000 13000 (wordAt p 1), vEmpty := vEmpty, vFull := clampNat (vEmpty + 100) 16000 (wordAt p 5) } := by
    simp [CcParams.ofV, wordAt_take, ev]
  have taken : (s.cc.takeV (p.take 7)).params = s.cc.params.ofV (p.take 7) := by
    unfold ChargeCounter.takeV
    split <;> rfl
  obtain ⟨t, run, applied, cc⟩ : ∃ t, exec .batteryVRecord s = .next t ∧ Applied [.charge] 7 p s t ∧
      t.cc = s.cc.takeV (p.take 7) :=
    ⟨_, record_row h, applied_of_frame (by simp [Composes]) (by simp) (by simp) h.1 (frame_charge _ _) rfl, finish_cc _⟩
  refine ⟨t, run, applied, by rw [cc, taken, fields], fun e => ?_, fun e => ?_⟩
  · rw [cc, taken]
    exact if_neg (by simp [e])
  · rw [cc, taken]
    exact if_pos e

theorem linkRecord_applied (h : Holds 12 5 p s) :
    ∃ t, exec .linkRecord s = .next t ∧ Applied [.peers] 5 p s t ∧
      t.pt = { s.pt with lIsland := min 2000 (wordAt p 1), strangerReserve := min 500 (wordAt p 3) } ∧
      (s.pt.view = none → t.pt.lIsland ≠ s.pt.lIsland → t.lb.lU = t.pt.lIsland) := by
  set x := s.setInHand (leftOf (p.drop 5)) with hx
  have frame : Frame [.peers] x (x.applyLink (p.take 5)) := by
    unfold State.applyLink
    dsimp only
    split
    · exact frame_peers x _
    · exact (frame_peers x (PeerTable.ofRecord (p.take 5) x.pt)).seq (by simp [Composes])
        (frame_trigger (x.onPeers (PeerTable.ofRecord (p.take 5)))) (by simp)
  have nc : (x.applyLink (p.take 5)).nc = s.nc := by
    unfold State.applyLink
    dsimp only
    split <;> rfl
  have pt : (x.applyLink (p.take 5)).pt = { s.pt with lIsland := min 2000 (wordAt p 1), strangerReserve := min 500 (wordAt p 3) } := by
    have fields : s.pt.ofRecord (p.take 5) = { s.pt with lIsland := min 2000 (wordAt p 1), strangerReserve := min 500 (wordAt p 3) } := by
      simp [PeerTable.ofRecord, wordAt_take]
    rw [← fields]
    unfold State.applyLink
    dsimp only
    split <;> rfl
  have final : (x.applyLink (p.take 5)).moveClosing.finish.pt = (x.applyLink (p.take 5)).pt := finish_pt _
  refine ⟨_, record_row h, applied_of_frame (by simp [Composes]) (by simp) (by simp) h.1 frame nc, final.trans pt,
    fun view n => ?_⟩
  have triggered : (x.applyLink (p.take 5)).moveClosing.lb.trigger = true := by
    rw [final] at n
    unfold State.applyLink at n ⊢
    dsimp only at n ⊢
    split at n
    next e => exact absurd e n
    next e => rw [if_neg e]; rfl
  have active : (x.applyLink (p.take 5)).moveClosing.life.active = true := by
    rw [show (x.applyLink (p.take 5)).moveClosing.life = s.life from
      show (x.applyLink (p.take 5)).nc.life = s.nc.life from congrArg NodeControl.life nc, h.1]
    rfl
  rw [(finish_limit active (.inl triggered)).1, State.limitUsed, final, pt, show ({ s.pt with
    lIsland := min 2000 (wordAt p 1), strangerReserve := min 500 (wordAt p 3) } : PeerTable).view = none from view]

theorem trvRecord_applied (h : Holds 13 2 p s) :
    ∃ t, exec .trvRecord s = .next t ∧ Applied [.travelLine] 2 p s t ∧
      t.trv = { s.trv with maskIgnition := (byteAt p 1).testBit 1, maskSpeed := (byteAt p 1).testBit 0 } := by
  refine ⟨_, record_row h, applied_of_frame (by simp [Composes]) (by simp) (by simp) h.1 (frame_trv _ _) rfl,
    (finish_trv _).trans ?_⟩
  show s.trv.ofRecord (p.take 2) = _
  simp [TravelLine.ofRecord, byteAt_take]

end

/-- Settles O57, record by record. -/
theorem parameterRecordsAreApplied : Obligations.ParameterRecordsAreApplied := fun _ _ =>
  ⟨frostRecord_applied, waterRecord_applied, heatRecord_applied, windRecord_applied, batteryARecord_applied,
    batteryVRecord_applied, linkRecord_applied, trvRecord_applied⟩

end Sys2Proof.Machine
end

section
/-! PROOFS. O46 and O47: the choice of a cause, and what keeps it. -/

namespace Sys2Proof.Machine

/-! ### O46 -/

/-- A telegram with its check has the check 0 (R153). -/
theorem crc8_check (p : List Byte) : crc8 (p ++ [crc8 p]) = 0 := by
  have zero : (List.range 8).foldl (fun (c : Byte) _ => crcBit c) 0 = 0 := by decide
  show List.foldl crcByte 0 (p ++ [crc8 p]) = 0
  rw [List.foldl_append]
  show (List.range 8).foldl (fun c _ => crcBit c) (crc8 p ^^^ crc8 p) = 0
  rw [BitVec.xor_self]
  exact zero

/-- The rows of R154, in their order: whether the cause is ready, the cause, its priority. -/
def State.causeRows (s : State) (state : ServiceCause) : List (Bool × ServiceCause × Nat) :=
  [(s.life ≠ .commissioning && s.ts.pending.wakeOut, .wakeOut, 0), (s.ts.pending.batteryDue, .batteryDue, 1),
   (s.ts.pending.stateUrgent && s.ts.spacing = none && (s.life ≠ .commissioning || s.ts.hello), state, 2),
   (s.life = .run && !s.ts.fifo.isEmpty, .answerDue, 3),
   (s.life ≠ .commissioning && s.ts.pending.statePeriodic, state, 6), (s.life = .run && s.ts.pending.measureDue, .measureDue, 6)]

/-- The STATE that takes both pending STATE causes (R164). -/
def Causes.stateCause (p : Causes) : ServiceCause := .state p.stateUrgent p.statePeriodic

/-- The first ready row is the front one, where it is ready. -/
theorem firstRow (b : Bool) (c : ServiceCause) (n : Nat) (rows : List (Bool × ServiceCause × Nat)) :
    (((b, c, n) :: rows).find? fun r => r.1).map (fun r => r.2.1) =
      if b then some c else (rows.find? fun r => r.1).map fun r => r.2.1 := by
  cases b <;> rfl

theorem firstRow_some {b : Bool} {x : ServiceCause × Nat} {rows : List (Bool × ServiceCause × Nat)}
    {r : Bool × ServiceCause × Nat} (h : ((b, x) :: rows).find? (fun r => r.1) = some r) :
    (b = true ∧ r.2 = x) ∨ (b = false ∧ rows.find? (fun r => r.1) = some r) := by
  cases b
  · exact .inr ⟨rfl, h⟩
  · exact .inl ⟨rfl, by cases h; rfl⟩

theorem life_of_drivesSlots {l : LifeState} (h : l.drivesSlots = true) : l = .commissioning ∨ l = .run ∨ l = .dormant := by
  cases l <;> simp_all [LifeState.drivesSlots]

/-- What the mask lets into service in the states that send (R163). -/
theorem unmasked_rows {l : LifeState} (hello : Bool) (h : l.drivesSlots = true) : unmasked l hello =
    (⟨decide (l ≠ .commissioning), true, decide (l ≠ .commissioning) || hello, decide (l ≠ .commissioning),
      decide (l = .run)⟩, decide (l = .run)) := by
  rcases life_of_drivesSlots h with rfl | rfl | rfl <;> rfl

theorem urgentReady_rows {s : State} (h : s.life.drivesSlots = true) : s.urgentReady =
    (s.ts.pending.stateUrgent && s.ts.spacing = none && (s.life ≠ .commissioning || s.ts.hello)) := by
  unfold State.urgentReady
  rw [unmasked_rows _ h, Bool.and_assoc, Bool.and_comm]
  cases s.ts.spacing <;> rfl

/-- The mask and the pending set select as the rows do. -/
theorem selectCause_rows {s : State} (h : s.life.drivesSlots = true) :
    s.selectCause = ((s.causeRows s.ts.pending.stateCause).find? fun r => r.1).map fun r => r.2.1 := by
  unfold State.causeRows
  simp only [firstRow, List.find?_nil, Option.map_none]
  unfold State.selectCause
  rw [unmasked_rows _ h, urgentReady_rows h]
  rfl

/-- The priority sent is that of the row, and the cause one of the rows'. -/
theorem priority_rows {s : State} (h : s.life.drivesSlots = true) {c : ServiceCause} {n : Nat}
    (r : ((s.causeRows s.ts.pending.stateCause).find? fun r => r.1) = some (true, c, n)) :
    c.priority s.urgentReady = n ∧ (c = .wakeOut ∨ c = .batteryDue ∨ c = s.ts.pending.stateCause ∨ c = .answerDue ∨
      c = .measureDue) := by
  rw [urgentReady_rows h]
  rcases firstRow_some r with ⟨-, e⟩ | ⟨-, r⟩
  · cases e; exact ⟨rfl, .inl rfl⟩
  rcases firstRow_some r with ⟨-, e⟩ | ⟨-, r⟩
  · cases e; exact ⟨rfl, .inr (.inl rfl)⟩
  rcases firstRow_some r with ⟨u, e⟩ | ⟨u, r⟩
  · cases e; exact ⟨by rw [u]; rfl, .inr (.inr (.inl rfl))⟩
  rcases firstRow_some r with ⟨-, e⟩ | ⟨-, r⟩
  · cases e; exact ⟨rfl, .inr (.inr (.inr (.inl rfl)))⟩
  rcases firstRow_some r with ⟨-, e⟩ | ⟨-, r⟩
  · cases e; exact ⟨by rw [u]; rfl, .inr (.inr (.inl rfl))⟩
  rcases firstRow_some r with ⟨-, e⟩ | ⟨-, r⟩
  · cases e; exact ⟨rfl, .inr (.inr (.inr (.inr rfl)))⟩
  · cases r

/-- A cause that is taken leaves the pending set, a STATE with both of its causes (R164). -/
theorem takeFrom_eq {p : Causes} {c : ServiceCause} (h : c = .wakeOut ∨ c = .batteryDue ∨ c = p.stateCause ∨ c = .answerDue ∨
    c = .measureDue) : c.takeFrom p =
      { wakeOut := p.wakeOut && c ≠ .wakeOut, batteryDue := p.batteryDue && c ≠ .batteryDue,
        stateUrgent := p.stateUrgent && c ≠ p.stateCause, statePeriodic := p.statePeriodic && c ≠ p.stateCause,
        measureDue := p.measureDue && c ≠ .measureDue } := by
  rcases h with rfl | rfl | rfl | rfl | rfl <;> simp [ServiceCause.takeFrom, Causes.stateCause]

/-- Settles O46. -/
theorem causesEnterServiceInOrder : Obligations.CausesEnterServiceInOrder := by
  rintro s own p state rows rfl slots sync idle addr rfl rfl
  have ready : s.life.drivesSlots = true ∧ s.lc.synchronised = true ∧ s.lc.idle = true := ⟨slots, sync, idle⟩
  have select := selectCause_rows slots
  refine ⟨fun free c n first => ?_, fun free first => ?_, fun held busy still => ?_⟩
  · obtain ⟨priority, cause⟩ := priority_rows slots first
    have chosen : s.selectCause = some c := select.trans (congrArg (Option.map fun r => r.2.1) first)
    have run : exec .causeEntersService s = .next ((s.onLink fun l =>
        { l with idle := false, service := some (s.assemble c (c.priority s.urgentReady)) }).onCauses c.takeFrom) := by
      show execCauseEntersService s = _
      unfold execCauseEntersService
      rw [if_pos ready, free, chosen]
    rw [priority] at run
    refine ⟨_, s.assemble c n, run, rfl, rfl, rfl, rfl, ?_, crc8_check _, rfl, rfl, rfl, takeFrom_eq cause⟩
    show telegramBytes n c.kind (s.ownAddr.getD 0) _ _ = _
    rw [addr]
    rfl
  · show execCauseEntersService s = _
    unfold execCauseEntersService
    have none : s.selectCause = none := select.trans (congrArg (Option.map fun r => r.2.1) first)
    rw [if_pos ready, free, none]
  · have run : exec .causeEntersService s =
        .next (s.onLink fun l => { l with idle := false, service := some (s.assemble held.cause held.priority) }) := by
      show execCauseEntersService s = _
      unfold execCauseEntersService
      rw [if_pos ready, busy]
      dsimp only
      rw [still]
      rfl
    refine ⟨_, s.assemble held.cause held.priority, run, rfl, rfl, rfl, rfl, rfl, ?_⟩
    show telegramBytes held.priority held.cause.kind (s.ownAddr.getD 0) _ _ = _
    rw [addr]
    rfl

/-! ### O47 -/

theorem giveBack_eq_with (c : ServiceCause) (p : Causes) : c.giveBack p = p.with c := by
  cases c <;> simp [ServiceCause.giveBack, Causes.with]

theorem frame_giveBack (s : State) (c : ServiceCause) : Frame [] s (s.onCauses c.giveBack) := by
  intro b _
  cases b
  case channels => exact same_channels rfl rfl
  case causes => exact ServiceCause.le_giveBack c s.ts.pending
  all_goals simp [Same, Drive.Stands.refl, State.life, State.answers, State.drive, State.onCauses]

theorem frame_islandEvent (before s : State) : Frame [] s (islandEvent before s) := by
  unfold islandEvent
  split
  · exact Frame.refl _ _
  · exact frame_trigger s

/-- Without a cause in service none comes back with what follows from an event. -/
theorem finish_unserved {s : State} (h : s.lc.service = none) : s.finish.lc = s.lc := by
  obtain ⟨lc, k⟩ := (finish_changes s).1 .link (by simp)
  have none : s.finish.lc.service = none := by
    rcases k with k | k | k
    · rw [k, h]
    · rw [k, h]; rfl
    · exact k
  rw [lc, none, ← h]

/-- ISLAND in the flags word follows the counts (R159). -/
theorem finish_island {s : State} (a : s.life.active = true) : s.finish.nc.flags.island = s.finish.island := by
  have active := active_of_frame (finish_changes s).1 (by simp) a
  rw [show s.finish.nc.flags = s.finish.flagsOf from finish_flags s, State.flagsOf, if_pos active]

/-- A node whose battery source is another falls back to L_island in ISLAND (R35). -/
theorem limitUsed_island {s : State} (i : s.island = true) (o : s.ownSource = false) : s.limitUsed.1 = s.pt.lIsland := by
  unfold State.limitUsed
  split
  · rfl
  · rw [if_pos ⟨i, by rw [o]; nofun⟩]

/-- What a bit error makes of the Link Controller (R156). -/
def LinkController.bitError (l : LinkController) : LinkController :=
  { l with
    service := none, rx := .discarding, breaking := true, bitErrors := min 3 (l.bitErrors + 1),
    linkFault := l.linkFault || decide (2 ≤ l.bitErrors) }

theorem exec_bitError {s : State} {v : Service} (h : s.lc.service = some v) (d : v.sending = true) :
    exec .bitError s = .next (islandEvent s ((s.onLink LinkController.bitError).onCauses v.cause.giveBack)).finish := by
  have fault : decide (3 ≤ s.lc.bitErrors + 1) = decide (2 ≤ s.lc.bitErrors) := decide_eq_decide.2 (by omega)
  show execBitError s = _
  unfold execBitError
  rw [h]
  dsimp only
  rw [if_pos d]
  unfold State.onLink LinkController.bitError
  rw [← fault]
  rfl

/-- Settles O47. -/
theorem setbacksKeepTheCause : Obligations.SetbacksKeepTheCause := by
  refine ⟨fun s idle => ⟨fun free => ?_, fun v busy still => ?_⟩, fun s v busy driven =>
    ⟨fun fresh => ?_, fun late => ?_, ?_, ?_⟩⟩
  · show execIdleLost s = _
    unfold execIdleLost
    rw [if_pos (.inr idle), free]
    rfl
  · have held : v.hold = v := by unfold Service.hold; rw [← still]
    show execIdleLost s = _
    unfold execIdleLost
    rw [if_pos (.inr idle), busy]
    dsimp only
    rw [if_neg (by simp [still]), held]
    simp [State.onLink, busy]
  · show execIdleLost s = _
    unfold execIdleLost
    rw [if_pos (.inl (by simp [State.sending, busy, driven])), busy]
    dsimp only
    rw [if_neg (by simp [fresh])]
    rfl
  · show execIdleLost s = _
    unfold execIdleLost
    rw [if_pos (.inl (by simp [State.sending, busy, driven])), busy]
    dsimp only
    rw [if_pos ⟨driven, late⟩]
    simp [State.onLink, State.onCauses, Service.returnLate, giveBack_eq_with]
  · show execArbitrationLost s = _
    unfold execArbitrationLost
    rw [busy]
    dsimp only
    rw [if_pos driven]
    simp [State.onLink, State.onCauses, giveBack_eq_with]
  · set x := (s.onLink LinkController.bitError).onCauses v.cause.giveBack with hx
    have f : Frame [.link] s (islandEvent s x) :=
      ((frame_onLink s LinkController.bitError).seq (by simp [Composes]) (frame_giveBack _ v.cause) (by simp)).seq
        (by simp [Composes]) (frame_islandEvent s x) (by simp)
    have lc : (islandEvent s x).lc = s.lc.bitError := by
      unfold islandEvent
      split <;> rfl
    have lc' : (islandEvent s x).finish.lc = s.lc.bitError := (finish_unserved (by rw [lc]; rfl)).trans lc
    refine ⟨_, exec_bitError busy driven, lc', ?_, fun a i n => ?_, Changes.after (by simp [Composes]) (by simp) f (by simp)⟩
    · have pending : (islandEvent s x).ts.pending = s.ts.pending.with v.cause := by
        rw [← giveBack_eq_with]
        unfold islandEvent
        split <;> rfl
      rw [← pending]
      exact (finish_changes _).1 .causes (by simp)
    · have active := active_of_frame f (by simp) a
      have island : (islandEvent s x).finish.island = true := by
        unfold State.island
        rw [lc']
        simp [LinkController.bitError, n]
      have triggered : (islandEvent s x).lb.trigger = true := by
        have xi : x.island = true := by
          show (s.lc.bitError.linkFault || s.lc.bitError.alone) = true
          simp [LinkController.bitError, n]
        unfold islandEvent
        rw [if_neg (by rw [xi, i]; nofun)]
        rfl
      refine ⟨(finish_island active).trans island, fun other => ?_⟩
      have pt : (islandEvent s x).finish.pt = s.pt := (finish_pt _).trans (f .peers (by simp))
      have own : (islandEvent s x).finish.ownSource = s.ownSource := by
        have addr : (islandEvent s x).finish.ownAddr = s.ownAddr := by
          rw [finish_ownAddr]
          unfold islandEvent
          split <;> rfl
        unfold State.ownSource
        rw [pt, addr]
      rw [(finish_limit active (.inl triggered)).1, limitUsed_island island (own.trans other), pt]

end Sys2Proof.Machine
end

section
/-! SUPPORT. The entry to DORMANT, and a restart, with what follows from them. -/

namespace Sys2Proof.Machine

/-! ### Falling asleep (R115, R131, R163, R179) -/

theorem frame_dropMeasure (s : State) : Frame [.causes] s (s.onCauses fun c => { c with measureDue := false }) := by
  intro b n
  cases b <;> simp at n
  case channels => exact same_channels rfl rfl
  all_goals simp [Same, Drive.Stands.refl, State.life, State.answers, State.drive, State.onCauses]

theorem frame_onFunction_any (s : State) (fn : ChFn) (f : Channel → Channel) (r : ∀ c, (f c).record = c.record) :
    Frame [.channels] s (s.onFunction fn f) :=
  frame_onChannels_any s _ fun c => Channel.ofFn_record (fn := fn) r c

/-- The node in DORMANT, before it tests its wake conditions. -/
def State.dozes (s : State) : State :=
  ((((s.changeLife .dormant).stopMeasurePeriod.onCauses fun c => { c with measureDue := false }).onFunction .pump
    Channel.requestOff).onHeating fun h => { h with normalDemand := false }).heatingDisabled.syncFlags

theorem State.enterDormant_eq (s : State) : s.enterDormant =
    if s.dozes.trv.reading || s.dozes.ownDrive || s.dozes.addressedHead then s.dozes.wake s.dozes.ownDrive else s.dozes := rfl

/-- The heating after its disable: but for the burner, nothing of it changes. -/
theorem heatingDisabled_ht (s : State) : s.heatingDisabled.ht = { s.ht with
    burner := s.heatingDisabled.ht.burner, lit := s.heatingDisabled.ht.lit, minimumOn := s.heatingDisabled.ht.minimumOn,
    rest := s.heatingDisabled.ht.rest } := by
  unfold State.heatingDisabled
  split
  · split
    · unfold State.giveBurnerClass
      split <;> rfl
    · split <;> rfl
  · rfl

theorem syncFlags_eq (s : State) : s.syncFlags = { s with
    nc := { s.nc with flags := s.syncFlags.nc.flags },
    ts := { s.ts with pending := { s.ts.pending with stateUrgent := s.syncFlags.ts.pending.stateUrgent } } } := by
  unfold State.syncFlags
  split <;> rfl

section
variable (s : State)

theorem frame_dozes : Frame [.life, .causes, .scheduler, .channels, .heating, .drives] s s.dozes := by
  have n : Composes [.life, .causes, .scheduler, .channels, .heating, .drives] := by simp [Composes]
  have life : Frame [.life, .causes, .scheduler, .channels, .heating, .drives] s (s.changeLife .dormant) :=
    (frame_changeLife .dormant s).widen (by simp)
  have quiet := (life.seq n (frame_measurePeriod _ none) (by simp)).seq n (frame_dropMeasure _) (by simp)
  have pumps := quiet.seq n (frame_onFunction_any _ .pump Channel.requestOff fun _ => rfl) (by simp)
  have heat := pumps.seq n (((heater_onHeating _ fun h => { h with normalDemand := false }).trans
    (heater_heatingDisabled _)).frame) (by simp)
  exact heat.seq n (frame_syncFlags _) (by simp)

/-- What the parts of the entry that touch neither life state nor scheduler leave of them. -/
theorem dozes_rest : s.dozes.life = .dormant ∧ s.dozes.ts.measurePeriod = none ∧ s.dozes.ts.pending.measureDue = false ∧
    s.dozes.lb.trigger = true ∧ s.dozes.ht.normalDemand = false ∧ s.dozes.lc = (s.changeLife .dormant).lc := by
  set x := ((s.changeLife .dormant).stopMeasurePeriod.onCauses fun c => { c with measureDue := false }).onFunction .pump
    Channel.requestOff with hx
  set y := x.onHeating fun h => { h with normalDemand := false } with hy
  have h : HeaterAlone x y.heatingDisabled := (heater_onHeating _ _).trans (heater_heatingDisabled _)
  have e : s.dozes = y.heatingDisabled.syncFlags := rfl
  obtain ⟨sv, p, k⟩ := State.changeLife_eq .dormant s
  have life : x.life = .dormant := by rw [hx, k]; rfl
  have trigger : x.lb.trigger = true := by rw [hx, k]; rfl
  rw [e, syncFlags_eq]
  refine ⟨?_, ?_, ?_, ?_, ?_, ?_⟩
  · show y.heatingDisabled.life = _
    rw [h.life, life]
  · show y.heatingDisabled.ts.measurePeriod = _
    rw [h.rest]; rfl
  · show y.heatingDisabled.ts.pending.measureDue = _
    rw [h.rest]; rfl
  · show y.heatingDisabled.lb.trigger = _
    rw [h.lb, trigger]
  · show y.heatingDisabled.ht.normalDemand = _
    rw [heatingDisabled_ht]
    rfl
  · show y.heatingDisabled.lc = _
    rw [h.rest]; rfl

/-- The pumps are disarmed. -/
theorem dozes_pump (i : Fin 8) (p : s.sw[i].fn = .pump) : s.dozes.sw[i].fn = .pump ∧ s.dozes.sw[i].request = false := by
  set x := ((s.changeLife .dormant).stopMeasurePeriod.onCauses fun c => { c with measureDue := false }) with hx
  set y := x.onFunction .pump Channel.requestOff with hy
  have same : x.sw = s.sw := by
    obtain ⟨sv, q, k⟩ := State.changeLife_eq .dormant s
    rw [hx, k]
    rfl
  have off : y.sw[i] = s.sw[i].requestOff := by
    rw [hy, State.onFunction_get, same, if_pos p]
  have h : HeaterAlone y (y.onHeating fun h => { h with normalDemand := false }).heatingDisabled :=
    (heater_onHeating _ _).trans (heater_heatingDisabled _)
  have e : s.dozes = (y.onHeating fun h => { h with normalDemand := false }).heatingDisabled.syncFlags := rfl
  have kept : s.dozes.sw[i] = s.sw[i].requestOff := by
    rw [e, syncFlags_eq]
    show (y.onHeating fun h => { h with normalDemand := false }).heatingDisabled.sw[i] = _
    rw [h.others i (by rw [off]; exact heater_of_pump p), off]
  rw [kept]
  exact ⟨p, rfl⟩

theorem dozes_ownDrive : s.dozes.ownDrive = s.ownDrive := by
  have f : s.dozes.sfe = s.sfe := frame_dozes s .sensors (by simp)
  simp only [State.ownDrive, State.ignitionActive, State.speedActive, State.switchActive, State.routed, State.entryOf, f]

end

theorem ownDrive_congr {s t : State} (f : t.sfe = s.sfe) : t.ownDrive = s.ownDrive := by
  simp only [State.ownDrive, State.ignitionActive, State.speedActive, State.switchActive, State.routed, State.entryOf, f]

theorem addressedHead_congr {s t : State} (f : t.od.iq = s.od.iq) : t.addressedHead = s.addressedHead := by
  unfold State.addressedHead
  rw [f]

/-- SETTINGS at the head are no addressed OPERATE. -/
theorem addressedHead_dropped {s : State} (l : s.life ≠ .commissioning) (h : s.addressedHead = true) :
    s.takeSettings.addressedHead = true := by
  unfold State.takeSettings
  rw [if_neg l]
  unfold State.addressedHead at h ⊢
  cases q : s.od.iq with
  | nil => rw [q] at h; cases h
  | cons e es =>
    rw [q] at h
    have o : e.operate = true := by simp at h; exact h.1
    simpa [dropSettings, o] using h

/-- A wake with a cause of its own raises WAKE_OUT. -/
theorem wake_loud (s : State) : (s.wake true).ts.pending.wakeOut = true := by
  unfold State.wake
  dsimp only
  rw [if_pos (by rfl)]
  rfl

/-- The pumps and the pair that the channels get in DORMANT. -/
theorem dormant_pair {s : State} (l : s.life = .dormant) (h : LimitCurrent s) :
    s.lb.applied = 0 ∧ s.lb.sEff.rank ≤ 2 := by
  obtain ⟨-, -, eff, applied⟩ := h
  rw [l] at eff applied
  refine ⟨applied, ?_⟩
  rw [eff, effectiveShed]
  split
  · omega
  · decide

/-- The entry to DORMANT: the node sleeps, or it is back in RUN at the same instant (R179, R180). -/
theorem sleeps_of_frame {s u : State} (l : s.life = .run) (f : Frame [.link, .answers, .dispatcher] s u)
    (st : u.od.storePending = false) : Sleeps s u.enterDormant.finish := by
  have ul : u.life = .run := by
    rcases f .life (by simp) with e | ⟨-, e⟩
    · rw [e, l]
    · exact e
  obtain ⟨life, period, measure, trigger, demand, -⟩ := dozes_rest u
  have fd := frame_dozes u
  have n : Composes [.life, .causes, .scheduler, .channels, .heating, .drives] := by simp [Composes]
  have enter : Frame [.life, .causes, .scheduler, .channels, .heating, .drives] u u.enterDormant := by
    rw [State.enterDormant_eq]
    split
    · exact fd.seq n (frame_wake' _ _) (by simp)
    · exact fd
  have reading : u.dozes.trv.reading = s.trv.reading := by rw [fd .travelLine (by simp), f .travelLine (by simp)]
  have drive : u.dozes.ownDrive = s.ownDrive := (dozes_ownDrive u).trans (ownDrive_congr (f .sensors (by simp)))
  have queue : u.dozes.od.iq = s.od.iq := (fd .inbound (by simp)).1.trans (f .inbound (by simp)).1
  have sets : u.dozes.takeSettings.addressedHead = s.takeSettings.addressedHead := by
    refine addressedHead_congr ?_
    unfold State.takeSettings
    rw [if_neg (by rw [life]; nofun), if_neg (by rw [l]; nofun), queue]
  have head : s.takeSettings.addressedHead = false → u.dozes.addressedHead = false := fun h => by
    by_contra k
    have := addressedHead_dropped (s := u.dozes) (by rw [life]; nofun) (by simpa using k)
    rw [sets, h] at this
    cases this
  refine ⟨fun r d a => ?_, fun w => ?_, fun i p => ?_, ?_, ?_, ?_⟩
  · have stays : u.enterDormant = u.dozes := by
      rw [State.enterDormant_eq, reading, r, drive, d, head a]
      rfl
    have quiet := finish_marks (s := u.dozes) (.inl (by rw [sets, a]))
    have life' : u.dozes.finish.life = .dormant := (finish_sleepless_life (.inl (by rw [sets, a]))).trans life
    rw [stays]
    have active : u.dozes.life.active = true := by rw [life]; rfl
    have active' : u.dozes.finish.life.active = true := by rw [life']; rfl
    obtain ⟨pair1, pair2⟩ := dormant_pair life' (finish_limit active (.inl trigger))
    refine ⟨life', ?_, ?_, ?_, ?_, pair1, pair2⟩
    · exact (((finish_changes u.dozes).1 .scheduler (by simp)).2.2.2 (life'.trans life.symm)).trans period
    · exact (congrArg (fun m => m.2.2.2) quiet).trans measure
    · rw [show u.dozes.finish.nc.flags = _ from finish_flags u.dozes, State.flagsOf, if_pos active']
      exact decide_eq_true life'
    · rw [(locks_finish u.dozes active').1]
      exact decide_eq_true life'
  · have awake : u.enterDormant.finish.life = .run := by
      rw [State.enterDormant_eq]
      split
      · exact (finish_awake (by rw [State.wake_life]; nofun)).trans (State.wake_life _ _)
      next no =>
        rw [reading, drive] at no
        simp only [Bool.or_eq_true, not_or, Bool.not_eq_true] at no
        have a : s.takeSettings.addressedHead = true := by
          rcases w with w | w | w
          · rw [no.1.1] at w; cases w
          · rw [no.1.2] at w; cases w
          · exact w
        rcases (finish_changes u.dozes).1 .life (by simp) with e | ⟨-, e⟩
        · have k := headLeft_finish u.dozes (e.trans life)
          have iq : u.dozes.finish.addressedHead = u.dozes.takeSettings.addressedHead :=
            addressedHead_congr (finish_changes u.dozes).2.1
          rw [iq, sets, a] at k
          cases k
        · exact e
    refine ⟨awake, fun d => ?_⟩
    have wakes : u.enterDormant = u.dozes.wake true := by
      rw [State.enterDormant_eq, drive, d, if_pos (by simp)]
    rw [wakes]
    exact ((finish_changes _).1 .causes (by simp)).1 (wake_loud _)
  · have fn : u.sw[i].fn = .pump := by
      rw [Channel.fn_of_record (f .channelRecords (by simp) i)]; exact p
    obtain ⟨dfn, off⟩ := dozes_pump u i fn
    have woken : u.enterDormant.sw[i].core = u.dozes.sw[i].core ∧ u.enterDormant.sw[i].record = u.dozes.sw[i].record := by
      rw [State.enterDormant_eq]
      split
      · have k := (frame_wake' u.dozes.ownDrive u.dozes .channels (by simp)).2.2 i
        exact ⟨k.2.1 (.inl (heater_of_pump dfn)), k.1⟩
      · exact ⟨rfl, rfl⟩
    have cold : u.enterDormant.sw[i].heater = false := by
      rw [Channel.heater_of_record woken.2]; exact heater_of_pump dfn
    have core := (finish_core (s := u.enterDormant) (i := i) fun h => by rw [cold] at h; cases h).trans woken.1
    exact (Channel.core_eq_iff.1 core).1.trans off
  · have ht : u.enterDormant.ht.normalDemand = false := by
      rw [State.enterDormant_eq]
      split
      · have k := (frame_wake' u.dozes.ownDrive u.dozes .heating (by simp)).1
        rw [k]; exact demand
      · exact demand
    rw [finish_ht]
    exact ht
  · refine ((finish_changes _).1 .dispatcher (by simp)).2 ?_
    exact (enter .dispatcher (by simp)).2 st
  · have m : Composes [.life, .inbound, .link, .answers, .causes, .scheduler, .channels, .heating, .drives, .dispatcher] := by
      simp [Composes]
    exact ((f.widen (by simp)).seq m enter (by simp)).seq m (finish_changes _).1 (by simp)

/-! ### A restart (R148, R169) -/

theorem Drive.warm_slot (d : Drive) : d.warm.slot = .empty := by
  unfold Drive.warm
  dsimp only
  split <;> rfl

/-- Nothing follows from a restart at its instant. -/
theorem finish_restart (s : State) : s.restart.finish = s.restart := by
  have kept (i : DriveId) : (s.restart.drive i).slot = .empty := by
    cases i <;> exact Drive.warm_slot _
  have place (i : DriveId) : s.restart.placeKept i = s.restart := by
    unfold State.placeKept
    rw [kept i]
  have all : s.restart.placeAllKept = s.restart := by
    unfold State.placeAllKept
    split
    · split <;> rw [place, place]
    · rw [place, place]
  have queue : s.restart.afterQueue = s.restart := by
    unfold State.afterQueue
    rw [all]
    rfl
  have life : s.restart.life = .strapRead := rfl
  rw [finish_sleepless (s := s.restart) (.inr (by rw [life]; exact ⟨nofun, nofun⟩)), queue]
  rfl

theorem restarted {s u : State} (l : s.life ≠ .reset) (h : u.warmState = s.warmState) :
    Restarted s u.restart.finish := by
  refine ⟨s.warmReset, rfl, ?_⟩
  rw [finish_restart, State.restart, h, State.warmReset, if_neg fun x => l x.1]
  rfl

end Sys2Proof.Machine
end

section
/-! PROOFS. O48 and O55: the outcome of an own telegram, and the NODE rows. -/

namespace Sys2Proof.Machine

/-! ### A cause in service through the entry to DORMANT (R163) -/

/-- No change of life state is left to be told to the cause in service. -/
def LinkController.Told (l : LinkController) : Prop :=
  ∀ v, l.service = some v → v.sending = true ∧ v.overtaken = true

theorem changeLife_told {s : State} (l : LifeState) (h : s.lc.Told) : (s.changeLife l).lc = s.lc := by
  unfold State.changeLife State.returnHeld
  cases k : s.lc.service with
  | none => rfl
  | some v =>
    obtain ⟨sending, late⟩ := h v k
    have same : v.overtake = v := by unfold Service.overtake; rw [← late]
    dsimp only
    rw [if_pos sending, same, ← k]
    rfl

theorem link_finishKeeps {m : LinkController} (h : m.Told) : FinishKeeps fun t => t.lc = m where
  drive s i d _ h := by cases i <;> exact h
  wakes s _ k := (changeLife_told .run (k ▸ h)).trans k
  settings s k := by
    obtain ⟨d, e⟩ := takeSettings_od s
    rw [e]
    exact k
  locks _ _ k := k
  channels _ _ k := k
  heating s _ k := by rw [(units_heatingReacts s).rest]; exact k
  flags s k := by
    unfold State.syncFlags
    split <;> exact k

/-- What the entry to DORMANT tells the cause in service. -/
def Service.toldDormant (v : Service) : Option Service := if v.sending then some { v with overtaken := true } else none

theorem changeLife_service (s : State) (l : LifeState) :
    (s.changeLife l).lc = { s.lc with service := s.lc.service.bind Service.toldDormant } := by
  unfold State.changeLife State.returnHeld
  cases k : s.lc.service with
  | none => simp only [Option.bind_none]; rw [← k]; rfl
  | some v =>
    simp only [Option.bind_some, Service.toldDormant]
    split <;> rfl

theorem told_changeLife (s : State) (l : LifeState) : (s.changeLife l).lc.Told := by
  rw [changeLife_service]
  intro v h
  obtain ⟨w, -, k⟩ := Option.bind_eq_some_iff.1 h
  unfold Service.toldDormant at k
  split at k
  next d => cases k; exact ⟨d, rfl⟩
  · cases k

theorem enterDormant_link (s : State) :
    s.enterDormant.finish.lc = { s.lc with service := s.lc.service.bind Service.toldDormant } := by
  rw [← changeLife_service s .dormant]
  have k := link_finishKeeps (told_changeLife s .dormant)
  have dozing : s.dozes.lc = (s.changeLife .dormant).lc := (dozes_rest s).2.2.2.2.2
  refine k.finish ?_
  rw [State.enterDormant_eq]
  split
  · exact k.toWakeKeeps.wake _ (dozes_rest s).1 dozing
  · exact dozing

/-- A cause held unsent returns to pending; MEASURE_DUE is removed at the entry (R163). -/
theorem enterDormant_causes {s : State} {v : Service} (h : s.lc.service = some v) (d : v.sending = false)
    (n : v.cause ≠ .measureDue) :
    ({ s.ts.pending with measureDue := false }.with v.cause).within s.enterDormant.finish.ts.pending := by
  set x := (s.changeLife .dormant).stopMeasurePeriod.onCauses fun c => { c with measureDue := false } with hx
  have start : x.ts.pending = { s.ts.pending with measureDue := false }.with v.cause := by
    have back : (s.changeLife .dormant).ts.pending = v.cause.giveBack s.ts.pending := by
      unfold State.changeLife State.returnHeld
      simp only [h]
      rw [if_neg (by rw [d]; nofun)]
      rfl
    show ({ (s.changeLife .dormant).ts.pending with measureDue := false } : Causes) = _
    rw [back, giveBack_eq_with]
    simp [Causes.with, n]
  have units : Frame [.channels, .heating] x s.dozes := by
    have m : Composes [.channels, .heating] := by simp [Composes]
    have pumps : Frame [.channels, .heating] x (x.onFunction .pump Channel.requestOff) :=
      (frame_onFunction_any x .pump Channel.requestOff fun _ => rfl).widen (by simp)
    exact (pumps.seq m (((heater_onHeating _ fun h => { h with normalDemand := false }).trans
      (heater_heatingDisabled _)).frame) (by simp)).seq m (frame_syncFlags _) (by simp)
  have all : Frame [.life, .drives, .scheduler, .channels, .heating, .inbound] x s.enterDormant.finish := by
    have m : Composes [.life, .drives, .scheduler, .channels, .heating, .inbound] := by simp [Composes]
    have doze : Frame [.life, .drives, .scheduler, .channels, .heating, .inbound] x s.dozes := units.widen (by simp)
    rw [State.enterDormant_eq]
    split
    · exact (doze.seq m (frame_wake' _ _) (by simp)).seq m (finish_changes _).1 (by simp)
    · exact doze.seq m (finish_changes _).1 (by simp)
  rw [← start]
  exact all .causes (by simp)

/-! ### O48 -/

section
variable {s : State} {v : Service} (heard taken : Bool)

/-- The counts after a broadcast, and after an ANSWER (R156, R158). -/
theorem completed_broadcast (l : LinkController) : l.completed false heard taken = { l with
    service := none, rx := .ready, heardSlot := false, takenSlot := false, bitErrors := 0, linkFault := l.linkFault && !heard,
    unheard := if heard then 0 else min 5 (l.unheard + 1),
    alone := if heard then false else l.alone || decide (4 ≤ l.unheard) } := by
  have five : decide (min 5 (l.unheard + 1) = 5) = decide (4 ≤ l.unheard) := decide_eq_decide.2 (by omega)
  rw [← five]
  cases heard <;> rfl

theorem completed_answer (l : LinkController) : l.completed true heard taken = { l with
    service := none, rx := .ready, heardSlot := false, takenSlot := false, bitErrors := 0, linkFault := l.linkFault && !taken } :=
  rfl

/-- The node with its telegram completed, before the unit that raised the cause takes it. -/
def State.completes (answer heard taken : Bool) (s : State) : State :=
  islandEvent s (s.onLink (LinkController.completed answer heard taken))

theorem completes_eq (answer : Bool) (s : State) : ∃ b, s.completes answer heard taken =
    { s with lc := s.lc.completed answer heard taken, lb := { s.lb with trigger := b } } := by
  unfold State.completes islandEvent
  split
  · exact ⟨s.lb.trigger, rfl⟩
  · exact ⟨true, rfl⟩

theorem frame_completes (answer : Bool) (s : State) : Frame [.link] s (s.completes answer heard taken) :=
  (frame_onLink s _).seq (by simp [Composes]) (frame_islandEvent s _) (by simp)

theorem exec_ownTelegramOutcome (h : s.lc.service = some v) (d : v.sending = true) :
    exec (.ownTelegramOutcome heard taken) s =
      .next ((s.completes (decide (v.cause = .answerDue)) heard taken).causeCompletes v).finish := by
  show execOwnTelegramOutcome heard taken s = _
  unfold execOwnTelegramOutcome
  rw [h]
  dsimp only
  rw [if_pos d]
  rfl

theorem frame_schedulerTimers (s : State) (hello : Bool) (x y : Timer) :
    Frame [.scheduler] s { s with ts := { s.ts with statePeriod := x, spacing := y, hello := hello } } := by
  intro b n
  cases b <;> simp at n
  case channels => exact same_channels rfl rfl
  all_goals simp [Same, Drive.Stands.refl, State.life, State.answers, State.drive]

/-- The outcome of a broadcast (R158). -/
theorem broadcast_completes (h : s.lc.service = some v) (d : v.sending = true) (n : v.cause ≠ .answerDue) :
    ∃ t, exec (.ownTelegramOutcome heard taken) s = .next t ∧
      t.lc = { s.lc with
        service := none, rx := .ready, heardSlot := false, takenSlot := false, bitErrors := 0,
        linkFault := s.lc.linkFault && !heard,
        unheard := if heard then 0 else min 5 (s.lc.unheard + 1),
        alone := if heard then false else s.lc.alone || decide (4 ≤ s.lc.unheard) } ∧
      (s.life.active = true → t.nc.flags.island = (t.lc.linkFault || t.lc.alone)) ∧
      (v.cause = .wakeOut → Changes [.link] s t) ∧
      (v.cause = .batteryDue →
        t.cc = { s.cc with
          sent := some v.battery, period := if s.cc.conflict then none else some (s.now + 1000) } ∧
        Changes [.link, .charge] s t) ∧
      (∀ u q, v.cause = .state u q →
        t.ts.hello = (s.ts.hello && !v.hello) ∧
        t.ts.statePeriod = some (s.now + if s.life = .dormant then 30000 else 2000) ∧
        t.ts.spacing = (if v.priority = 2 then some (s.now + 100) else s.ts.spacing) ∧
        Changes [.link, .scheduler] s t) ∧
      (v.cause = .measureDue →
        t.sfe = { s.sfe with pointer := (s.sfe.pointer + 4) % s.sfe.measureList.length } ∧
        Changes [.link, .sensors] s t) := by
  have run := exec_ownTelegramOutcome heard taken h d
  rw [decide_eq_false n] at run
  set y := s.completes false heard taken with hy
  have fy : Frame [.link] s y := frame_completes heard taken false s
  obtain ⟨b, ey⟩ := completes_eq heard taken false s
  rw [← hy] at ey
  have rest : (y.causeCompletes v).lc = y.lc ∧ (y.causeCompletes v).life = y.life := by
    unfold State.causeCompletes
    split
    · exact ⟨rfl, rfl⟩
    · exact ⟨rfl, rfl⟩
    · exact ⟨rfl, rfl⟩
    next c => exact absurd c n
    · exact ⟨rfl, rfl⟩
  have lc : (y.causeCompletes v).lc = s.lc.completed false heard taken := by rw [rest.1, ey]
  have final : (y.causeCompletes v).finish.lc = s.lc.completed false heard taken :=
    (finish_unserved (by rw [lc]; rfl)).trans lc
  refine ⟨_, run, final.trans (completed_broadcast heard taken s.lc), fun a => ?_, fun c => ?_, fun c => ?_, fun u q c => ?_,
    fun c => ?_⟩
  · refine finish_island ?_
    rw [rest.2, ey]
    exact a
  · have same : y.causeCompletes v = y := by unfold State.causeCompletes; rw [c]
    rw [same]
    exact Changes.after (by simp [Composes]) (by simp) fy (by simp)
  · unfold State.causeCompletes
    rw [c]
    dsimp only
    refine ⟨?_, Changes.after (by simp [Composes]) (by simp)
      ((fy.widen (by simp)).seq (by simp [Composes]) (frame_charge y _) (by simp)) (by simp)⟩
    rw [finish_cc, ey]
    rfl
  · unfold State.causeCompletes
    rw [c]
    dsimp only
    have period : s.life.statePeriod = if s.life = .dormant then 30000 else 2000 := by cases s.life <;> rfl
    have timers := frame_schedulerTimers y (y.ts.hello && !v.hello) (some (y.now + y.life.statePeriod))
      (if v.priority = 2 then some (y.now + Config.urgentSpacingMs) else y.ts.spacing)
    obtain ⟨k1, k2, k3, -⟩ := (finish_changes { y with ts := { y.ts with
      statePeriod := some (y.now + y.life.statePeriod),
      spacing := if v.priority = 2 then some (y.now + Config.urgentSpacingMs) else y.ts.spacing,
      hello := y.ts.hello && !v.hello } }).1 .scheduler (by simp)
    refine ⟨k1.trans (by rw [ey]), k3.trans ?_, k2.trans ?_, Changes.after (by simp [Composes]) (by simp)
      ((fy.widen (by simp)).seq (by simp [Composes]) timers (by simp)) (by simp)⟩
    · rw [← period, ey]; rfl
    · rw [ey]; rfl
  · unfold State.causeCompletes
    rw [c]
    dsimp only
    refine ⟨?_, Changes.after (by simp [Composes]) (by simp)
      ((fy.widen (by simp)).seq (by simp [Composes]) (frame_sensors y _) (by simp)) (by simp)⟩
    rw [finish_sfe, ey]
    rfl

end

end Sys2Proof.Machine
end

section
/-! PROOFS. O48 and O55, in the part of the answers: what an ANSWER that has been sent brings, and the NODE rows. -/

namespace Sys2Proof.Machine

/-! ### The oldest answer leaves (R147, R148, R165) -/

theorem frame_fifo_any (s : State) (l : List Answer) : Frame [.answers] s { s with ts := { s.ts with fifo := l } } := by
  intro b n
  cases b <;> simp at n
  case channels => exact same_channels rfl rfl
  all_goals simp [Same, Drive.Stands.refl, State.life, State.drive]

theorem enterDormant_unserved {s : State} (h : s.lc.service = none) : s.enterDormant.lc = s.lc := by
  have same : (s.changeLife .dormant).lc = s.lc := by rw [changeLife_service, h, Option.bind_none, ← h]
  have told : s.lc.Told := fun v k => by rw [h] at k; cases k
  have k := link_finishKeeps told
  have dozing : s.dozes.lc = s.lc := (dozes_rest s).2.2.2.2.2.trans same
  rw [State.enterDormant_eq]
  split
  · exact k.toWakeKeeps.wake _ (dozes_rest s).1 dozing
  · exact dozing

/-- The entry to DORMANT keeps the answers in the FIFO. -/
theorem frame_enterDormant (s : State) :
    Frame [.life, .causes, .scheduler, .channels, .heating, .drives] s s.enterDormant := by
  rw [State.enterDormant_eq]
  split
  · exact (frame_dozes s).seq (by simp [Composes]) (frame_wake' _ _) (by simp)
  · exact frame_dozes s

section
variable {s : State} {v : Service} (heard taken : Bool) {a : Answer} {rest : List Answer}

/-- The FIFO without its oldest answer. -/
def State.answered (rest : List Answer) (s : State) : State := { s with ts := { s.ts with fifo := rest } }

theorem answerLeaves_eq (f : s.ts.fifo = a :: rest) : s.answerLeaves =
    match a.ends with
    | .nothing => s.answered rest
    | .store =>
      if s.od.storePending then
        if s.life = .run ∧ ¬ s.driveBusy then (s.answered rest).clearStore.enterDormant else (s.answered rest).clearStore
      else s.answered rest
    | .restart => if s.od.restartPending then (s.answered rest).restart else s.answered rest := by
  unfold State.answerLeaves
  rw [f]
  rfl

theorem answer_completes (h : s.lc.service = some v) (d : v.sending = true) (c : v.cause = .answerDue)
    (f : s.ts.fifo = a :: rest) :
    ∃ t, exec (.ownTelegramOutcome heard taken) s = .next t ∧
      (a.ends ≠ .restart →
        t.lc = { s.lc with
          service := none, rx := .ready, heardSlot := false, takenSlot := false, bitErrors := 0,
          linkFault := s.lc.linkFault && !taken } ∧
        (rest.map fun x => (x.target, x.payload)) <+: t.answers) ∧
      (a.ends = .nothing ∨ (a.ends = .store ∧ s.od.storePending = false) → Changes [.link, .answers] s t) ∧
      (a.ends = .store → s.od.storePending = true → s.life = .run →
        (s.driveBusy = false → Sleeps s t) ∧
        (s.driveBusy = true → t.life = .run ∧ t.od.storePending = false)) ∧
      (a.ends = .restart → s.od.restartPending = true → s.life = .run → Restarted s t) := by
  have run := exec_ownTelegramOutcome heard taken h d
  rw [decide_eq_true c] at run
  set y := s.completes true heard taken with hy
  have fy : Frame [.link] s y := frame_completes heard taken true s
  obtain ⟨b, ey⟩ := completes_eq heard taken true s
  rw [← hy] at ey
  set z := y.answered rest with hz
  have ez : z = { s with
      lc := s.lc.completed true heard taken, lb := { s.lb with trigger := b }, ts := { s.ts with fifo := rest } } := by
    rw [hz, ey]; rfl
  have fz : Frame [.link, .answers] s z :=
    (fy.widen (by simp)).seq (by simp [Composes]) (frame_fifo_any y rest) (by simp)
  have completes : y.causeCompletes v = y.answerLeaves := by unfold State.causeCompletes; rw [c]
  rw [completes, answerLeaves_eq (s := y) (a := a) (rest := rest) (by rw [ey]; exact f)] at run
  have store : y.od.storePending = s.od.storePending := by rw [ey]
  have restart : y.od.restartPending = s.od.restartPending := by rw [ey]
  have life : y.life = s.life := by rw [ey]; rfl
  have busy : y.driveBusy = s.driveBusy := by rw [ey]; rfl
  rw [store, restart, life, busy, ← hz] at run
  -- What the answer's going leaves where it ends nothing.
  have alone : Changes [.link, .answers] s z.finish := Changes.after (by simp [Composes]) (by simp) fz (by simp)
  have kept {u : State} (l : u.lc = z.lc) (g : z.answers <+: u.answers) : u.finish.lc = { s.lc with
      service := none, rx := .ready, heardSlot := false, takenSlot := false, bitErrors := 0,
      linkFault := s.lc.linkFault && !taken } ∧ (rest.map fun x => (x.target, x.payload)) <+: u.finish.answers := by
    have lc : u.lc = s.lc.completed true heard taken := by rw [l, ez]
    refine ⟨(finish_unserved (by rw [lc]; rfl)).trans (lc.trans (completed_answer heard taken s.lc)), ?_⟩
    have first : (rest.map fun x => (x.target, x.payload)) = z.answers := by rw [hz]; rfl
    rw [first]
    exact g.trans ((finish_changes u).1 .answers (by simp))
  have cleared : z.answers <+: z.clearStore.answers := frame_clearStore z .answers (by simp)
  refine ⟨_, run, fun n => ?_, fun n => ?_, fun e p l => ?_, fun e p l => ?_⟩
  · cases e : a.ends with
    | nothing => exact kept rfl List.prefix_rfl
    | restart => exact absurd e n
    | store =>
      dsimp only
      split
      · split
        · refine kept (enterDormant_unserved (s := z.clearStore) (by rw [ez]; rfl)) (cleared.trans ?_)
          exact frame_enterDormant z.clearStore .answers (by simp)
        · exact kept (u := z.clearStore) rfl cleared
      · exact kept rfl List.prefix_rfl
  · rcases n with e | ⟨e, p⟩
    · rw [e]; exact alone
    · rw [e]
      dsimp only
      rw [p, if_neg (by nofun)]
      exact alone
  · rw [e]
    dsimp only
    rw [p, if_pos rfl]
    have slept : Frame [.link, .answers, .dispatcher] s z.clearStore :=
      (fz.widen (by simp)).seq (by simp [Composes]) (frame_clearStore z) (by simp)
    refine ⟨fun free => ?_, fun moving => ?_⟩
    · rw [if_pos ⟨l, by rw [free]; nofun⟩]
      exact sleeps_of_frame l slept rfl
    · rw [if_neg fun x => x.2 moving]
      have zl : z.clearStore.life = .run := by rw [ez]; exact l
      exact ⟨(finish_awake (by rw [zl]; nofun)).trans zl, ((finish_changes _).1 .dispatcher (by simp)).2 rfl⟩
  · rw [e]
    dsimp only
    rw [p, if_pos rfl]
    exact restarted (by rw [l]; nofun) (by rw [ez]; rfl)

end

/-- Settles O48: the broadcasts by their cause, and the answer by what its going ends. -/
theorem outcomesEndTheCause : Obligations.OutcomesEndTheCause :=
  ⟨fun _ _ heard taken h d n => broadcast_completes heard taken h d n,
    fun _ _ heard taken _ _ h d c f => answer_completes heard taken h d c f⟩

/-! ### O55: the NODE rows -/

section
variable {s : State} {e : Entry}

theorem hasFunction_node (s : State) {o : Operate} (h : o.fn.toNat = 1) : s.hasFunction o = true := by
  unfold State.hasFunction
  rw [h]
  rfl

/-- An answer whose sending ends a pending request. -/
theorem replied_place {q : Requester} {code : AnswerCode} {ends : Ends} {u : State} (room : s.fifoHasRoom = true)
    (f : u.ts.fifo = s.ts.fifo) : Replied (some q) code s (u.place (q.answer code ends)) := by
  have full : u.fifoHasRoom = true := by rw [State.fifoHasRoom, f]; exact room
  show s.answers ++ _ <+: (u.place (q.answer code ends)).answers
  rw [State.place, if_pos full]
  simp [State.answers, f, Requester.answer, Answer.payload]

/-- The node with a request of its own pending, answered. -/
theorem pending_served {q : Requester} {ends : Ends} {u : State} (t : s.canTake e = true) (r : e.requester = some q)
    (eu : u = { s.popEntry with od := u.od }) (iq : u.od.iq = s.popEntry.od.iq) (hand : u.od.inHand = s.od.inHand)
    (full : u.od.overflow = s.od.overflow) :
    Replied e.requester .done s (u.place (q.answer .done ends)).finish ∧
      Served [.dispatcher] s (u.place (q.answer .done ends)).finish ∧
      (u.place (q.answer .done ends)).finish.od.restartPending = u.od.restartPending ∧
      ((u.place (q.answer .done ends)).life = s.life) := by
  have a := Entry.addressed_of_requester (e := e) (by rw [r]; nofun)
  have room := ((State.canTake_iff.mp t).2.2.2.2 a).1
  have fu : Frame [.dispatcher] s.popEntry u := by
    rw [eu]
    intro b n
    cases b <;> simp at n
    case channels => exact same_channels rfl rfl
    case inbound => exact ⟨iq, hand, full⟩
    all_goals simp [Same, Drive.Stands.refl, State.life, State.answers, State.drive]
  refine ⟨?_, served_of_frame (by simp [Composes]) (commissioning_of_canTake t) (by simp) (by simp)
    (fu.seq (by simp [Composes]) (frame_place u _) (by simp)), ?_, ?_⟩
  · rw [r]
    exact (replied_place room (by rw [eu]; rfl)).finish
  · exact ((finish_changes _).1 .dispatcher (by simp)).1.trans (frame_place u _ .dispatcher (by simp)).1
  · have nc : (u.place (q.answer .done ends)).nc = u.nc := by unfold State.place; split <;> rfl
    rw [State.life, nc, eu]
    rfl

theorem nodeStore_served (k : Takes 1 12 e s) : ∃ t, exec .nodeStore s = .next t ∧
      (s.life = .run → s.driveBusy = true → Replied e.requester .refusedBusy s t ∧ Served [] s t) ∧
      (s.life = .run → s.driveBusy = false → e.addressed = true →
        Replied e.requester .done s t ∧ Served [.dispatcher] s t ∧ t.od.restartPending = s.od.restartPending ∧
          (s.popEntry.takeSettings.addressedHead = false → t.od.storePending = true)) ∧
      (s.life = .run → s.driveBusy = false → e.addressed = false →
        Sleeps s.popEntry t ∧
          (t.lc.service = s.lc.service.bind fun v => if v.sending then some { v with overtaken := true } else none) ∧
          ∀ v, s.lc.service = some v → v.sending = false → v.cause ≠ .measureDue →
            ({ s.ts.pending with measureDue := false }.with v.cause).within t.ts.pending) ∧
      (s.life = .listenOnly → Replied e.requester .refusedBusy s t ∧ Served [] s t) ∧
      (s.life = .dormant → Served [] s t) := by
  have taken : exec .nodeStore s = .next (s.popEntry.nodeStore e.requester).finish :=
    congrArg Host.Outcome.next (State.operate_served k (hasFunction_node s k.2.2.1))
  obtain ⟨replied, served, -⟩ := answered_taken k.2.1 .refusedBusy
  have life : s.popEntry.life = s.life := rfl
  have busy : s.popEntry.driveBusy = s.driveBusy := rfl
  rcases life_of_takes k.2.1 with l | l | ⟨l, a⟩
  · refine ⟨_, taken, fun _ b => ?_, fun _ b a => ?_, fun _ b a => ?_, fun n => ?_, fun n => ?_⟩
    · have refused : s.popEntry.nodeStore e.requester = s.popEntry.reply e.requester .refusedBusy := by
        unfold State.nodeStore
        rw [life, l]
        cases r : e.requester <;> simp [busy, b, State.reply]
      rw [refused]
      exact ⟨replied, served⟩
    · have r := Entry.requester_of_addressed a
      set q : Requester := ⟨e.src, (operateOf e.payload).fn, (operateOf e.payload).inst, (operateOf e.payload).action⟩
      set u : State := { s.popEntry with od := { s.popEntry.od with storePending := true } } with hu
      have stored : s.popEntry.nodeStore e.requester = u.place (q.answer .done .store) := by
        unfold State.nodeStore
        rw [life, l, r]
        dsimp only
        rw [busy, b, if_neg (by nofun)]
      rw [stored]
      obtain ⟨p1, p2, p3, p4⟩ := pending_served (u := u) (ends := .store) k.2.1 r rfl rfl rfl rfl
      refine ⟨p1, p2, p3, fun head => ?_⟩
      have placed := frame_place u (q.answer .done .store) .inbound (by simp)
      have marks := finish_marks (s := u.place (q.answer .done .store)) (.inl ?_)
      · refine (congrArg (fun m => m.2.2.1) marks).trans ?_
        show (u.place (q.answer .done .store)).od.storePending = true
        unfold State.place
        split <;> rfl
      · rw [← head]
        refine addressedHead_congr ?_
        exact (takeSettings_congr (s := s.popEntry) p4 placed.1 placed.2.1).1
    · have r := Entry.requester_of_broadcast a
      have sleeps : s.popEntry.nodeStore e.requester = s.popEntry.enterDormant := by
        unfold State.nodeStore
        rw [life, l, r]
        dsimp only
        rw [busy, b, if_neg (by nofun)]
      rw [sleeps]
      refine ⟨sleeps_of_frame l (Frame.refl _ _) (State.canTake_iff.mp k.2.1).2.2.1, ?_,
        fun v h d n => enterDormant_causes (s := s.popEntry) h d n⟩
      rw [enterDormant_link]
      rfl
    · rw [l] at n; cases n
    · rw [l] at n; cases n
  · have refused : s.popEntry.nodeStore e.requester = s.popEntry.reply e.requester .refusedBusy := by
      unfold State.nodeStore
      rw [life, l]
    rw [refused] at taken
    refine ⟨_, taken, fun n => ?_, fun n => ?_, fun n => ?_, fun _ => ⟨replied, served⟩, fun n => ?_⟩ <;>
      rw [l] at n <;> cases n
  · have nothing : s.popEntry.nodeStore e.requester = s.popEntry := by
      unfold State.nodeStore
      rw [life, l]
    rw [nothing] at taken
    refine ⟨_, taken, fun n => ?_, fun n => ?_, fun n => ?_, fun n => ?_, fun _ => served_of_frame (by simp [Composes])
      (commissioning_of_canTake k.2.1) (by simp) (by simp) (Frame.refl [] s.popEntry)⟩ <;> rw [l] at n <;> cases n

theorem nodeRestart_served (k : Takes 1 13 e s) : ∃ t, exec .nodeRestart s = .next t ∧
      (s.life = .run → e.addressed = true →
        Replied e.requester .done s t ∧ Served [.dispatcher] s t ∧ t.od.restartPending = true ∧
          t.od.storePending = s.od.storePending) ∧
      (s.life = .listenOnly ∨ e.addressed = false → Restarted s t) := by
  have taken : exec .nodeRestart s = .next (s.popEntry.nodeRestart e.requester).finish :=
    congrArg Host.Outcome.next (State.operate_served k (hasFunction_node s k.2.2.1))
  have life : s.popEntry.life = s.life := rfl
  by_cases p : s.life = .run ∧ e.addressed = true
  · obtain ⟨l, a⟩ := p
    have r := Entry.requester_of_addressed a
    set q : Requester := ⟨e.src, (operateOf e.payload).fn, (operateOf e.payload).inst, (operateOf e.payload).action⟩
    set u : State := { s.popEntry with od := { s.popEntry.od with restartPending := true } } with hu
    have pends : s.popEntry.nodeRestart e.requester = u.place (q.answer .done .restart) := by
      unfold State.nodeRestart
      rw [life, l, r]
    rw [pends] at taken
    obtain ⟨p1, p2, p3, -⟩ := pending_served (u := u) (ends := .restart) k.2.1 r rfl rfl rfl rfl
    refine ⟨_, taken, fun _ _ => ⟨p1, p2, p3, ?_⟩, fun n => ?_⟩
    · have off := (State.canTake_iff.mp k.2.1).2.2.1
      rw [off]
      exact ((finish_changes _).1 .dispatcher (by simp)).2 ((frame_place u _ .dispatcher (by simp)).2 off)
    · rcases n with n | n
      · rw [l] at n; cases n
      · rw [a] at n; cases n
  · have restarts : s.popEntry.nodeRestart e.requester = s.popEntry.restart := by
      unfold State.nodeRestart
      rw [life]
      rcases life_of_takes k.2.1 with l | l | ⟨l, a⟩
      · have a : e.addressed = false := by simpa [l] using p
        rw [l, Entry.requester_of_broadcast a]
      · rw [l]
      · rw [l]
    rw [restarts] at taken
    refine ⟨_, taken, fun l a => absurd ⟨l, a⟩ p, fun _ => restarted ?_ rfl⟩
    rcases life_of_takes k.2.1 with l | l | ⟨l, -⟩ <;> rw [l] <;> nofun

end

/-- Settles O55. -/
theorem nodeRequestsAreServed : Obligations.NodeRequestsAreServed := fun _ _ => ⟨nodeStore_served, nodeRestart_served⟩

end Sys2Proof.Machine
end

section
/-! SUPPORT. Fields of a payload read back. -/

namespace Sys2Proof.Machine

/-! ### Bytes and words -/

theorem byteOf_toNat (n : Nat) : (byteOf n).toNat = n % 256 := by simp [byteOf]

theorem byteAt_zero (b : Byte) (p : List Byte) : byteAt (b :: p) 0 = b.toNat := rfl
theorem byteAt_succ (b : Byte) (p : List Byte) (i : Nat) : byteAt (b :: p) (i + 1) = byteAt p i := rfl

theorem word_of_bytes (n : Nat) : (byteOf (n / 256)).toNat * 256 + (byteOf n).toNat = n % 65536 := by
  rw [byteOf_toNat, byteOf_toNat]
  omega

theorem signed16_of {x : Int} (l : -32768 ≤ x) (u : x ≤ 32767) : signed16 ((x % 65536).toNat % 65536) = x := by
  unfold signed16
  split <;> omega

theorem putSigned8_toInt {x : Int} (l : -128 ≤ x) (u : x ≤ 127) : (putSigned8 x).toInt = x := by
  rw [putSigned8, byteOf, BitVec.toInt_eq_toNat_cond, BitVec.toNat_ofNat]
  split <;> omega

/-! ### Bits -/

theorem bitsNat_concat (bs : List Bool) (b : Bool) : bitsNat (bs ++ [b]) = bitsNat bs * 2 + b.toNat := by
  simp [bitsNat]

/-- The bits of a number made of bits, the last at 0. -/
theorem bitsNat_testBit (bs : List Bool) (k : Nat) : (bitsNat bs).testBit k = bs.reverse.getD k false := by
  induction bs using List.reverseRecOn generalizing k with
  | nil => simp [bitsNat]
  | append_singleton bs b ih =>
    rw [bitsNat_concat, List.reverse_append]
    cases k with
    | zero => cases b <;> simp
    | succ k =>
      have low : b.toNat < 2 := Bool.toNat_lt b
      have half : (bitsNat bs * 2 + b.toNat) / 2 = bitsNat bs := by omega
      rw [Nat.testBit_succ, half, ih]
      rfl

theorem bitsNat_lt (bs : List Bool) : bitsNat bs < 2 ^ bs.length := by
  induction bs using List.reverseRecOn with
  | nil => decide
  | append_singleton bs b ih =>
    rw [bitsNat_concat, List.length_append, List.length_singleton, Nat.pow_succ]
    have low : b.toNat < 2 := Bool.toNat_lt b
    omega

/-- The flags word reads back as it was sent (12). -/
theorem Flags.ofNat_toNat (f : Flags) : Flags.ofNat f.toNat = f := by
  simp only [Flags.ofNat, Flags.toNat, bitsNat_testBit]
  rfl

theorem Flags.toNat_lt (f : Flags) : f.toNat < 65536 := by
  have := bitsNat_lt f.bits
  rwa [show f.bits.length = 16 from rfl] at this

theorem BattFlags.ofNat_toNat (f : BattFlags) : BattFlags.ofNat f.toNat = f := by
  simp only [BattFlags.ofNat, BattFlags.toNat, bitsNat_testBit]
  rfl

theorem BattFlags.toNat_lt (f : BattFlags) : f.toNat < 256 := by
  have := bitsNat_lt [f.estimated, f.cut, f.cold, f.shuntRange, f.conflict, f.emptyCount, false, false]
  rwa [List.length_cons, List.length_cons, List.length_cons, List.length_cons, List.length_cons, List.length_cons,
    List.length_cons, List.length_cons, List.length_nil] at this

/-! ### Wants (R188) -/

/-- Six bytes of a number below 2 to the 48 make it again. -/
theorem bytesNat_six {n : Nat} (h : n < 281474976710656) :
    bytesNat [byteOf (n / 2 ^ 40), byteOf (n / 2 ^ 32), byteOf (n / 2 ^ 24), byteOf (n / 2 ^ 16), byteOf (n / 2 ^ 8),
      byteOf n] = n := by
  rw [bytesNat, List.foldl_cons, List.foldl_cons, List.foldl_cons, List.foldl_cons, List.foldl_cons, List.foldl_cons,
    List.foldl_nil, byteOf_toNat, byteOf_toNat, byteOf_toNat, byteOf_toNat, byteOf_toNat, byteOf_toNat]
  norm_num
  omega

theorem wantsOf_packed {a b c d : Nat} (ha : a < 4096) (hb : b < 4096) (hc : c < 4096) (hd : d < 4096) :
    wantsOf (((a * 4096 + b) * 4096 + c) * 4096 + d) = ⟨a, b, c, d⟩ := by
  unfold wantsOf bitsAt
  rw [Wants.mk.injEq]
  refine ⟨?_, ?_, ?_, ?_⟩ <;> omega

theorem wantsOf_packWants (w : Wants) :
    wantsOf (bytesNat (packWants w)) = ⟨min 4095 w.w0, min 4095 w.w1, min 4095 w.w2, min 4095 w.w3⟩ := by
  unfold packWants
  dsimp only
  rw [bytesNat_six (by omega), wantsOf_packed (by omega) (by omega) (by omega) (by omega)]

/-! ### Codes (12) -/

theorem shedOf_code (x : Shed) : shedOf x.code = x := by
  cases x with
  | allShed => rfl
  | upTo k => simp [shedOf, Shed.code]

theorem Shed.code_lt (x : Shed) : x.code < 256 := by
  cases x with
  | allShed => decide
  | upTo k => have := k.isLt; show k.val < 256; omega

theorem peerRoleOf_code (r : Option Role) :
    peerRoleOf ((r.map Role.code).getD 7) = (match r with | some r => .node r | none => .panel) := by
  cases r with
  | none => rfl
  | some r => cases r <;> rfl

theorem DriveState.code_lt (x : DriveState) : x.code < 16 := by cases x <;> decide

theorem Drive.motionCode_lt (d : Drive) : d.motionCode < 16 := by
  unfold Drive.motionCode
  split
  · decide
  · exact d.state.code_lt

end Sys2Proof.Machine
end

section
/-! SUPPORT. What leaves the node: the payloads of its own telegrams, the Travel line and STATUS (09, 11, 12). -/

namespace Sys2Proof.Machine
open Host

variable (s : State)

/-! ### STATE -/

theorem word_of_two (n : Nat) (h : n < 65536) : (byteOf (n / 256)).toNat * 256 + (byteOf n).toNat = n := by
  rw [word_of_bytes]
  omega

theorem role_code_lt (r : Option Role) : (r.map Role.code).getD 7 < 256 := by
  cases r with
  | none => decide
  | some r => cases r <;> decide

theorem Drive.motionCode_without {d : Drive} (h : d.fn = .none) : d.motionCode = 1 := if_pos h

theorem Drive.motionCode_with {d : Drive} (h : d.fn ≠ .none) : d.motionCode = d.state.code := if_neg h

/-- The entry that a STATE of the node makes in a peer (R22, R188). -/
theorem peerOf_statePayload (src : Addr) (now : Nat) : peerOf src now s.statePayload =
    { addr := src
      role := (match s.role with | some r => .node r | none => .panel)
      wants := ⟨min 4095 s.lb.wOwn.w0, min 4095 s.lb.wOwn.w1, min 4095 s.lb.wOwn.w2, min 4095 s.lb.wOwn.w3⟩
      shed := s.lb.s
      flags := s.nc.flags
      motionA := s.ma.motionCode
      motionB := s.mb.motionCode
      scene := if s.light.lastScene % 256 ≤ 8 then s.light.lastScene % 256 else 0
      dormantAging := s.nc.flags.dormant
      status := .present
      heardAt := now
      cabin := none } := by
  have role : byteAt s.statePayload 0 = (s.role.map Role.code).getD 7 :=
    (byteOf_toNat _).trans (Nat.mod_eq_of_lt (role_code_lt s.role))
  have shed : byteAt s.statePayload 1 = s.lb.s.code := (byteOf_toNat _).trans (Nat.mod_eq_of_lt s.lb.s.code_lt)
  have wants : (s.statePayload.drop 2).take 6 = packWants s.lb.wOwn := rfl
  have flags : wordAt s.statePayload 8 = s.nc.flags.toNat := word_of_two _ s.nc.flags.toNat_lt
  have motion : byteAt s.statePayload 10 = s.ma.motionCode * 16 + s.mb.motionCode := by
    have a := s.ma.motionCode_lt
    have b := s.mb.motionCode_lt
    exact (byteOf_toNat _).trans (Nat.mod_eq_of_lt (by omega))
  have scene : byteAt s.statePayload 11 = s.light.lastScene % 256 := byteOf_toNat _
  have a := s.ma.motionCode_lt
  have b := s.mb.motionCode_lt
  rw [peerOf, role, shed, wants, flags, motion, scene, wantsOf_packWants, Flags.ofNat_toNat, shedOf_code, peerRoleOf_code,
    Peer.mk.injEq]
  refine ⟨rfl, by cases s.role <;> rfl, rfl, rfl, rfl, ?_, ?_, rfl, rfl, rfl, rfl, rfl⟩ <;> unfold bitsAt <;> omega

/-! ### BATTERY -/

section
variable (c : ChargeCounter)

theorem ChargeCounter.battVals_payload (soc : c.soc ≤ 100) (l : c.l ≤ 2000) :
    battValsOf c.payload = ⟨c.soc, c.l, c.flags⟩ := by
  have level : byteAt c.payload 0 = c.soc := (byteOf_toNat _).trans (Nat.mod_eq_of_lt (by omega))
  have limit : wordAt c.payload 1 = c.l := word_of_two _ (by omega)
  have flags : byteAt c.payload 8 = c.flags.toNat := (byteOf_toNat _).trans (Nat.mod_eq_of_lt c.flags.toNat_lt)
  rw [battValsOf, level, limit, flags, BattFlags.ofNat_toNat, Nat.min_eq_right l]

/-- Two bytes of a signed number read back. -/
theorem signed16_word {x : Int} (l : -32768 ≤ x) (u : x ≤ 32767) :
    signed16 ((byteOf ((x % 65536).toNat / 256)).toNat * 256 + (byteOf (x % 65536).toNat).toNat) = x := by
  rw [word_of_bytes]
  exact signed16_of l u

theorem ChargeCounter.current_payload {x : Int} (e : x = c.ring.sum.tdiv 100) (l : -2000 ≤ x) (u : x ≤ 2000) :
    signed16 (wordAt c.payload 3) = x := by
  subst e
  exact signed16_word (x := c.netCurrent) (show _ ≤ c.ring.sum.tdiv 100 by omega) (show c.ring.sum.tdiv 100 ≤ _ by omega)

theorem ChargeCounter.temperature_payload : (c.payload.getD 7 0) =
    putSigned8 (match c.tb with | none => -128 | some t => t.tdiv 10) := by
  unfold ChargeCounter.payload
  rfl

theorem ChargeCounter.ring_sample (shunt vbat : Int) (tb : Option Int) : (c.sample shunt vbat tb).ring =
    if c.ring = [] then List.replicate 10 (c.sample shunt vbat tb).iS
    else c.ring.drop 1 ++ [(c.sample shunt vbat tb).iS] := by
  rw [(c.sample_reads shunt vbat tb).1]
  obtain ⟨_, _, _, e⟩ := c.sample_eq shunt vbat tb
  obtain ⟨_, _, _, _, e1⟩ := (c.take shunt vbat tb).update_eq
  obtain ⟨_, _, _, e2⟩ := ChargeCounter.advanceCut_eq ((c.take shunt vbat tb).update.enterRing)
  obtain ⟨_, _, _, _, _, e3⟩ := ChargeCounter.advanceSync_eq ((c.take shunt vbat tb).update.enterRing.advanceCut)
  have kept : (c.sample shunt vbat tb).ring = (c.take shunt vbat tb).update.enterRing.ring := by
    rw [e]
    unfold ChargeCounter.qualified
    rw [e3, e2]
  rw [kept, e1]
  rfl

end

/-! ### MEASURE -/

/-- Each of the four readings stands at three times its number. -/
theorem measurePayload_at (k : Fin 4) :
    byteAt s.measurePayload (3 * k.val) = s.sfe.quantityAt k % 256 ∧
      wordAt s.measurePayload (3 * k.val + 1) = (s.quantity (s.sfe.quantityAt k) % 65536).toNat ∧
      (readingsOf s.measurePayload)[k.val]? =
        some (byteAt s.measurePayload (3 * k.val), signed16 (wordAt s.measurePayload (3 * k.val + 1))) := by
  have word (x : Int) : (byteOf ((x % 65536).toNat / 256)).toNat * 256 + (byteOf (x % 65536).toNat).toNat =
      (x % 65536).toNat := word_of_two _ (by omega)
  fin_cases k <;> exact ⟨byteOf_toNat _, word _, rfl⟩

theorem quantityAt_mem (f : SensorFrontEnd) (k : Nat) (h : f.measureList ≠ []) :
    f.measureList[(f.pointer + k) % f.measureList.length]? = some (f.quantityAt k) := by
  have within : (f.pointer + k) % f.measureList.length < f.measureList.length :=
    Nat.mod_lt _ (List.length_pos_iff.mpr h)
  rw [SensorFrontEnd.quantityAt, List.getD_eq_getElem?_getD, List.getElem?_eq_getElem within]
  rfl

theorem measureListNow_sorted : s.measureListNow.Pairwise (· < ·) := by
  have all : ([(1, s.routed .cabinT), (2, s.routed .outsideT), (3, s.routed .freshT), (4, s.routed .greyT),
      (5, s.routed .batteryT), (6, s.routed .freshLevel), (7, s.routed .greyLevel), (8, s.routed .flow),
      (9, s.routed .anemometer), (10, s.hasChannel .burner), (11, true), (12, true)] : List (Nat × Bool)).Pairwise
      fun a b => a.1 < b.1 := by
    simp
  exact List.pairwise_map.mpr (all.filter _)

theorem mem_measureListNow (q : Nat) : q ∈ s.measureListNow ↔
    (∃ fn : RouteFn, s.routed fn = true ∧
      (q, fn) ∈ [(1, .cabinT), (2, .outsideT), (3, .freshT), (4, .greyT), (5, .batteryT), (6, .freshLevel),
        (7, .greyLevel), (8, .flow), (9, .anemometer)]) ∨
      (q = 10 ∧ ∃ i : Fin 8, s.sw[i].fn = .burner) ∨ q = 11 ∨ q = 12 := by
  have burner : s.hasChannel .burner = true ↔ ∃ i : Fin 8, s.sw[i].fn = .burner := by
    simp [State.hasChannel, State.anyChannel_iff]
  rw [← burner]
  simp only [State.measureListNow, List.mem_map, List.mem_filter, List.mem_cons, List.not_mem_nil, or_false, Prod.exists,
    Prod.mk.injEq]
  constructor
  · rintro ⟨a, b, ⟨h, rfl⟩, rfl⟩
    rcases h with ⟨rfl, e⟩ | ⟨rfl, e⟩ | ⟨rfl, e⟩ | ⟨rfl, e⟩ | ⟨rfl, e⟩ | ⟨rfl, e⟩ | ⟨rfl, e⟩ | ⟨rfl, e⟩ | ⟨rfl, e⟩ |
      ⟨rfl, e⟩ | ⟨rfl, e⟩ | ⟨rfl, e⟩ <;> simp [e.symm]
  · rintro (⟨fn, on, h⟩ | ⟨rfl, on⟩ | rfl | rfl)
    · refine ⟨q, true, ⟨?_, rfl⟩, rfl⟩
      rcases h with ⟨rfl, rfl⟩ | ⟨rfl, rfl⟩ | ⟨rfl, rfl⟩ | ⟨rfl, rfl⟩ | ⟨rfl, rfl⟩ | ⟨rfl, rfl⟩ | ⟨rfl, rfl⟩ |
        ⟨rfl, rfl⟩ | ⟨rfl, rfl⟩ <;> simp [on]
    · exact ⟨10, true, ⟨by simp [on], rfl⟩, rfl⟩
    · exact ⟨11, true, ⟨by simp, rfl⟩, rfl⟩
    · exact ⟨12, true, ⟨by simp, rfl⟩, rfl⟩

/-- The channel status by its bits (R186). -/
theorem channelStatus_bits : s.channelStatus < 1024 ∧
    (∀ i : Fin 8, s.channelStatus.testBit (9 - i.val) = (decide (s.sw[i].state = .fault) || s.sw[i].openLoad)) ∧
    s.channelStatus.testBit 1 = s.ma.jam ∧ s.channelStatus.testBit 0 = s.mb.jam := by
  have bound := bitsNat_lt ((channelNumbers.map fun i => decide (s.sw[i].state = .fault) || s.sw[i].openLoad) ++
    [s.ma.jam, s.mb.jam])
  rw [List.length_append, List.length_map, List.length_cons, List.length_cons, List.length_nil,
    show channelNumbers.length = 8 from rfl] at bound
  refine ⟨bound, fun i => ?_, bitsNat_testBit _ 1, bitsNat_testBit _ 0⟩
  rw [State.channelStatus, bitsNat_testBit]
  fin_cases i <;> rfl

/-- A quantity that a function's temperature gives. -/
theorem quantity_temperature {q : Nat} {fn : RouteFn}
    (h : (q, fn) ∈ [(1, RouteFn.cabinT), (2, .outsideT), (3, .freshT), (4, .greyT), (5, .batteryT)]) :
    s.quantity q = (s.temperature fn).getD invalidMarker := by
  simp only [List.mem_cons, List.not_mem_nil, or_false, Prod.mk.injEq] at h
  rcases h with ⟨rfl, rfl⟩ | ⟨rfl, rfl⟩ | ⟨rfl, rfl⟩ | ⟨rfl, rfl⟩ | ⟨rfl, rfl⟩ <;> rfl

/-! ### The Travel line and STATUS -/

theorem trvDriven_iff : s.trvDriven = true ↔
    (s.life = .commissioning ∨ s.life = .run ∨ s.life = .dormant) ∧
      ((s.trv.maskIgnition = true ∧ s.ignitionActive = true) ∨ (s.trv.maskSpeed = true ∧ s.speedActive = true)) := by
  unfold State.trvDriven
  split <;> simp [*]

theorem statusPin_eq {on : Nat} (e : on = s.now - s.nc.lifeSince) : s.statusPin = match s.life with
    | .reset | .strapRead | .dormant => false
    | .strapFault => decide (on % 500 < 250)
    | .commissioning => decide (on % 1000 < 100)
    | .run => true
    | .listenOnly => decide (on % 1000 < 100 ∨ (200 ≤ on % 1000 ∧ on % 1000 < 300)) := by
  subst e
  unfold State.statusPin
  cases s.life <;> simp

end Sys2Proof.Machine

namespace Sys2Proof.Machine

/-- Settles O60, payload by payload, each read back by its fields. -/
theorem outputsCarryTheState : Obligations.OutputsCarryTheState := by
  intro s src now
  refine ⟨?_, ⟨rfl, s.cc.battVals_payload, fun x e => s.cc.current_payload e, fun v => word_of_two _ (by omega), ?_, ?_,
    ?_⟩, ⟨rfl, ?_⟩, ⟨?_, ?_, ?_, ?_, ?_, ?_, rfl, rfl, ⟨_, rfl, channelStatus_bits s⟩, rfl, measureListNow_sorted s,
    mem_measureListNow s⟩, trvDriven_iff s, fun on e => statusPin_eq s e⟩
  · rintro p rfl
    rw [peerOf_statePayload]
    refine ⟨rfl, rfl, rfl, rfl, rfl, rfl, Drive.motionCode_without, Drive.motionCode_with, Drive.motionCode_without,
      Drive.motionCode_with, fun l => ?_⟩
    show (if s.light.lastScene % 256 ≤ 8 then s.light.lastScene % 256 else 0) = _
    rw [Nat.mod_eq_of_lt (by omega), if_pos l]
  · intro none
    rw [s.cc.temperature_payload, none]
    rfl
  · intro x some l u
    rw [s.cc.temperature_payload, some]
    have within : x.tdiv 10 = if 0 ≤ x then x / 10 else -(-x / 10) := by
      split
      · exact Int.tdiv_eq_ediv_of_nonneg ‹_›
      · rw [← Int.tdiv_eq_ediv_of_nonneg (by omega), Int.neg_tdiv, Int.neg_neg]
    have bound : -128 ≤ x.tdiv 10 ∧ x.tdiv 10 ≤ 127 := by
      rw [within]
      split <;> omega
    exact putSigned8_toInt bound.1 bound.2
  · rintro shunt vbat tb c rfl
    exact s.cc.ring_sample shunt vbat tb
  · rintro k q x rfl rfl
    obtain ⟨code, value, reading⟩ := measurePayload_at s k
    refine ⟨quantityAt_mem s.sfe k, fun small l u => ?_, fun small l u => ⟨?_, ?_⟩⟩
    · rw [reading, code, value, Nat.mod_eq_of_lt small,
        ← Nat.mod_eq_of_lt (show (s.quantity (s.sfe.quantityAt k) % 65536).toNat < 65536 by omega), signed16_of l u]
    · rw [code, Nat.mod_eq_of_lt small]
    · rw [value]
      omega
  · intro q fn row
    rw [quantity_temperature s row]
    exact ⟨fun none => by rw [none]; rfl, fun x some => by rw [some]; rfl⟩
  · intro none
    show (s.wf.freshPercent.map Int.ofNat).getD invalidMarker = _
    rw [none]
    rfl
  · intro pc some
    show (s.wf.freshPercent.map Int.ofNat).getD invalidMarker = _
    rw [some]
    rfl
  · intro none
    show (s.wf.greyPercent.map Int.ofNat).getD invalidMarker = _
    rw [none]
    rfl
  · intro pc some
    show (s.wf.greyPercent.map Int.ofNat).getD invalidMarker = _
    rw [some]
    rfl
  · show min (65535 : Int) ((s.wf.volume / 100 : Nat) : Int) = _
    omega

end Sys2Proof.Machine
end

section
/-! PROOFS. O38: flow pulses, dry runs and the dump. -/

namespace Sys2Proof.Machine

/-! ### Volume (R113) -/

/-- A run of pulses below the limit carries its fraction: the volume rises by the whole centilitres of all of them. -/
theorem convertPulses_run (n : Nat) {w : WaterFrost} (p : 0 < w.params.ppl) (r : w.remainder < w.params.ppl)
    (l : w.volume + (w.remainder + n * 100) / w.params.ppl ≤ 9999999) :
    (List.range n).foldl (fun (w : WaterFrost) _ => w.convertPulses (w.remainder + 100)) w =
      { w with
        volume := w.volume + (w.remainder + n * 100) / w.params.ppl
        remainder := (w.remainder + n * 100) % w.params.ppl } := by
  induction n with
  | zero =>
    rw [List.range_zero, List.foldl_nil, Nat.zero_mul, Nat.add_zero, Nat.div_eq_of_lt r, Nat.mod_eq_of_lt r]
    rfl
  | succ n ih =>
    have total : w.remainder + (n + 1) * 100 = w.remainder + n * 100 + 100 := by ring
    have carried : (w.remainder + n * 100 + 100) / w.params.ppl = (w.remainder + n * 100) / w.params.ppl +
        ((w.remainder + n * 100) % w.params.ppl + 100) / w.params.ppl := by
      conv_lhs => rw [← Nat.div_add_mod (w.remainder + n * 100) w.params.ppl, Nat.add_assoc, Nat.mul_add_div p]
    have kept : ((w.remainder + n * 100) % w.params.ppl + 100) % w.params.ppl =
        (w.remainder + n * 100 + 100) % w.params.ppl := Nat.mod_add_mod _ _ _
    rw [total] at l ⊢
    have less : (w.remainder + n * 100) / w.params.ppl ≤ (w.remainder + n * 100 + 100) / w.params.ppl :=
      Nat.div_le_div_right (Nat.le_add_right _ _)
    rw [List.range_succ, List.foldl_append, List.foldl_cons, List.foldl_nil, ih (by omega)]
    unfold WaterFrost.convertPulses
    dsimp only
    rw [kept, Nat.add_assoc, ← carried, Nat.min_eq_right (show _ ≤ Config.volumeLimit from l)]

theorem flowPulse_counts {s : State} (active : s.life.active = true) (routed : s.routed .flow = true) :
    ∃ t, exec .flowPulse s = .next t ∧ t = { s with wf := t.wf, sw := t.sw } ∧
      t.wf = { s.wf with
        volume := min 9999999 (s.wf.volume + (s.wf.remainder + 100) / s.wf.params.ppl),
        remainder := (s.wf.remainder + 100) % s.wf.params.ppl } ∧
      ∀ i : Fin 8,
        (s.sw[i].fn = .pump → t.sw[i] = { s.sw[i] with dry := s.sw[i].dry.map fun _ => s.now + 15000 }) ∧
        (s.sw[i].fn ≠ .pump → t.sw[i] = s.sw[i]) := by
  refine ⟨_, congrArg Host.Outcome.next (if_pos ⟨active, routed⟩), rfl, rfl, fun i => ?_⟩
  rw [State.onFunction_get]
  exact ⟨fun pump => if_pos pump, fun other => if_neg other⟩

/-! ### Dry run (R117) -/

theorem channelFaulted_of {s : State} {i : Fin 8} {fn : ChFn} (h : s.sw[i].fn = fn) (f : s.sw[i].state = .fault) :
    s.channelFaulted fn = true := by
  by_contra n
  exact channelFaulted_eq_false.1 (Bool.eq_false_iff.2 n) i h f

/-- The pump that runs dry has entered FAULT, at the instant of its timer. -/
def State.runsDry (ch : Fin 8) (e : Nat) (s : State) : State := (s.reach e).onChannel ch Channel.enterFault

theorem runsDry_get (s : State) (ch : Fin 8) (e : Nat) : (s.runsDry ch e).sw[ch] = s.sw[ch].enterFault :=
  State.onChannel_get _ _ _

theorem runsDry_fault (s : State) (ch : Fin 8) (e : Nat) : (s.runsDry ch e).finish.sw[ch].state = .fault := by
  obtain ⟨-, -, -, -, fault, -⟩ := finish_channel (s.runsDry ch e) ch
  exact fault.2 (by rw [runsDry_get]; rfl)

theorem runsDry_locks {s : State} {ch : Fin 8} {e : Nat} (active : s.life.active = true) (pump : s.sw[ch].fn = .pump) :
    (s.runsDry ch e).finish.wf.locks.fault = true ∧ (s.runsDry ch e).finish.nc.flags.channelFault = true := by
  have runs : (s.runsDry ch e).finish.life.active = true := finish_active _ active
  refine ⟨?_, ?_⟩
  · rw [(locks_finish _ runs).1]
    have fn : (s.runsDry ch e).finish.sw[ch].fn = .pump := by
      rw [Channel.fn_of_record (finish_channel (s.runsDry ch e) ch).1, runsDry_get]
      exact pump
    exact channelFaulted_of fn (runsDry_fault s ch e)
  · rw [finish_flags]
    exact channelFault_of_fault runs (runsDry_fault s ch e)

theorem dryTimer_faults {s : State} {ch : Fin 8} {e : Nat} (active : s.life.active = true) (pump : s.sw[ch].fn = .pump)
    (due : s.sw[ch].dry = some e) :
    ∃ t, exec (.dryTimerExpiry ch) s = .next t ∧ t.now = max s.now e ∧ t.sw[ch].state = .fault ∧
      t.sw[ch].endTimer = none ∧ t.sw[ch].trips = s.sw[ch].trips ∧ t.wf.locks.fault = true ∧
      t.nc.flags.channelFault = true ∧ OtherChannels ch s t ∧ Changes [.clock, .channels] s t := by
  obtain ⟨now, -, others, changes⟩ := channel_event (s := s) (e := e) (f := Channel.enterFault) (u := s.runsDry ch e) rfl rfl
  obtain ⟨lock, flag⟩ := runsDry_locks (e := e) active pump
  have trips : (s.runsDry ch e).finish.sw[ch].trips = s.sw[ch].trips := by
    rw [(finish_channel (s.runsDry ch e) ch).2.2.1, runsDry_get]
    rfl
  have run : exec (.dryTimerExpiry ch) s = .next (s.runsDry ch e).finish := congrArg Host.Outcome.next (onExpiry_of due)
  have ended : (s.runsDry ch e).finish.sw[ch].endTimer = none := by
    have cold : (s.runsDry ch e).sw[ch].heater = false := by
      rw [runsDry_get]
      exact heater_of_pump (c := s.sw[ch].enterFault) pump
    obtain ⟨-, timer, -⟩ := Channel.core_eq_iff.1 (finish_core (s := s.runsDry ch e) fun k => absurd k (by rw [cold]; nofun))
    rw [timer, runsDry_get]
    rfl
  exact ⟨(s.runsDry ch e).finish, run, now, runsDry_fault s ch e, ended, trips, lock, flag, others, changes⟩

/-! ### The dump (R122) -/

theorem Channel.openValve_record (now : Nat) (c : Channel) : (c.openValve now).record = c.record := by
  unfold Channel.openValve
  split
  · exact Channel.record_of_body (Channel.requestWith_body c now (some (now + Config.valveRunS * 1000)))
  · exact Channel.record_of_body (d := c.requestTimed now Config.valveRunS) (Channel.requestWith_body c now _)

theorem Channel.openValve_request (now : Nat) (c : Channel) : (c.openValve now).request = true := by
  unfold Channel.openValve
  split
  next f =>
    unfold Channel.requestTimed Channel.requestWith
    rw [if_pos f]
  next n => exact (Channel.requestWith_spec n _).1

theorem Channel.openValve_runs {now : Nat} {c : Channel} (n : c.state ≠ .fault) :
    (c.openValve now).exempt = true ∧ (c.openValve now).endTimer = some (now + 20000) := by
  unfold Channel.openValve
  rw [if_neg n]
  exact ⟨rfl, (Channel.requestWith_spec n _).2.1⟩

section
variable (s : State) (i : Fin 8)

theorem State.onTankHeat_get (tank : Nat) (f : Channel → Channel) :
    (s.onTankHeat tank f).sw[i] = if s.sw[i].fn = .tankHeat ∧ s.sw[i].inst = tank then f s.sw[i] else s.sw[i] := by
  simp [State.onTankHeat]

theorem frame_onTankHeat (tank : Nat) (f : Channel → Channel) (r : ∀ c, (f c).record = c.record) :
    Frame [.channels] s (s.onTankHeat tank f) :=
  frame_onChannels_any s _ fun c => by
    split
    · exact r c
    · rfl

theorem State.dump_sw : s.dump.sw[i] =
    ((s.onFunction .dumpValve (Channel.openValve s.now)).onTankHeat freshTank Channel.requestOff).sw[i] := rfl

theorem State.dump_valve {i : Fin 8} (v : s.sw[i].fn = .dumpValve) : s.dump.sw[i] = s.sw[i].openValve s.now := by
  have opened : (s.onFunction .dumpValve (Channel.openValve s.now)).sw[i] = s.sw[i].openValve s.now := by
    rw [State.onFunction_get, if_pos v]
  have fn : (s.sw[i].openValve s.now).fn = .dumpValve := (Channel.fn_of_record (Channel.openValve_record _ _)).trans v
  rw [State.dump_sw, State.onTankHeat_get, opened, if_neg (fun h => by rw [fn] at h; exact absurd h.1 (by nofun))]

theorem State.dump_other {i : Fin 8} (v : s.sw[i].fn ≠ .dumpValve) : s.dump.sw[i] =
    if s.sw[i].fn = .tankHeat ∧ s.sw[i].inst = 1 then s.sw[i].requestOff else s.sw[i] := by
  have stays : (s.onFunction .dumpValve (Channel.openValve s.now)).sw[i] = s.sw[i] := by
    rw [State.onFunction_get, if_neg v]
  rw [State.dump_sw, State.onTankHeat_get, stays]
  rfl

theorem frame_dump : Frame [.water, .channels] s s.dump := by
  have c : Composes [.water, .channels] := by simp [Composes]
  have valves := frame_onFunction_any s .dumpValve (Channel.openValve s.now) (Channel.openValve_record s.now)
  have heaters := frame_onTankHeat (s.onFunction .dumpValve (Channel.openValve s.now)) freshTank Channel.requestOff
    fun _ => rfl
  exact (((valves.widen (by simp)).seq c heaters (by simp)).seq c
    (frame_onWater ((s.onFunction .dumpValve (Channel.openValve s.now)).onTankHeat freshTank Channel.requestOff)
      fun w => { w with fresh := .dumped, dumpTimer := none }) (by simp)).seq c (frame_valveRuns _) (by simp)

theorem State.valveRuns_of {u : State} {i : Fin 8} (v : u.sw[i].fn = .dumpValve) (x : u.sw[i].exempt = true) :
    u.valveRuns.wf.valveRun = true := by
  refine (State.anyChannel_iff (p := fun c => c.fn = .dumpValve && c.exempt)).2 ⟨i, ?_⟩
  show (decide (u.sw[i].fn = .dumpValve) && u.sw[i].exempt) = true
  rw [v, x]
  rfl

/-- The valve run is in progress once a valve is exempt. -/
theorem State.dump_valveRun {i : Fin 8} (v : s.sw[i].fn = .dumpValve) (n : s.sw[i].state ≠ .fault) :
    s.dump.wf.valveRun = true := by
  refine State.valveRuns_of (i := i) ?_ ?_
  · show s.dump.sw[i].fn = .dumpValve
    rw [s.dump_valve v, Channel.fn_of_record (Channel.openValve_record _ _)]
    exact v
  · show s.dump.sw[i].exempt = true
    rw [s.dump_valve v]
    exact (Channel.openValve_runs n).1

end

theorem heater_of_valve {c : Channel} (h : c.fn = .dumpValve) : c.heater = false :=
  Channel.heater_eq_false (by rw [h]; nofun) (by rw [h]; nofun)

theorem heater_of_tankHeat {c : Channel} (h : c.fn = .tankHeat) : c.heater = false :=
  Channel.heater_eq_false (by rw [h]; nofun) (by rw [h]; nofun)

theorem dumpTimer_dumps {s : State} {e : Nat} (active : s.life.active = true) (pending : s.wf.fresh = .dumpPending)
    (due : s.wf.dumpTimer = some e) :
    ∃ t, exec .dumpTimerExpiry s = .next t ∧ t.now = max s.now e ∧ t.wf.fresh = .dumped ∧ t.wf.dumpTimer = none ∧
      t.nc.flags.dumped = true ∧ t.wf.locks.dumped = true ∧
      (∀ i : Fin 8, s.sw[i].fn = .dumpValve →
        t.sw[i].request = true ∧ (s.sw[i].state ≠ .fault →
          t.sw[i].exempt = true ∧ t.sw[i].endTimer = some (max s.now e + 20000) ∧ t.wf.valveRun = true)) ∧
      (∀ i : Fin 8, s.sw[i].fn = .tankHeat → s.sw[i].inst = 1 → t.sw[i].request = false) ∧
      (∀ i : Fin 8, s.sw[i].fn ≠ .dumpValve → ¬ (s.sw[i].fn = .tankHeat ∧ s.sw[i].inst = 1) →
        s.sw[i].Kept (s.ht.burner = .firing) t.sw[i]) ∧
      Changes [.clock, .water, .channels] s t := by
  have run : exec .dumpTimerExpiry s = .next (s.reach e).dump.finish := by
    refine congrArg Host.Outcome.next ?_
    rw [if_pos pending]
    exact onExpiry_of due
  have c : Composes [.clock, .water, .channels] := by simp [Composes]
  have frame : Frame [.clock, .water, .channels] s (s.reach e).dump :=
    ((frame_reach s e).widen (by simp)).seq c (frame_dump _) (by simp)
  have wf : (s.reach e).dump.finish.wf = _ := finish_wf (s.reach e).dump
  have fresh : (s.reach e).dump.finish.wf.fresh = .dumped := by
    rw [wf]
    rfl
  have timer : (s.reach e).dump.finish.wf.dumpTimer = none := by
    rw [wf]
    rfl
  have runs : (s.reach e).dump.life.active = true := active
  have life : (s.reach e).dump.life = .commissioning ↔ s.life = .commissioning := Iff.rfl
  have cold {i : Fin 8} (h : (s.reach e).dump.sw[i].heater = false) :=
    Channel.core_eq_iff.1 (finish_core (s := (s.reach e).dump) (i := i) fun k => absurd k (by rw [h]; nofun))
  refine ⟨_, run, by rw [finish_now]; rfl, fresh, timer, ?_, ?_, fun i v => ?_, fun i h inst => ?_, fun i v h => ?_,
    Changes.of_frame c (by simp) frame life⟩
  · rw [flags_of_active runs]
    exact decide_eq_true fresh
  · rw [(locks_finish _ (finish_active _ runs)).1]
    exact decide_eq_true fresh
  · have get := (s.reach e).dump_valve v
    have heater : (s.reach e).dump.sw[i].heater = false := by
      rw [get, Channel.heater_of_record (Channel.openValve_record _ _)]
      exact heater_of_valve v
    obtain ⟨request, endTimer, -, -, -, exempt, -⟩ := cold heater
    refine ⟨request.trans (by rw [get]; exact Channel.openValve_request _ _), fun n => ?_⟩
    obtain ⟨o1, o2⟩ := Channel.openValve_runs (now := max s.now e) n
    exact ⟨exempt.trans (by rw [get]; exact o1), endTimer.trans (by rw [get]; exact o2),
      (finish_valveRun _).trans ((s.reach e).dump_valveRun v n)⟩
  · have get := (s.reach e).dump_other (i := i) (by show s.sw[i].fn ≠ _; rw [h]; nofun)
    have get := get.trans (if_pos ⟨h, inst⟩)
    have heater : (s.reach e).dump.sw[i].heater = false := by
      rw [get]
      exact heater_of_tankHeat (c := s.sw[i].requestOff) h
    obtain ⟨request, -⟩ := cold heater
    exact request.trans (by rw [get]; rfl)
  · have get := (s.reach e).dump_other (i := i) v
    have get := get.trans (if_neg h)
    have kept := finish_channel (s.reach e).dump i
    rw [get] at kept
    exact kept

/-- Settles O38: the run of pulses by induction, the two timers by what they do to their channels. -/
theorem pulsesDryRunsAndDumps : Obligations.PulsesDryRunsAndDumps :=
  ⟨⟨fun _ active routed _ => flowPulse_counts active routed, fun n w p r l => by
      rw [convertPulses_run n p r l]
      exact ⟨rfl, rfl⟩⟩,
    fun _ active => ⟨fun _ _ pump due => dryTimer_faults active pump due,
      fun _ pending due => dumpTimer_dumps active pending due⟩⟩

end Sys2Proof.Machine
end

section
/-! PROOFS. O24: the end of the restore holdoff. -/

namespace Sys2Proof.Machine

/-! ### The queue and the kept answers -/

/-- Only the answers, kept or in the FIFO, and the dispatcher are other. -/
def QueueAlone (s t : State) : Prop := ∃ a b f o, t = { s with
  ma := { s.ma with slot := a }, mb := { s.mb with slot := b }, ts := { s.ts with fifo := f }, od := o }

namespace QueueAlone
variable {s t u : State}

theorem refl (s : State) : QueueAlone s s := ⟨s.ma.slot, s.mb.slot, s.ts.fifo, s.od, rfl⟩

theorem trans (h : QueueAlone s t) (g : QueueAlone t u) : QueueAlone s u := by
  obtain ⟨a, b, f, o, rfl⟩ := h
  obtain ⟨a', b', f', o', rfl⟩ := g
  exact ⟨a', b', f', o', rfl⟩

theorem od (s : State) (o : Dispatcher) : QueueAlone s { s with od := o } := ⟨s.ma.slot, s.mb.slot, s.ts.fifo, o, rfl⟩

theorem clearStore (s : State) : QueueAlone s s.clearStore := ⟨s.ma.slot, s.mb.slot, _, _, rfl⟩

theorem place (s : State) (a : Answer) : QueueAlone s (s.place a) := by
  unfold State.place
  split
  · exact ⟨s.ma.slot, s.mb.slot, _, s.od, rfl⟩
  · exact refl s

theorem placeKept (s : State) (i : DriveId) : QueueAlone s (s.placeKept i) := by
  unfold State.placeKept
  split
  · split
    · refine trans ?_ (place _ _)
      cases i
      · exact ⟨.empty, s.mb.slot, s.ts.fifo, s.od, rfl⟩
      · exact ⟨s.ma.slot, .empty, s.ts.fifo, s.od, rfl⟩
    · exact refl s
  all_goals exact refl s

theorem placeAllKept (s : State) : QueueAlone s s.placeAllKept := by
  unfold State.placeAllKept
  split
  · split <;> exact (placeKept _ _).trans (placeKept _ _)
  · exact (placeKept _ _).trans (placeKept _ _)

theorem takeSettings (s : State) : QueueAlone s s.takeSettings := by
  unfold State.takeSettings
  split
  · split
    · split
      · exact refl s
      · exact od s _
    · exact refl s
  · exact od s _

theorem afterQueue (s : State) : QueueAlone s s.afterQueue :=
  ((placeAllKept s).trans (takeSettings _)).trans (od _ _)

/-- A node that the head of its queue does not wake. -/
theorem dispatch (h : s.life = .dormant → s.takeSettings.addressedHead = false) : QueueAlone s s.dispatch := by
  show QueueAlone s s.afterQueue.headWakes
  unfold State.headWakes
  split
  next head =>
    have awake : s.afterQueue.life ≠ .dormant := fun d => by
      rw [afterQueue_life] at d
      rw [afterQueue_addressedHead, h d] at head
      cases head
    rcases wakeCause_awake awake with e | ⟨-, e⟩ <;> rw [e]
    · exact afterQueue s
    · exact (afterQueue s).trans (clearStore _)
  · exact afterQueue s

end QueueAlone

/-! ### One recomputation on settled inputs -/

section
variable {s : State}

theorem syncFlags_lb (s : State) : s.syncFlags.lb = s.lb := by
  unfold State.syncFlags
  split <;> rfl

theorem syncFlags_ownWants (s : State) : s.syncFlags.ownWants = s.ownWants := by
  unfold State.syncFlags
  split <;> rfl

/-- Locks that are current stay, and with them the wants. -/
theorem syncLocks_ownWants (a : s.life.active = true) (h : LocksCurrent s) : s.syncLocks.ownWants = s.ownWants := by
  refine ownWants_congr (fun i => ?_) rfl rfl
  obtain ⟨locks, inhibit⟩ := h a
  have e : s.syncLocks.sw[i] = { s.sw[i] with inhibit := decide (s.sw[i].fn = ChFn.pump) && s.locksNow.any } := by
    simp [State.syncLocks, State.onChannels]
  rw [e, ← locks, ← inhibit i]
  rfl

/-- Where the burner does not fire, the channels following the pair changes no want and not the Load Budget. -/
theorem channelsFollow_cold (h : s.ht.burner ≠ .firing) :
    s.channelsFollow.lb = s.lb ∧ s.channelsFollow.ownWants = s.ownWants := by
  have still : s.evaluateChannels.heatingReacts = s.evaluateChannels := by
    unfold State.heatingReacts
    split
    next w _ => exact absurd w h
    next w _ => exact absurd w h
    · rfl
  unfold State.channelsFollow
  rw [still, ownWants_evaluateChannels, ownWants_evaluateChannels]
  exact ⟨rfl, rfl⟩

theorem giveGrants_empty (h : s.lb.grants = []) : s.giveGrants = s := by
  have none (i : DriveId) : s.grantListed i = s := by
    unfold State.grantListed
    rw [h]
    rfl
  unfold State.giveGrants
  rw [none, none]
  split <;> rfl

/-- Without a firing burner and without a waiting drive, one recomputation is the last of its instant. -/
theorem recompute_settled (cold : s.ht.burner ≠ .firing) (none : s.lb.grants = []) :
    s.recompute.lb = s.budget ∧ s.recompute.callsForRecompute = false := by
  obtain ⟨lb, wants⟩ := channelsFollow_cold (s := { s with lb := s.budget }) cold
  have grants : ({ s with lb := s.budget } : State).channelsFollow.giveGrants = ({ s with lb := s.budget } : State).channelsFollow :=
    giveGrants_empty (by rw [lb]; exact none)
  have budget : s.recompute.lb = s.budget := by
    unfold State.recompute
    rw [grants, syncFlags_lb, lb]
  have own : s.recompute.ownWants = s.ownWants := by
    unfold State.recompute
    rw [grants, syncFlags_ownWants, wants]
    rfl
  refine ⟨budget, ?_⟩
  unfold State.callsForRecompute
  rw [budget, own]
  simp [State.budget]

end

/-- What follows from an event of such a node that has called for a recomputation: one, on the inputs as they stand. -/
theorem finish_recomputes {s : State} (active : s.life.active = true) (call : s.lb.trigger = true)
    (cold : s.ht.burner ≠ .firing) (none : s.lb.grants = []) (locks : LocksCurrent s)
    (sleeps : s.life = .dormant → s.takeSettings.addressedHead = false) :
    ∃ d : State, s.finish.lb = d.budget ∧ d.now = s.now ∧ d.life = s.life ∧ d.lb = s.lb ∧ d.budget.sRaw = s.budget.sRaw := by
  obtain ⟨a, b, f, o, e⟩ := QueueAlone.dispatch sleeps
  have locks : LocksCurrent s.dispatch := by
    rw [e]
    exact locks
  have wants : s.dispatch.syncLocks.ownWants = s.ownWants := by
    rw [syncLocks_ownWants (by rw [e]; exact active) locks, e]
    rfl
  have lb : s.dispatch.syncLocks.lb = s.lb := by
    rw [e]
    rfl
  have follow : s.dispatch.follow = s.dispatch.syncLocks.recompute := by
    refine if_pos ?_
    unfold State.callsForRecompute
    rw [lb, call]
    rfl
  obtain ⟨budget, last⟩ := recompute_settled (s := s.dispatch.syncLocks) (by rw [e]; exact cold) (by rw [lb]; exact none)
  have chain : s.dispatch.settle = s.dispatch.syncLocks.recompute := by
    have run : s.dispatch.settle = s.dispatch.followAll 8 := if_pos (by rw [e]; exact active)
    rw [run, State.followAll, follow]
    exact if_neg (by rw [last]; nofun)
  have raw : s.dispatch.syncLocks.rawWith s.ownWants = s.rawWith s.ownWants := by
    rw [e]
    rfl
  refine ⟨s.dispatch.syncLocks, ?_, by rw [e]; rfl, by rw [e]; rfl, lb, ?_⟩
  · show s.dispatch.settle.syncFlags.lb = _
    rw [syncFlags_lb, chain, budget]
  · rw [State.budget_sRaw_eq, State.budget_sRaw_eq, wants, raw]

theorem Shed.up_rank {x : Shed} (h : x.rank < 4) : x.up.rank = x.rank + 1 := by
  cases x with
  | allShed => rfl
  | upTo k =>
    fin_cases k
    · rfl
    · rfl
    · rfl
    · exact absurd h (by decide)

/-- The end of the holdoff, before what follows from it. -/
def State.holdoffEnds (e : Nat) (s : State) : State :=
  { s.reach e with lb := { s.lb with s := s.lb.s.up, holdoff := none, trigger := true } }

theorem holdoffEnds_addressedHead (s : State) (e : Nat) :
    (s.holdoffEnds e).takeSettings.addressedHead = s.takeSettings.addressedHead := by
  unfold State.addressedHead
  rw [(takeSettings_congr (s := s) (t := s.holdoffEnds e) rfl rfl rfl).1]

theorem frame_holdoffEnds (s : State) (e : Nat) : Frame [.clock] s (s.holdoffEnds e) := by
  intro b n
  cases b <;> simp at n
  case channels => exact same_channels rfl rfl
  all_goals simp [Same, Drive.Stands.refl, State.life, State.answers, State.drive, State.holdoffEnds, State.reach]

/-- Settles O24: the expiry takes S up and calls for one recomputation, whose step 4 then finds S_raw below, at or above it. -/
theorem holdoffExpiryRaisesOneClass : Obligations.HoldoffExpiryRaisesOneClass := by
  intro s e raw l due first none cold locks sleeps hraw
  have active : s.life.active = true := by rcases l with l | l | l <;> rw [l] <;> rfl
  have works : (s.holdoffEnds e).life ≠ .commissioning := by
    show s.life ≠ _
    rcases l with l | l | l <;> rw [l] <;> nofun
  obtain ⟨d, budget, now, life, lb, same⟩ := finish_recomputes (s := s.holdoffEnds e) active rfl cold none locks
    fun l => (holdoffEnds_addressedHead s e).trans (sleeps l)
  have hraw : d.budget.sRaw = some raw := same.trans hraw
  have step := State.budget_shedStep hraw
  rw [life, now, lb] at step
  have level : d.budget.s = _ := congrArg Prod.fst step
  have holdoff : d.budget.holdoff = _ := congrArg (fun x => x.2.1) step
  refine ⟨(s.holdoffEnds e).finish, congrArg Host.Outcome.next (onExpiry_of due), by rw [finish_now]; rfl, ?_,
    Shed.up_rank, fun le => ?_, fun lt => ?_,
    Changes.of_frame (by simp [Composes]) (by simp) (frame_holdoffEnds s e) Iff.rfl⟩
  · rw [budget, level]
    split
    next le => rw [(shedStep_cases works).2.1 (.inr le)]
    next n => exact (shedStep_cases works).2.2 first (Nat.lt_of_not_le n)
  · rw [budget, holdoff, (shedStep_cases works).2.1 (.inr le)]
  · rw [budget, holdoff]
    exact congrArg (fun x => x.2.1) (shedStep_of_below (lb := (s.holdoffEnds e).lb) (max s.now e) _ works first lt)

end Sys2Proof.Machine
end

section
/-! PROOFS. O23: a recomputation grants the waiting drives, or none. -/

namespace Sys2Proof.Machine

variable {s t u : State} {i : DriveId}

/-! ### What reaches one drive leaves the other -/

/-- Every drive but one, with its place in the grant list, is the same. -/
def Apart (i : DriveId) (s t : State) : Prop := ∀ j, j ≠ i → t.drive j = s.drive j ∧ t.listed j = s.listed j

namespace Apart

theorem refl (i : DriveId) (s : State) : Apart i s s := fun _ _ => ⟨rfl, rfl⟩

theorem trans (h : Apart i s t) (g : Apart i t u) : Apart i s u := fun j n =>
  ⟨(g j n).1.trans (h j n).1, (g j n).2.trans (h j n).2⟩

theorem setDrive (s : State) (i : DriveId) (d : Drive) : Apart i s (s.setDrive i d) := fun j n =>
  ⟨State.drive_setDrive_ne s n d, by cases i <;> rfl⟩

theorem onDrive (s : State) (i : DriveId) (f : Drive → Drive) : Apart i s (s.onDrive i f) := setDrive s i _

theorem place (s : State) (i : DriveId) (a : Answer) : Apart i s (s.place a) := by
  unfold State.place
  split
  · exact fun j _ => ⟨by cases j <;> rfl, rfl⟩
  · exact refl i s

theorem reply (s : State) (i : DriveId) (r : Option Requester) (c : AnswerCode) : Apart i s (s.reply r c) := by
  cases r with
  | none => exact refl i s
  | some r => exact place s i _

theorem resolve (s : State) (i : DriveId) (c : AnswerCode) : Apart i s (s.resolve i c) := by
  unfold State.resolve
  split
  · split
    · exact (onDrive s i _).trans (place _ i _)
    · exact onDrive s i _
  all_goals exact refl i s

/-- The places of the others in the list. -/
theorem listed_filter {gs : List Grantee} {i j : DriveId} (n : j ≠ i) :
    (gs.filter fun g => g.drive ≠ i).any (·.drive = j) = gs.any (·.drive = j) := by
  induction gs with
  | nil => rfl
  | cons g gs ih =>
    by_cases e : g.drive = i
    · have other : g.drive ≠ j := fun h => n (h.symm.trans e)
      rw [List.filter_cons_of_neg (by simpa using e), ih, List.any_cons, decide_eq_false other, Bool.false_or]
    · rw [List.filter_cons_of_pos (by simpa using e), List.any_cons, List.any_cons, ih]

theorem leaveGrantList (s : State) (i : DriveId) : Apart i s (s.leaveGrantList i) := fun _ n =>
  ⟨State.drive_leaveGrantList _ _ _, listed_filter n⟩

theorem evaluateForced (s : State) (i : DriveId) : Apart i s (s.evaluateForced i) := by
  have wait (f : Drive → Drive) : Apart i s (((s.resolve i .cancelled).leaveGrantList i).onDrive i f) :=
    ((resolve s i _).trans (leaveGrantList _ i)).trans (onDrive _ i f)
  unfold State.evaluateForced
  dsimp only
  split
  case h_4 => exact refl i s
  all_goals
    split
    case h_7 =>
      split
      all_goals exact wait _
    case h_8 | h_9 => exact refl i s
    all_goals exact setDrive s i _

theorem comeToRest (s : State) (i : DriveId) (st : DriveState) : Apart i s (s.comeToRest i st) :=
  (onDrive s i _).trans (evaluateForced _ i)

theorem returnToOrigin (s : State) (i : DriveId) : Apart i s (s.returnToOrigin i) :=
  (leaveGrantList s i).trans (comeToRest _ i _)

theorem grant (s : State) (i : DriveId) : Apart i s (s.grant i) := by
  unfold State.grant
  dsimp only
  split
  · split
    · exact (resolve s i _).trans (returnToOrigin _ i)
    · exact ((resolve s i _).trans (leaveGrantList _ i)).trans (onDrive _ i _)
  · exact leaveGrantList s i

theorem grantListed (s : State) (i : DriveId) : Apart i s (s.grantListed i) := by
  unfold State.grantListed
  split
  · exact grant s i
  · exact refl i s

end Apart

/-! ### One grant -/

/-- A granted drive starts its travel, its answer aside. -/
theorem grant_starts {dir : Dir} (wait : (s.drive i).state = .waitGrant) (d : (s.drive i).direction = some dir)
    (passes : dir = .extend → extendRefusal (s.drive i).fn s.interlock = none) :
    ∃ sl, (s.grant i).drive i = Drive.travel s.now dir { s.drive i with slot := sl } := by
  have allowed : ¬ ((s.drive i).direction = some .extend ∧ extendRefusal (s.drive i).fn s.interlock ≠ none) := fun h => by
    rw [d] at h
    exact h.2 (passes (Option.some.inj h.1))
  obtain ⟨sl, e⟩ := s.drive_resolve i .started
  refine ⟨sl, ?_⟩
  unfold State.grant
  dsimp only
  rw [if_pos wait, if_neg allowed, d]
  show ((((s.resolve i .started).leaveGrantList i).setDrive i _).drive i) = _
  rw [State.drive_setDrive, State.drive_leaveGrantList, e]
  rfl

/-- A retraction at most starts where a drive comes to rest in RETRACTED or PARKED. -/
theorem comeToRest_inward (l : s.life.operating = true) {st : DriveState} (h : st = .retracted ∨ st = .parked) :
    ((s.comeToRest i st).drive i).state ≠ .waitGrant ∧ ((s.comeToRest i st).drive i).state ≠ .extending := by
  have still {d : Drive} (e : d = (s.drive i).rest st) : d.state ≠ .waitGrant ∧ d.state ≠ .extending := by
    rw [e]
    rcases h with h | h <;> subst h <;> exact ⟨nofun, nofun⟩
  rcases h with h | h
  · exact still (comeToRest_stays (.inl h))
  · cases c : forcedCauseOf (s.drive i).fn s.interlock with
    | none => exact still (comeToRest_stays (.inr (.inr c)))
    | some c' =>
      by_cases f : (s.drive i).forced = none
      · rw [comeToRest_starts l f c (.inr (.inl h))]
        exact ⟨nofun, nofun⟩
      · have drive : (s.onDrive i (Drive.rest st)).drive i = (s.drive i).rest st := State.drive_setDrive _ _ _
        refine still ?_
        unfold State.comeToRest
        rw [evaluateForced_forced (by rw [drive]; exact f), drive]

/-- An extension that the view refuses leaves the wait inward. -/
theorem grant_refused (l : s.life.operating = true) (wait : (s.drive i).state = .waitGrant)
    (d : (s.drive i).direction = some .extend) (r : extendRefusal (s.drive i).fn s.interlock ≠ none)
    (o : (s.drive i).origin = some .retracted ∨ (s.drive i).origin = some .parked) :
    ((s.grant i).drive i).state ≠ .waitGrant ∧ ((s.grant i).drive i).state ≠ .extending := by
  obtain ⟨sl, e⟩ := s.drive_resolve i .refusedInterlock
  have life : ((s.resolve i .refusedInterlock).leaveGrantList i).life = s.life :=
    congrArg NodeControl.life (show ((s.resolve i .refusedInterlock).leaveGrantList i).nc = s.nc by
      have alone : MotionAlone s ((s.resolve i .refusedInterlock).leaveGrantList i) :=
        (motionKeeps_alone s).leaveGrantList i ((motionKeeps_alone s).resolve i _ rfl)
      rw [alone])
  unfold State.grant
  dsimp only
  rw [if_pos wait, if_pos ⟨d, r⟩]
  unfold State.returnToOrigin
  rw [e]
  refine comeToRest_inward (by rw [life]; exact l) ?_
  rcases o with o | o <;> rw [show ({ s.drive i with slot := sl } : Drive).origin = _ from o]
  · exact .inl rfl
  · exact .inr rfl

/-! ### Both grants -/

theorem grantListed_of (h : s.listed i = true) : s.grantListed i = s.grant i := if_pos h

/-- What one of the two grants makes of its drive, where the other has come before it or comes after it. -/
theorem grants_reach (h : s.listed i = true) : ∃ v : State, MotionAlone s v ∧ v.drive i = s.drive i ∧
    ((s.grantListed .ma).grantListed .mb).drive i = (v.grant i).drive i ∧
    ((s.grantListed .ma).grantListed .mb).listed i = false := by
  cases i with
  | ma =>
    obtain ⟨drive, listed⟩ := Apart.grantListed (s.grantListed .ma) .mb .ma (by nofun)
    rw [grantListed_of h] at drive listed ⊢
    exact ⟨s, rfl, rfl, drive, listed.trans (grant_unlists s .ma)⟩
  | mb =>
    obtain ⟨drive, listed⟩ := Apart.grantListed s .ma .mb (by nofun)
    have alone : MotionAlone s (s.grantListed .ma) := by
      unfold State.grantListed
      split
      · exact (motionKeeps_alone s).grant .ma rfl
      · rfl
    rw [grantListed_of (listed.trans h)]
    exact ⟨s.grantListed .ma, alone, drive, rfl, grant_unlists _ .mb⟩

/-- What the grants of a recomputation find. -/
theorem recompute_grants (s : State) : ∃ m : State, (∀ j, m.drive j = s.drive j) ∧ m.lb = s.budget ∧ m.life = s.life ∧
    m.interlock = s.interlock ∧ m.now = s.now ∧ (∀ j, s.recompute.drive j = m.giveGrants.drive j) ∧
    s.recompute.lb = m.giveGrants.lb := by
  have reacts := (units_heatingReacts ({ s with lb := s.budget } : State).evaluateChannels).rest
  have same : ({ s with lb := s.budget } : State).channelsFollow =
      { s with
        lb := s.budget
        sw := ({ s with lb := s.budget } : State).channelsFollow.sw
        wf := ({ s with lb := s.budget } : State).channelsFollow.wf
        ht := ({ s with lb := s.budget } : State).channelsFollow.ht
        light := ({ s with lb := s.budget } : State).channelsFollow.light } := by
    unfold State.channelsFollow
    rw [reacts]
    rfl
  refine ⟨({ s with lb := s.budget } : State).channelsFollow, fun j => ?_, ?_, ?_, ?_, ?_, fun j => ?_, syncFlags_lb _⟩
  · rw [same]
    cases j <;> rfl
  · rw [same]
  · rw [same]
    rfl
  · rw [same]
  · rw [same]
  · unfold State.recompute State.syncFlags
    split
    · rfl
    · cases j <;> rfl

/-- Settles O23: the grants of the recomputation on the pair it has found, drive by drive. -/
theorem grantsFollowTheLimit : Obligations.GrantsFollowTheLimit := by
  rintro s i dir run wait d ⟨g, mem, mine⟩
  obtain ⟨m, drive, lb, life, interlock, now, drives, list⟩ := recompute_grants s
  refine ⟨fun shed fits => ?_, fun none => ?_⟩
  · have gives : m.giveGrants = (m.grantListed .ma).grantListed .mb :=
      if_pos ⟨life.trans run, by rw [lb]; exact shed, by rw [lb]; exact fits⟩
    have listed : m.listed i = true := by
      unfold State.listed
      rw [lb]
      exact List.any_eq_true.2 ⟨g, mem, decide_eq_true mine⟩
    obtain ⟨v, alone, at_i, granted, gone⟩ := grants_reach listed
    have at_i := at_i.trans (drive i)
    have view : v.interlock = s.interlock := alone.interlock.trans interlock
    have clock : v.now = s.now := by rw [show v.now = m.now by rw [alone], now]
    rw [drives i, gives, granted, list, gives]
    refine ⟨fun g mem e => ?_, fun passes => ?_, fun out refused o => ?_⟩
    · exact absurd (List.any_eq_true.2 ⟨g, mem, decide_eq_true e⟩) (by rw [← State.listed, gone]; nofun)
    · obtain ⟨sl, e⟩ := grant_starts (s := v) (i := i) (dir := dir) (by rw [at_i]; exact wait) (by rw [at_i]; exact d)
        (by rw [at_i, view]; exact passes)
      rw [e, at_i, clock]
      exact ⟨rfl, rfl, rfl⟩
    · subst out
      refine grant_refused (by rw [alone.life, life, run]; rfl) ?_ ?_ ?_ ?_ <;> rw [at_i]
      · exact wait
      · exact d
      · rw [view]
        exact refused
      · exact o
  · have stays : m.giveGrants = m := if_neg fun ⟨_, shed, fits⟩ => by
      rw [lb] at shed fits
      rcases none with none | none
      · exact shed none
      · omega
    rw [drives i, stays, drive i]

end Sys2Proof.Machine
end

section
/-! PROOFS. O11: the three ends of the window. -/

namespace Sys2Proof.Machine

/-! ### What an evaluation of the Heating unit leaves -/

/-- What neither an evaluation nor the burner touches: the enables, the setpoint, the parameters and the next evaluation. -/
def Heating.settings (h : Heating) : Bool × Bool × Int × HtParams × Timer :=
  (h.heaterEnabled, h.frostHoldEnabled, h.setpoint, h.params, h.next)

theorem Heating.settings_eq_iff {g h : Heating} : g.settings = h.settings ↔ g.heaterEnabled = h.heaterEnabled ∧
    g.frostHoldEnabled = h.frostHoldEnabled ∧ g.setpoint = h.setpoint ∧ g.params = h.params ∧ g.next = h.next := by
  simp [Heating.settings]

section
variable (s : State)

theorem enterFiring_ht : s.enterFiring.ht = { s.ht with burner := .firing, lit := false } := rfl

theorem tryFire_settings : s.tryFire.ht.settings = s.ht.settings := by
  unfold State.tryFire
  split <;> rfl

theorem giveBurnerClass_ht : s.giveBurnerClass.ht = s.ht := by
  unfold State.giveBurnerClass
  split <;> rfl

theorem actOnBurner_settings : s.actOnBurner.ht.settings = s.ht.settings := by
  have given := congrArg Heating.settings (giveBurnerClass_ht s)
  unfold State.actOnBurner
  split
  · exact tryFire_settings s
  · split
    · exact given
    · rfl
  · split
    · rfl
    · exact given
  · rfl
  · rfl

theorem heatingEvaluates_settings : s.heatingEvaluates.ht.settings = s.ht.settings := by
  have chosen : s.chooseCabin.ht.settings = s.ht.settings := by
    unfold State.chooseCabin
    split <;> rfl
  unfold State.heatingEvaluates
  split
  · exact (actOnBurner_settings _).trans chosen
  · rfl

end

theorem Same.settings {s t : State} (h : Same .heating s t) : t.ht.settings = s.ht.settings := by
  rw [show t.ht = _ from h.1]
  rfl

theorem finish_settings (s : State) : s.finish.ht.settings = s.ht.settings := ((finish_changes s).1 .heating (by simp)).settings

/-! ### The start of the units -/

theorem Same.window {s t : State} (h : Same .node s t) : t.nc.closing = s.nc.closing ∧ t.nc.limit = s.nc.limit ∧
    t.nc.started = s.nc.started ∧ t.nc.strap = s.nc.strap := by
  rw [show t.nc = _ from h]
  exact ⟨rfl, rfl, rfl, rfl⟩

theorem startUnits_nc (s : State) : s.startUnits.nc = { s.nc with started := true } := by
  unfold State.startUnits
  dsimp only
  rw [(heater_heatingEvaluates _).rest]
  rfl

theorem startUnits_settings (s : State) : s.startUnits.ht.settings =
    (s.ht.params.heaterEnable, s.ht.params.frostHoldEnable, s.ht.setpoint, s.ht.params, some (s.now + 1000)) :=
  heatingEvaluates_settings _

/-- The units start and the drives evaluate their forced causes. -/
def State.opens (s : State) : State := s.startUnits.evaluateBothForced

section
variable (s : State)

theorem frame_opens : Frame [.node, .heating, .channels, .drives] s s.opens :=
  ((frame_startUnits s).widen (by simp)).seq (by simp [Composes]) (frame_evaluateBothForced _) (by simp)

theorem opens_life : s.opens.life = s.life := (State.evaluateBothForced_life _).trans (State.startUnits_life s)

theorem opens_window : s.opens.nc.closing = s.nc.closing ∧ s.opens.nc.limit = s.nc.limit ∧ s.opens.nc.started = true ∧
    s.opens.nc.strap = s.nc.strap := by
  obtain ⟨w1, w2, w3, w4⟩ := (frame_evaluateBothForced s.startUnits .node (by simp)).window
  rw [startUnits_nc] at w1 w2 w3 w4
  exact ⟨w1, w2, w3, w4⟩

theorem opens_settings : s.opens.ht.settings =
    (s.ht.params.heaterEnable, s.ht.params.frostHoldEnable, s.ht.setpoint, s.ht.params, some (s.now + 1000)) :=
  (frame_evaluateBothForced _ .heating (by simp)).settings.trans (startUnits_settings s)

/-! ### The end of the window -/

/-- The window is closed: both timers stopped, and the settings left in the queue discarded (R141, R176). -/
def State.closes : State :=
  { s with
    nc := { s.nc with closing := none, limit := none }
    od := { s.od with inHand := none, iq := dropSettings s.od.iq } }

theorem frame_closes : Frame [.node, .inbound] s s.closes := by
  intro b n
  cases b <;> simp at n
  case channels => exact same_channels rfl rfl
  all_goals simp [Same, Drive.Stands.refl, State.life, State.answers, State.drive, State.closes]

/-- The life state after the window, before the units start. -/
def State.leavesWindow : State :=
  if s.pt.clash then (s.changeLife .listenOnly).stopSending.stopMeasurePeriod.clearStore
  else (s.changeLife .run).startMeasurePeriod

theorem frame_leavesWindow : Frame [.life, .drives, .scheduler] s s.leavesWindow := by
  have c : Composes [.life, .drives, .scheduler] := by simp [Composes]
  unfold State.leavesWindow
  split
  · exact (((frame_changeLife .listenOnly s).seq c (frame_stopSending _) (by simp)).seq c (frame_measurePeriod _ none)
      (by simp)).seq c (frame_clearStore _) (by simp)
  · exact (frame_changeLife .run s).seq c (frame_measurePeriod _ _) (by simp)

theorem leavesWindow_life : s.leavesWindow.life = if s.pt.clash then .listenOnly else .run := by
  unfold State.leavesWindow
  split
  · have l := s.changeLife_life .listenOnly
    unfold State.stopSending
    split <;> exact l
  · exact s.changeLife_life .run

variable {s : State}

/-- Before the end of the window nothing has started and no restart is pending. -/
theorem endWindow_eq (n : s.nc.started = false) (r : s.od.restartPending = false) : s.endWindow = s.closes.leavesWindow.opens := by
  have still : (s.closes.changeLife .listenOnly).stopSending.stopMeasurePeriod.clearStore.nc.started = false := by
    have f := ((frame_changeLife .listenOnly s.closes).seq (by simp [Composes]) (frame_stopSending _) (by simp)) .node (by simp)
    exact f.window.2.2.1.trans n
  unfold State.endWindow State.leavesWindow
  show (if s.closes.pt.clash = true then s.closes.enterListenOnly else s.closes.enterRun) = _
  split
  · unfold State.enterListenOnly
    rw [if_neg (by rw [show s.closes.od.restartPending = _ from r]; nofun)]
    dsimp only
    rw [if_neg (by rw [still]; nofun)]
    rfl
  · rfl

end

theorem dropSettings_dropSettings (es : List Entry) : dropSettings (dropSettings es) = dropSettings es := by
  induction es with
  | nil => rfl
  | cons e es ih =>
    by_cases o : e.operate = true
    · have keeps : dropSettings (e :: es) = e :: es := if_pos o
      rw [keeps, keeps]
    · have drops : dropSettings (e :: es) = dropSettings es := if_neg o
      rw [drops, ih]

/-- The end of the window at any instant. -/
theorem endWindow_opens {s : State} (l : s.life = .commissioning) (n : s.nc.started = false)
    (r : s.od.restartPending = false) :
    s.endWindow.finish.now = s.now ∧ s.endWindow.finish.nc.closing = none ∧ s.endWindow.finish.nc.limit = none ∧
      s.endWindow.finish.nc.started = true ∧ s.endWindow.finish.od.inHand = none ∧
      s.endWindow.finish.od.iq = dropSettings s.od.iq ∧
      (s.pt.clash = false → s.endWindow.finish.life = .run ∧
        s.endWindow.finish.ts.measurePeriod = some (s.now + 5000)) ∧
      (s.pt.clash = true → s.endWindow.finish.life = .listenOnly ∧ s.endWindow.finish.sending = false ∧
        s.endWindow.finish.trvDriven = false) ∧
      s.endWindow.finish.ht.heaterEnabled = s.ht.params.heaterEnable ∧
      s.endWindow.finish.ht.frostHoldEnabled = s.ht.params.frostHoldEnable ∧
      s.endWindow.finish.ht.next = some (s.now + 1000) ∧ s.endWindow.finish.nc.strap = s.nc.strap ∧
      Frame [.life, .node, .inbound, .heating, .channels, .drives, .scheduler] s s.endWindow.finish := by
  have c : Composes [.life, .node, .inbound, .heating, .channels, .drives, .scheduler] := by simp [Composes]
  have close : Frame [.life, .node, .inbound, .drives, .scheduler] s s.closes.leavesWindow :=
    ((frame_closes s).widen (by simp)).seq (by simp [Composes]) (frame_leavesWindow _) (by simp)
  have frame : Frame [.life, .node, .inbound, .heating, .channels, .drives, .scheduler] s s.closes.leavesWindow.opens :=
    (close.widen (by simp)).seq c (frame_opens _) (by simp)
  have lifeIs : s.closes.leavesWindow.opens.life = if s.pt.clash then .listenOnly else .run :=
    (opens_life _).trans (leavesWindow_life _)
  have awake : s.closes.leavesWindow.opens.life ≠ .dormant ∧ s.closes.leavesWindow.opens.life ≠ .commissioning := by
    rw [lifeIs]
    split <;> exact ⟨nofun, nofun⟩
  have life : s.closes.leavesWindow.opens.finish.life = s.closes.leavesWindow.opens.life := finish_life _ awake.1
  have now : s.closes.leavesWindow.now = s.now := close .clock (by simp)
  have params : s.closes.leavesWindow.ht.params = s.ht.params :=
    (Heating.settings_eq_iff.1 (close .heating (by simp)).settings).2.2.2.1
  obtain ⟨enabled, hold, -, -, next⟩ := Heating.settings_eq_iff (h := { s.ht with
    heaterEnabled := s.ht.params.heaterEnable, frostHoldEnabled := s.ht.params.frostHoldEnable
    setpoint := s.closes.leavesWindow.ht.setpoint, next := some (s.now + 1000) }).1
    (((finish_settings _).trans (opens_settings s.closes.leavesWindow)).trans (by rw [params, now]; rfl))
  obtain ⟨w1, w2, w3, w4⟩ := ((finish_changes s.closes.leavesWindow.opens).1 .node (by simp)).window
  obtain ⟨o1, o2, o3, o4⟩ := opens_window s.closes.leavesWindow
  obtain ⟨v1, v2, -, v4⟩ := (frame_leavesWindow s.closes .node (by simp)).window
  have inbound : s.closes.leavesWindow.opens.od.iq = dropSettings s.od.iq ∧ s.closes.leavesWindow.opens.od.inHand = none := by
    obtain ⟨i1, i2, -⟩ := ((frame_leavesWindow s.closes).widen (d := [.life, .drives, .scheduler, .node, .heating, .channels])
      (by simp)).seq (by simp [Composes]) (frame_opens s.closes.leavesWindow) (by simp) .inbound (by simp)
    exact ⟨i1, i2⟩
  have handed := (finish_changes s.closes.leavesWindow.opens).2
  have settings : s.closes.leavesWindow.opens.takeSettings.od =
      { s.closes.leavesWindow.opens.od with iq := dropSettings s.closes.leavesWindow.opens.od.iq } := by
    unfold State.takeSettings
    rw [if_neg awake.2]
  rw [endWindow_eq n r]
  refine ⟨(finish_now _).trans (frame .clock (by simp)), w1.trans (o1.trans v1), w2.trans (o2.trans v2), w3.trans o3, ?_, ?_,
    fun k => ⟨?_, ?_⟩, fun k => ⟨?_, ?_, ?_⟩, enabled, hold, next, w4.trans (o4.trans v4),
    frame.seq c (finish_changes _).1 (by simp)⟩
  · rw [handed.2.1, settings]
    exact inbound.2
  · rw [handed.1, settings]
    show dropSettings s.closes.leavesWindow.opens.od.iq = _
    rw [inbound.1, dropSettings_dropSettings]
  · rw [life, lifeIs, k]
    rfl
  · refine (((finish_changes _).1 .scheduler (by simp)).2.2.2 life).trans
      (((frame_opens _ .scheduler (by simp)).2.2.2 (opens_life _)).trans ?_)
    unfold State.leavesWindow
    rw [if_neg (by rw [show s.closes.pt.clash = _ from k]; nofun)]
    obtain ⟨_, _, e⟩ := State.changeLife_eq .run s.closes
    rw [e]
    rfl
  · rw [life, lifeIs, k]
    rfl
  · have active : s.life.active = true := by rw [l]; rfl
    have mute : Mute s.closes.leavesWindow.opens.finish := by
      rw [← endWindow_eq n r]
      refine mute_finishKeeps.finish (mute_eventKeeps.endWindow l (.ofLife ?_))
      rw [l]
      rfl
    refine mute ?_
    rw [life, lifeIs, k]
    rfl
  · have there : s.closes.leavesWindow.opens.finish.life = .listenOnly := by
      rw [life, lifeIs, k]
      rfl
    simp [State.trvDriven, there]

theorem nextRecord_close {s : State} {p : List Byte} (l : s.life = .commissioning) (hand : s.od.inHand = some p)
    (full : p ≠ []) (type : byteAt p 0 = 14) : s.nextRecord 14 always = some p := by
  unfold State.nextRecord
  rw [l, hand]
  simp [type, full, always]

/-- Settles O11: each of the three comes to the same end of the window. -/
theorem windowEndsInRunOrListenOnly : Obligations.WindowEndsInRunOrListenOnly := by
  intro s c at_ l sound h
  obtain ⟨n, -, r⟩ := sound.2 (by rw [l]; rfl)
  have run : exec c s = .next ({ s with now := at_ } : State).endWindow.finish := by
    rcases h with ⟨e, rfl, due, rfl⟩ | ⟨e, rfl, due, rfl⟩ | ⟨p, rfl, hand, full, type, rfl⟩
    · exact congrArg Host.Outcome.next ((if_pos l).trans (onExpiry_of due))
    · exact congrArg Host.Outcome.next ((if_pos l).trans (onExpiry_of due))
    · refine congrArg Host.Outcome.next ?_
      rw [nextRecord_close l hand full type]
  obtain ⟨now, closing, limit, started, hand, iq, clear, clash, enabled, hold, next, strap, frame⟩ :=
    endWindow_opens (s := { s with now := at_ }) l n r
  exact ⟨_, run, now, closing, limit, started, hand, iq, clear, clash, enabled, hold, next, strap,
    ((frame_clock s at_).widen (by simp)).seq (by simp [Composes]) frame (by simp)⟩

end Sys2Proof.Machine
end

section
/-! SUPPORT. Drives, the MEASURE list and a channel without a request through what follows from an event. -/

namespace Sys2Proof.Machine

section
variable {s : State} (i : DriveId)

/-! ### Drives of a node that is not in RUN -/

/-- Without grants a recomputation moves no drive. -/
theorem follow_drive (l : s.life ≠ .run) : s.follow.drive i = s.drive i := by
  have locks : s.syncLocks.drive i = s.drive i := by cases i <;> rfl
  unfold State.follow
  dsimp only
  split
  · obtain ⟨m, drive, -, life, -, -, drives, -⟩ := recompute_grants s.syncLocks
    have none : m.giveGrants = m := if_neg fun g => l (life.symm.trans g.1)
    rw [drives, none, drive, locks]
  · have reacts := (units_heatingReacts s.syncLocks.evaluateChannels).rest
    unfold State.channelsFollow
    rw [reacts]
    cases i <;> rfl

theorem follow_life : s.follow.life = s.life := by
  have k := life_followKeeps s.life
  unfold State.follow
  dsimp only
  split
  · have pair : ({ s.syncLocks with lb := s.syncLocks.budget } : State).channelsFollow.life = s.life :=
      (units_heatingReacts _).life
    exact k.flags _ (k.giveGrants pair)
  · exact (units_heatingReacts s.syncLocks.evaluateChannels).life

theorem followAll_drive (n : Nat) (l : s.life ≠ .run) : (s.followAll n).drive i = s.drive i := by
  induction n generalizing s with
  | zero => rfl
  | succ n ih =>
    unfold State.followAll
    dsimp only
    split
    · rw [ih (by rw [follow_life]; exact l), follow_drive i l]
    · exact follow_drive i l

theorem settle_drive (l : s.life ≠ .run) : s.settle.syncFlags.drive i = s.drive i := by
  have flags (u : State) : u.syncFlags.drive i = u.drive i := by
    unfold State.syncFlags
    split
    · rfl
    · cases i <;> rfl
  have settled : s.settle.drive i = s.drive i := by
    unfold State.settle
    split
    · exact followAll_drive i _ l
    · rfl
  rw [flags, settled]

/-- A kept answer that finds its place empties the slot; an empty slot stays. -/
theorem placeKept_drive (s : State) (j : DriveId) : ∃ sl, (s.placeKept j).drive i = { s.drive i with slot := sl } ∧
    ((s.drive i).slot = .empty → sl = .empty) := by
  have same : s.drive i = { s.drive i with slot := (s.drive i).slot } := rfl
  unfold State.placeKept
  split
  next r code n kept =>
    split
    · rw [State.drive_place]
      by_cases e : i = j
      · subst e
        exact ⟨.empty, State.drive_setDrive _ _ _, fun _ => rfl⟩
      · exact ⟨_, State.drive_setDrive_ne s e _, id⟩
    · exact ⟨_, same, id⟩
  · exact ⟨_, same, id⟩
  · exact ⟨_, same, id⟩

theorem placeAllKept_drive (s : State) : ∃ sl, s.placeAllKept.drive i = { s.drive i with slot := sl } ∧
    ((s.drive i).slot = .empty → sl = .empty) := by
  have both (j k : DriveId) : ∃ sl, ((s.placeKept j).placeKept k).drive i = { s.drive i with slot := sl } ∧
      ((s.drive i).slot = .empty → sl = .empty) := by
    obtain ⟨x, e, hx⟩ := placeKept_drive i s j
    obtain ⟨y, e', hy⟩ := placeKept_drive i (s.placeKept j) k
    exact ⟨y, by rw [e', e], fun h => hy (by rw [e]; exact hx h)⟩
  unfold State.placeAllKept
  split
  · split <;> exact both _ _
  · exact both _ _

/-- In COMMISSIONING and LISTEN_ONLY what follows from an event moves no drive. -/
theorem finish_drive (l : s.life ≠ .run) (d : s.life ≠ .dormant) :
    ∃ sl, s.finish.drive i = { s.drive i with slot := sl } ∧ ((s.drive i).slot = .empty → sl = .empty) := by
  obtain ⟨sl, e, h⟩ := placeAllKept_drive i s
  refine ⟨sl, ?_, h⟩
  rw [finish_sleepless (.inr ⟨l, d⟩), settle_drive i (by rw [afterQueue_life]; exact l), ← e]
  show ({ s.placeAllKept.takeSettings with od := _ } : State).drive i = _
  obtain ⟨_, q⟩ := takeSettings_od s.placeAllKept
  rw [q]
  cases i <;> rfl

end

/-! ### The MEASURE list -/

theorem measureListNow_congr {s t : State} (r : t.sfe.routes = s.sfe.routes)
    (c : ∀ i : Fin 8, t.sw[i].record = s.sw[i].record) : t.measureListNow = s.measureListNow := by
  have routed (f : RouteFn) : t.routed f = s.routed f := by
    unfold State.routed State.entryOf
    rw [r]
  have burner : t.hasChannel .burner = s.hasChannel .burner :=
    anyChannel_congr fun i => by rw [Channel.fn_of_record (c i)]
  unfold State.measureListNow
  simp only [routed, burner]

theorem finish_measureListNow (s : State) : s.finish.measureListNow = s.measureListNow :=
  measureListNow_congr (by rw [finish_sfe]) ((finish_changes s).1 .channelRecords (by simp))

/-! ### A channel without a request -/

theorem Channel.heater_iff {c : Channel} : c.heater = true ↔ c.fn = .burner ∨ c.fn = .burnerFan := by
  simp [Channel.heater]

/-- No request, no level, no timer, not exempt. -/
def Channel.Idle (c : Channel) : Prop :=
  c.request = false ∧ c.endTimer = none ∧ c.target = 0 ∧ c.current = 0 ∧ c.exempt = false ∧ c.fadeTimer = none ∧
    c.cycleTimer = none

theorem Channel.Idle.of_core {c d : Channel} (h : c.Idle) (e : d.core = c.core) : d.Idle := by
  obtain ⟨h1, h2, h3, h4, h5, h6, h7⟩ := h
  obtain ⟨e1, e2, -, e3, e4, e5, -, -, -, e7, e6, -⟩ := Channel.core_eq_iff.1 e
  exact ⟨e1.trans h1, e2.trans h2, e3.trans h3, e4.trans h4, e5.trans h5, e6.trans h6, e7.trans h7⟩

theorem Channel.Idle.requestOff {c : Channel} (h : c.Idle) (g : Option Nat) :
    ({ c.requestOff with givenClass := g } : Channel).Idle := by
  obtain ⟨-, -, h3, h4, h5, h6, -⟩ := h
  exact ⟨rfl, rfl, h3, h4, h5, h6, rfl⟩

/-- A BURNER channel that is idle. -/
def IdleBurner (k : Fin 8) (s : State) : Prop := s.sw[k].fn = .burner ∧ s.sw[k].Idle

theorem idleBurner_heating {k : Fin 8} {s : State} (h : IdleBurner k s) : IdleBurner k s.heatingReacts := by
  obtain ⟨fn, idle⟩ := h
  have heater : s.sw[k].heater = true := Channel.heater_iff.2 (.inl fn)
  unfold State.heatingReacts
  split
  · split
    · have e : s.abandonFiring.sw[k] = { s.sw[k].requestOff with givenClass := none } := by
        show (s.onBurnerAndFan _).sw[k] = _
        rw [State.onBurnerAndFan_get, heater]
        rfl
      refine ⟨by rw [e]; exact fn, ?_⟩
      rw [e]
      exact idle.requestOff none
    · split <;> exact ⟨fn, idle⟩
  · split
    · have e : s.burnerOff.sw[k] = { s.sw[k].requestOff with givenClass := none } := by
        show ((s.onFunction .burner _).onFunction .burnerFan _).sw[k] = _
        rw [State.onFunction_get, State.onFunction_get, if_pos fn]
        exact if_neg (by show s.sw[k].fn ≠ .burnerFan; rw [fn]; nofun)
      refine ⟨by rw [e]; exact fn, ?_⟩
      rw [e]
      exact idle.requestOff none
    · exact ⟨fn, idle⟩
  · exact ⟨fn, idle⟩

theorem idleBurner_finishKeeps (k : Fin 8) : FinishKeeps (IdleBurner k) where
  drive s i d _ h := by cases i <;> exact h
  wakes s _ h := by
    obtain ⟨_, _, e⟩ := s.changeLife_eq .run
    rw [e]
    exact h
  settings s h := by
    obtain ⟨_, e⟩ := takeSettings_od s
    rw [e]
    exact h
  locks s _ h := by
    have e : s.syncLocks.sw[k] = { s.sw[k] with inhibit := decide (s.sw[k].fn = ChFn.pump) && s.locksNow.any } := by
      simp [State.syncLocks, State.onChannels]
    refine ⟨by rw [e]; exact h.1, ?_⟩
    rw [e]
    exact h.2
  channels s _ h := by
    have e : s.evaluateChannels.sw[k] = s.sw[k].evaluate s.chEnv := by simp [State.evaluateChannels]
    obtain ⟨record, core, -⟩ := Channel.kept_evaluate False s.chEnv s.sw[k]
    refine ⟨by rw [e, Channel.fn_of_record record]; exact h.1, ?_⟩
    rw [e]
    exact h.2.of_core (core (.inr id))
  heating _ _ h := idleBurner_heating h
  flags s h := by
    unfold State.syncFlags
    split <;> exact h

/-- A channel that an event leaves idle stays so; for a fan, where the burner does not fire. -/
theorem finish_idle {s : State} {k : Fin 8} (h : s.sw[k].Idle) (fan : s.sw[k].fn = .burnerFan → s.ht.burner ≠ .firing) :
    s.finish.sw[k].Idle := by
  by_cases b : s.sw[k].fn = .burner
  · exact ((idleBurner_finishKeeps k).finish ⟨b, h⟩).2
  · refine h.of_core (finish_core fun heater => fan ?_)
    exact (Channel.heater_iff.1 heater).resolve_left b

end Sys2Proof.Machine
end

section
/-! PROOFS. O58: the records that assign channels, drives and routes. -/

namespace Sys2Proof.Machine

/-! ### CHANNEL (R59, R60) -/

theorem bitsAt_cycle {x y z : Nat} (hx : x < 256) (hy : y < 256) (hz : z < 256) :
    bitsAt (x * 65536 + y * 256 + z) 12 12 = (x * 65536 + y * 256 + z) / 4096 ∧
      bitsAt (x * 65536 + y * 256 + z) 0 12 = (x * 65536 + y * 256 + z) % 4096 := by
  unfold bitsAt
  omega

/-- Three bytes of a record as one number. -/
theorem bytesNat_three (p : List Byte) (h : 12 ≤ p.length) :
    bytesNat (((p.take 12).drop 7).take 3) = byteAt p 7 * 65536 + byteAt p 8 * 256 + byteAt p 9 := by
  obtain ⟨a0, a1, a2, a3, a4, a5, a6, a7, a8, a9, r, rfl⟩ : ∃ a0 a1 a2 a3 a4 a5 a6 a7 a8 a9 r,
      p = a0 :: a1 :: a2 :: a3 :: a4 :: a5 :: a6 :: a7 :: a8 :: a9 :: r := by
    match p, h with
    | a0 :: a1 :: a2 :: a3 :: a4 :: a5 :: a6 :: a7 :: a8 :: a9 :: r, _ =>
      exact ⟨a0, a1, a2, a3, a4, a5, a6, a7, a8, a9, r, rfl⟩
  show ((0 * 256 + a7.toNat) * 256 + a8.toNat) * 256 + a9.toNat = a7.toNat * 65536 + a8.toNat * 256 + a9.toNat
  ring

theorem Channel.ofRecord_record {p : List Byte} (c : Channel) {f : ChFn} {a ab : Nat} (len : 12 ≤ p.length)
    (hf : f = chFnOf (byteAt p 2)) (hab : ab = byteAt p 7 * 65536 + byteAt p 8 * 256 + byteAt p 9)
    (ha : a = clampNat 1 3599 (ab / 4096)) : (c.ofRecord (p.take 12)).record =
      (f, instanceOf f (byteAt p 3), byteAt p 4 / 64, min 300 (wordAt p 5), (if f = .burnerFan then .level else modeOf (byteAt p 4 / 16 % 4)),
       decide (f = .light) && (byteAt p 4).testBit 3, a, clampNat (a + 1) 3600 (ab % 4096), gateOf (byteAt p 10),
       byteAt p 11) := by
  subst hf ha
  have small (i : Nat) : byteAt p i < 256 := (p.getD i 0).isLt
  obtain ⟨phase, period⟩ := bitsAt_cycle (small 7) (small 8) (small 9)
  unfold Channel.record Channel.ofRecord
  dsimp only
  rw [bytesNat_three p len, phase, period, ← hab]
  simp only [byteAt_take (show 2 < 12 by decide), byteAt_take (show 3 < 12 by decide), byteAt_take (show 4 < 12 by decide),
    byteAt_take (show 10 < 12 by decide), byteAt_take (show 11 < 12 by decide), wordAt_take (show 5 + 1 < 12 by decide)]
  have cls : bitsAt (byteAt p 4) 6 2 = byteAt p 4 / 64 := by
    have := small 4
    unfold bitsAt
    omega
  have mode : bitsAt (byteAt p 4) 4 2 = byteAt p 4 / 16 % 4 := rfl
  rw [cls, mode]

theorem Channel.takeRecord_record (p : List Byte) (c : Channel) : (c.takeRecord p).record = (c.ofRecord p).record := by
  unfold Channel.takeRecord
  dsimp only
  split <;> rfl

theorem Channel.takeRecord_new {p : List Byte} {c : Channel} (h : (c.ofRecord p).fn ≠ c.fn) :
    (c.takeRecord p).Idle ∧ (c.takeRecord p).state = .off := by
  unfold Channel.takeRecord
  dsimp only
  rw [if_neg h]
  exact ⟨⟨rfl, rfl, rfl, rfl, rfl, rfl, rfl⟩, rfl⟩

theorem Channel.takeRecord_same {p : List Byte} {c : Channel} (h : (c.ofRecord p).fn = c.fn) : (c.takeRecord p).core = c.core := by
  unfold Channel.takeRecord
  dsimp only
  rw [if_pos h]
  rfl

theorem frame_onChannel_any (s : State) (ch : Fin 8) (f : Channel → Channel) :
    Frame [.channelRecords, .channels] s (s.onChannel ch f) := by
  intro b n
  cases b <;> simp at n
  all_goals simp [Same, Drive.Stands.refl, State.life, State.answers, State.drive, State.onChannel]

theorem frame_formMeasureList (s : State) : Frame [.sensors] s s.formMeasureList :=
  frame_sensors s { s.sfe with measureList := s.measureListNow, pointer := 0 }

section
variable {s : State} {p : List Byte}

/-- The list formed anew stands after what follows from the record. -/
theorem formed_sfe (v : State) : v.formMeasureList.moveClosing.finish.sfe =
    { v.sfe with measureList := v.formMeasureList.moveClosing.finish.measureListNow, pointer := 0 } := by
  rw [finish_sfe, finish_measureListNow]
  rfl

theorem channelRecord_applied (k : Fin 8) {f : ChFn} {a ab : Nat} (h : Holds 1 12 p s) (b : byteAt p 1 = k.val + 1)
    (hf : f = chFnOf (byteAt p 2)) (hab : ab = byteAt p 7 * 65536 + byteAt p 8 * 256 + byteAt p 9)
    (ha : a = clampNat 1 3599 (ab / 4096)) :
    ∃ t, exec .channelRecord s = .next t ∧ Applied [.channelRecords, .channels, .sensors] 12 p s t ∧
      t.sw[k].record =
        (f, instanceOf f (byteAt p 3), byteAt p 4 / 64, min 300 (wordAt p 5),
         (if f = .burnerFan then .level else modeOf (byteAt p 4 / 16 % 4)),
         decide (f = .light) && (byteAt p 4).testBit 3, a, clampNat (a + 1) 3600 (ab % 4096), gateOf (byteAt p 10),
         byteAt p 11) ∧
      (f ≠ s.sw[k].fn → (f = .burnerFan → s.ht.burner ≠ .firing) →
        t.sw[k].request = false ∧ t.sw[k].endTimer = none ∧ t.sw[k].target = 0 ∧ t.sw[k].current = 0 ∧
          t.sw[k].exempt = false ∧ t.sw[k].state = .off ∧ t.sw[k].duty = 0 ∧ t.sw[k].fadeTimer = none ∧
          t.sw[k].cycleTimer = none) ∧
      (f = s.sw[k].fn → s.sw[k].heater = false → t.sw[k].core = s.sw[k].core) ∧
      (∀ i : Fin 8, i ≠ k → s.sw[i].Kept (s.ht.burner = .firing) t.sw[i]) ∧
      t.sfe = { s.sfe with measureList := t.measureListNow, pointer := 0 } := by
  have mine : (fun p => !numberIn 9 10 p) p = true := by simp [numberIn, b]
  have range : numberIn 1 8 p = true := by simp [numberIn, b]
  have run := congrArg (Host.Outcome.next (φ := Fault) (ρ := Refusal))
    (State.record_applied (apply := State.applyChannel) (mine := fun p => !numberIn 9 10 p) h mine range)
  have place : Fin.ofNat 8 (byteAt (p.take 12) 1 - 1) = k := by
    rw [byteAt_take (by decide), b]
    exact Fin.ext (Nat.mod_eq_of_lt k.isLt)
  generalize hv : (s.setInHand (leftOf (p.drop 12))).onChannel k (Channel.takeRecord (p.take 12)) = v
  have applied : State.applyChannel (p.take 12) (s.setInHand (leftOf (p.drop 12))) = v.formMeasureList := by
    rw [← hv, State.applyChannel, place]
  rw [applied] at run
  have at_k : v.formMeasureList.moveClosing.sw[k] = s.sw[k].takeRecord (p.take 12) := by
    rw [← hv]
    exact State.onChannel_get _ _ _
  have others (i : Fin 8) (n : i ≠ k) : v.formMeasureList.moveClosing.sw[i] = s.sw[i] := by
    rw [← hv]
    exact State.onChannel_get_ne _ n _
  have burner : v.formMeasureList.moveClosing.ht = s.ht := by rw [← hv]; rfl
  have sfe : v.sfe = s.sfe := by rw [← hv]; rfl
  have nc : v.formMeasureList.nc = s.nc := by rw [← hv]; rfl
  have frame : Frame [.channelRecords, .channels, .sensors] (s.setInHand (leftOf (p.drop 12))) v.formMeasureList := by
    rw [← hv]
    exact ((frame_onChannel_any _ k _).widen (by simp)).seq (by simp [Composes]) (frame_formMeasureList _) (by simp)
  have kept := finish_channel v.formMeasureList.moveClosing k
  have active : v.formMeasureList.moveClosing.life.active = true := by
    have life : v.nc.life = s.nc.life := congrArg NodeControl.life nc
    show v.nc.life.active = true
    rw [life, show s.nc.life = _ from h.1]
    rfl
  have record := Channel.ofRecord_record s.sw[k] h.2.2.2.2.2 hf hab ha
  have fn : (s.sw[k].ofRecord (p.take 12)).fn = f := congrArg Prod.fst record
  refine ⟨_, run, applied_of_frame (by simp [Composes]) (by simp) (by simp) h.1 frame nc, ?_, fun new fan => ?_,
    fun same cold => ?_, fun i n => ?_, by rw [formed_sfe, sfe]⟩
  · rw [kept.1, at_k, Channel.takeRecord_record, record]
  · obtain ⟨idle, off⟩ := Channel.takeRecord_new (c := s.sw[k]) (p := p.take 12) (by rw [fn]; exact new)
    have fnNow : v.formMeasureList.moveClosing.sw[k].fn = f := by
      rw [at_k, Channel.fn_of_record (Channel.takeRecord_record _ _)]
      exact fn
    obtain ⟨i1, i2, i3, i4, i5, i6, i7⟩ := finish_idle (s := v.formMeasureList.moveClosing) (k := k)
      (by rw [at_k]; exact idle) (by rw [fnNow, burner]; exact fan)
    obtain ⟨state, dark⟩ := Channel.ended_of_evaluate (finish_outputs _ active k) kept i1
    rw [at_k, off] at state
    exact ⟨i1, i2, i3, i4, i5, state, dark, i6, i7⟩
  · have heater : v.formMeasureList.moveClosing.sw[k].heater = false := by
      rw [at_k]
      unfold Channel.heater at cold ⊢
      rw [Channel.fn_of_record (Channel.takeRecord_record _ _), fn, same]
      exact cold
    rw [finish_core (fun k => absurd k (by rw [heater]; nofun)), at_k]
    exact Channel.takeRecord_same (by rw [fn, same])
  · have k := finish_channel v.formMeasureList.moveClosing i
    rw [others i n, burner] at k
    exact k

/-! ### The function of a drive (R84) -/

theorem frame_onDrive_any (s : State) (i : DriveId) (f : Drive → Drive) :
    Frame [.driveRecords, .drives] s (s.onDrive i f) := frame_setDrive_any s i _

theorem driveFnOf_eq (n : Nat) : driveFnOf n = if n = 8 then .step else if n = 9 then .awning else .none := by
  unfold driveFnOf
  split
  · rfl
  · rfl
  next n1 n2 => rw [if_neg n1, if_neg n2]

/-- The drives after a record that one of them takes. -/
theorem recorded_drive {u v : State} {i : DriveId} {f : Drive → Drive} (l : u.life = .commissioning)
    (hv : v = (u.onDrive i f).formMeasureList) :
    (∃ sl, v.moveClosing.finish.drive i = { f (u.drive i) with slot := sl } ∧ ((f (u.drive i)).slot = .empty → sl = .empty)) ∧
      ∀ j, j ≠ i → ∃ sl, v.moveClosing.finish.drive j = { u.drive j with slot := sl } := by
  have life : v.moveClosing.life = .commissioning := by
    rw [hv]
    exact (u.onDrive_life i f).trans l
  have drive (j : DriveId) : v.moveClosing.drive j = (u.onDrive i f).drive j := by
    rw [hv]
    cases j <;> rfl
  have ends (j : DriveId) := finish_drive j (s := v.moveClosing) (by rw [life]; nofun) (by rw [life]; nofun)
  refine ⟨?_, fun j n => ?_⟩
  · have at_i : v.moveClosing.drive i = f (u.drive i) := (drive i).trans (State.drive_setDrive _ _ _)
    have := ends i
    rw [at_i] at this
    exact this
  · have at_j : v.moveClosing.drive j = u.drive j := (drive j).trans (State.drive_setDrive_ne u n _)
    obtain ⟨sl, e, -⟩ := ends j
    rw [at_j] at e
    exact ⟨sl, e⟩

theorem setInHand_drive (x : Option (List Byte)) (i : DriveId) : (s.setInHand x).drive i = s.drive i := by cases i <;> rfl

theorem channelRecordDrive_applied (i : DriveId) {f : DriveFn} (h : Holds 1 12 p s)
    (b : byteAt p 1 = (match i with | .ma => 9 | .mb => 10))
    (hf : f = (if byteAt p 2 = 8 then .step else if byteAt p 2 = 9 then .awning else .none)) :
    ∃ t, exec .channelRecordDrive s = .next t ∧ Applied [.driveRecords, .drives, .sensors] 12 p s t ∧
      (f = (s.drive i).fn → (t.drive i).record = (s.drive i).record ∧ (t.drive i).motion = (s.drive i).motion) ∧
      (f ≠ (s.drive i).fn → t.drive i = Drive.blank f) ∧
      (∀ j, j ≠ i → (t.drive j).record = (s.drive j).record ∧ (t.drive j).motion = (s.drive j).motion) ∧
      t.sfe = { s.sfe with measureList := t.measureListNow, pointer := 0 } := by
  have range : numberIn 9 10 p = true := by cases i <;> simp [numberIn, b]
  have run := congrArg (Host.Outcome.next (φ := Fault) (ρ := Refusal))
    (State.record_applied (apply := State.applyDriveFunction) h range range)
  have place : driveOfNumber 9 (byteAt (p.take 12) 1) = i := by
    rw [byteAt_take (by decide), b]
    cases i <;> rfl
  have fn : driveFnOf (byteAt (p.take 12) 2) = f := by rw [byteAt_take (by decide), driveFnOf_eq, hf]
  have applied : State.applyDriveFunction (p.take 12) (s.setInHand (leftOf (p.drop 12))) =
      ((s.setInHand (leftOf (p.drop 12))).onDrive i (Drive.takeFunction f)).formMeasureList := by
    rw [State.applyDriveFunction, place, fn]
  rw [applied] at run
  have frame := ((frame_onDrive_any (s.setInHand (leftOf (p.drop 12))) i (Drive.takeFunction f)).widen
    (d := [.driveRecords, .drives, .sensors]) (by simp)).seq (by simp [Composes]) (frame_formMeasureList _) (by simp)
  have nc : ((s.setInHand (leftOf (p.drop 12))).onDrive i (Drive.takeFunction f)).formMeasureList.nc = s.nc :=
    State.setDrive_nc _ _ _
  obtain ⟨⟨sl, own, empty⟩, others⟩ := recorded_drive (u := s.setInHand (leftOf (p.drop 12))) (i := i)
    (f := Drive.takeFunction f) h.1 rfl
  rw [setInHand_drive] at own empty
  refine ⟨_, run, applied_of_frame (by simp [Composes]) (by simp) (by simp) h.1 frame nc, fun same => ?_, fun new => ?_,
    fun j n => ?_, ?_⟩
  · have stays : (s.drive i).takeFunction f = s.drive i := if_pos same.symm
    rw [own, stays]
    exact ⟨rfl, rfl⟩
  · have blank : (s.drive i).takeFunction f = Drive.blank f := if_neg fun e => new e.symm
    rw [blank] at own empty
    rw [own, empty rfl]
    rfl
  · obtain ⟨sl, e⟩ := others j n
    rw [e, setInHand_drive]
    exact ⟨rfl, rfl⟩
  · rw [formed_sfe]
    have sfe := State.setDrive_sfe (s.setInHand (leftOf (p.drop 12))) i
      (Drive.takeFunction f ((s.setInHand (leftOf (p.drop 12))).drive i))
    unfold State.onDrive
    rw [sfe]
    rfl

/-! ### DRIVE (R84) -/

theorem Drive.ofRecord_record {tp : Nat} (d : Drive) (h : tp = clampNat 50 20000 (wordAt p 2)) :
    (d.ofRecord (p.take 10)).record =
      (d.fn, tp, clampNat 10 1200 (wordAt p 4), clampNat 10 300 (wordAt p 6), min 300 (wordAt p 8),
       (if d.state = .extended then tp else if d.state = .parked then min d.position tp else d.position), d.jam) := by
  subst h
  unfold Drive.record Drive.ofRecord
  dsimp only
  rw [wordAt_take (by decide), wordAt_take (by decide), wordAt_take (by decide), wordAt_take (by decide)]
  cases d.state <;> rfl

/-- Applied, and no drive has moved. -/
theorem Applied.still {c : List Block} {n : Nat} {s t : State} (h : Applied (.drives :: c) n p s t)
    (m : ∀ j, (t.drive j).motion = (s.drive j).motion) : Applied c n p s t := by
  obtain ⟨frame, rest⟩ := h
  refine ⟨fun b k => ?_, rest⟩
  by_cases e : b = .drives
  · subst e
    exact fun _ j => ⟨fun _ => m j, fun _ => .inr (.inl (m j))⟩
  · exact frame b (by simpa [e] using k)

theorem driveRecord_applied (i : DriveId) {tp : Nat} (h : Holds 7 10 p s)
    (b : byteAt p 1 = (match i with | .ma => 1 | .mb => 2)) (htp : tp = clampNat 50 20000 (wordAt p 2)) :
    ∃ t, exec .driveRecord s = .next t ∧ Applied [.driveRecords, .sensors] 10 p s t ∧
      (t.drive i).record =
        ((s.drive i).fn, tp, clampNat 10 1200 (wordAt p 4), clampNat 10 300 (wordAt p 6), min 300 (wordAt p 8),
         (if (s.drive i).state = .extended then tp
          else if (s.drive i).state = .parked then min (s.drive i).position tp else (s.drive i).position),
         (s.drive i).jam) ∧
      (∀ j, j ≠ i → (t.drive j).record = (s.drive j).record) ∧
      t.sfe = { s.sfe with measureList := t.measureListNow, pointer := 0 } := by
  have range : numberIn 1 2 p = true := by cases i <;> simp [numberIn, b]
  have run := congrArg (Host.Outcome.next (φ := Fault) (ρ := Refusal))
    (State.record_applied (apply := State.applyDrive) h (mine := always) rfl range)
  have place : driveOfNumber 1 (byteAt (p.take 10) 1) = i := by
    rw [byteAt_take (by decide), b]
    cases i <;> rfl
  rw [State.applyDrive, place] at run
  have frame := ((frame_onDrive_any (s.setInHand (leftOf (p.drop 10))) i (Drive.ofRecord (p.take 10))).widen
    (d := [.drives, .driveRecords, .sensors]) (by simp)).seq (by simp [Composes]) (frame_formMeasureList _) (by simp)
  have nc : ((s.setInHand (leftOf (p.drop 10))).onDrive i (Drive.ofRecord (p.take 10))).formMeasureList.nc = s.nc :=
    State.setDrive_nc _ _ _
  obtain ⟨⟨sl, own, -⟩, others⟩ := recorded_drive (u := s.setInHand (leftOf (p.drop 10))) (i := i)
    (f := Drive.ofRecord (p.take 10)) h.1 rfl
  rw [setInHand_drive] at own
  refine ⟨_, run, (applied_of_frame (by simp [Composes]) (by simp) (by simp) h.1 frame nc).still fun j => ?_, ?_,
    fun j n => ?_, ?_⟩
  · by_cases e : j = i
    · rw [e, own]
      rfl
    · obtain ⟨sl, k⟩ := others j e
      rw [k, setInHand_drive]
      rfl
  · rw [own]
    exact Drive.ofRecord_record (s.drive i) htp
  · obtain ⟨sl, e⟩ := others j n
    rw [e, setInHand_drive]
    rfl
  · rw [formed_sfe]
    have sfe := State.setDrive_sfe (s.setInHand (leftOf (p.drop 10))) i
      (Drive.ofRecord (p.take 10) ((s.setInHand (leftOf (p.drop 10))).drive i))
    unfold State.onDrive
    rw [sfe]
    rfl

/-! ### ROUTE (R174) -/

theorem State.interlockEvent_nc {s : State} (l : s.life = .commissioning) : s.interlockEvent.nc = s.nc := by
  unfold State.interlockEvent
  split
  · rfl
  · have still (v : State) (h : v.life = .commissioning) (u : State) : (wakeForForced u v).nc = v.nc := by
      unfold wakeForForced State.wakeCause
      rw [h]
      split <;> rfl
    have alone : MotionAlone { s with interlock := s.interlockNow }
        ((({ s with interlock := s.interlockNow } : State).stopUnsourced .ma).stopUnsourced .mb).evaluateBothForced :=
      (motionKeeps_alone _).evaluateBothForced
        ((motionKeeps_alone _).stopUnsourced .mb ((motionKeeps_alone _).stopUnsourced .ma rfl))
    rw [still _ (alone.life.trans l), show _ = _ from alone]

/-- The routing table with one entry replaced, SPEED moved with it, and the list formed anew. -/
def State.takesRoute (n : Nat) (fn : RouteFn) (s : State) : State :=
  (s.moveSpeed { s with sfe := { s.sfe with routes := s.sfe.routes.setIfInBounds n fn } }).formMeasureList

theorem takesRoute_sfe (s : State) (n : Nat) (fn : RouteFn) : (s.takesRoute n fn).sfe = { s.sfe with
    routes := s.sfe.routes.setIfInBounds n fn, measureList := (s.takesRoute n fn).measureListNow, pointer := 0
    speedTimer := if (s.takesRoute n fn).entryOf .speed = s.entryOf .speed then s.sfe.speedTimer else none } := by
  have entry : (s.takesRoute n fn).entryOf .speed =
      ({ s with sfe := { s.sfe with routes := s.sfe.routes.setIfInBounds n fn } } : State).entryOf .speed := by
    unfold State.takesRoute State.moveSpeed
    split <;> rfl
  rw [entry]
  unfold State.takesRoute State.moveSpeed
  split <;> rfl

theorem takesRoute_eq (s : State) (n : Nat) (fn : RouteFn) :
    s.takesRoute n fn = { s with sfe := (s.takesRoute n fn).sfe } := by
  unfold State.takesRoute State.moveSpeed
  split <;> rfl

theorem routeRecord_applied (k : Fin 12) (h : Holds 2 3 p s) (b : byteAt p 1 = k.val + 1) :
    ∃ t, exec .routeRecord s = .next t ∧ Applied [.sensors, .interlock, .drives] 3 p s t ∧
      t.sfe = { s.sfe with
        routes := s.sfe.routes.set k.val (routeFnOf k.val (byteAt p 2)) k.isLt, measureList := t.measureListNow,
        pointer := 0, speedTimer := if t.entryOf .speed = s.entryOf .speed then s.sfe.speedTimer else none } ∧
      t.interlock = t.interlockNow := by
  have range : numberIn 1 12 p = true := by simp [numberIn, b]
  have run := congrArg (Host.Outcome.next (φ := Fault) (ρ := Refusal))
    (State.record_applied (apply := State.applyRoute) h (mine := always) rfl range)
  generalize hv : (s.setInHand (leftOf (p.drop 3))).takesRoute k.val (routeFnOf k.val (byteAt p 2)) = v
  have applied : State.applyRoute (p.take 3) (s.setInHand (leftOf (p.drop 3))) = v.interlockEvent := by
    rw [← hv]
    unfold State.applyRoute
    rw [byteAt_take (by decide), byteAt_take (by decide), b]
    rfl
  rw [applied] at run
  have route := takesRoute_eq (s.setInHand (leftOf (p.drop 3))) k.val (routeFnOf k.val (byteAt p 2))
  have sfe := takesRoute_sfe (s.setInHand (leftOf (p.drop 3))) k.val (routeFnOf k.val (byteAt p 2))
  rw [hv] at route sfe
  have life : v.life = .commissioning := by
    rw [route]
    exact h.1
  have event := frame_interlockEvent v
  have frame : Frame [.sensors, .interlock, .drives] (s.setInHand (leftOf (p.drop 3))) v.interlockEvent := by
    have routed : Frame [.sensors] (s.setInHand (leftOf (p.drop 3))) v := by
      rw [route]
      exact frame_sensors _ _
    exact (routed.widen (by simp)).seq (by simp [Composes]) event (by simp)
  have nc : v.interlockEvent.nc = s.nc := (State.interlockEvent_nc life).trans (by rw [route]; rfl)
  have kept : v.interlockEvent.moveClosing.finish.sfe = v.sfe := (finish_sfe _).trans (event .sensors (by simp))
  have list : v.interlockEvent.moveClosing.finish.measureListNow = v.measureListNow :=
    (finish_measureListNow _).trans
      (measureListNow_congr (event .sensors (by simp) ▸ rfl) (event .channelRecords (by simp)))
  have entry : v.interlockEvent.moveClosing.finish.entryOf .speed = v.entryOf .speed := by
    unfold State.entryOf
    rw [kept]
  have table : s.sfe.routes.setIfInBounds k.val (routeFnOf k.val (byteAt p 2)) =
      s.sfe.routes.set k.val (routeFnOf k.val (byteAt p 2)) k.isLt := by
    simp [Vector.setIfInBounds, Vector.set, Array.setIfInBounds]
  refine ⟨_, run, applied_of_frame (by simp [Composes]) (by simp) (by simp) h.1 frame nc, ?_, ?_⟩
  · rw [list, entry, kept, ← table]
    exact sfe
  · obtain ⟨view, now⟩ := interlockEvent_current v
    rw [finish_interlock, finish_interlockNow]
    exact view.trans now.symm

end

/-- Settles O58, record by record. -/
theorem assignmentRecordsAreApplied : Obligations.AssignmentRecordsAreApplied := fun _ _ =>
  ⟨fun k f _ _ h b hf hab ha => by
      obtain ⟨t, run, applied, record, rest⟩ := channelRecord_applied k h b hf hab ha
      refine ⟨t, run, applied, record.trans ?_, rest⟩
      cases f <;> rfl,
    fun i _ h b hf => channelRecordDrive_applied i h b hf, fun k h b => routeRecord_applied k h b,
    fun i _ h b htp => driveRecord_applied i h b htp⟩

end Sys2Proof.Machine
end

section
/-! SUPPORT. What puts a burner out, and what keeps it lit, through what follows from an event. -/

namespace Sys2Proof.Machine

/-! ### The Heating unit before what follows -/

section
variable {s : State}

/-- A Heating unit whose burner does not fire stands. -/
theorem finish_ht_still (h : s.ht.burner ≠ .firing) : s.finish.ht = s.ht := ((finish_changes s).1 .heating (by simp)).2 h

theorem abandonFiring_get (s : State) (i : Fin 8) : s.abandonFiring.sw[i] =
    if s.sw[i].heater = true then { s.sw[i].requestOff with givenClass := none } else s.sw[i] :=
  State.onBurnerAndFan_get s _ i

theorem burnerOff_burner {i : Fin 8} (h : s.sw[i].fn = .burner) :
    s.burnerOff.sw[i] = { s.sw[i].requestOff with givenClass := none } := by
  show ((s.onFunction .burner _).onFunction .burnerFan _).sw[i] = _
  rw [State.onFunction_get, State.onFunction_get, if_pos h]
  exact if_neg (by show s.sw[i].fn ≠ .burnerFan; rw [h]; nofun)

theorem burnerOff_fan {i : Fin 8} (h : s.sw[i].fn = .burnerFan) : s.burnerOff.sw[i] = s.sw[i].runOn s.now := by
  have other : s.sw[i].fn ≠ .burner := by
    rw [h]
    nofun
  have first : (s.onFunction .burner fun c => { c.requestOff with givenClass := none }).sw[i] = s.sw[i] := by
    rw [State.onFunction_get, if_neg other]
  show ((s.onFunction .burner fun c => { c.requestOff with givenClass := none }).onFunction .burnerFan _).sw[i] = _
  rw [State.onFunction_get, first, if_pos h]

theorem burnerOff_ht (s : State) : s.burnerOff.ht =
    { s.ht with burner := .runOn, lit := false, minimumOn := none, rest := some (s.now + 180000) } := rfl

/-- A channel after a burner-off with what follows keeps its core. -/
theorem burnerOff_core (i : Fin 8) : s.burnerOff.finish.sw[i].core = s.burnerOff.sw[i].core :=
  finish_core fun _ => by rw [burnerOff_ht]; nofun

/-! ### Channels that no heater owns -/

/-- What the Heating unit has done, with what follows, leaves the other channels. -/
theorem HeaterAlone.finish_others {u : State} (h : HeaterAlone s u) (i : Fin 8) (c : s.sw[i].heater = false) :
    s.sw[i].Kept True u.finish.sw[i] := by
  obtain ⟨r, core, trips, cooldown, fault, tripped, load⟩ := finish_channel u i
  rw [h.others i c] at r core trips cooldown fault tripped load
  exact ⟨r, fun _ => core (.inl c), trips, cooldown, fault, tripped, load⟩

/-! ### A waiting burner gives up (R134) -/

theorem heaterFaulted_evaluate (s : State) : s.evaluateChannels.heaterFaulted = s.heaterFaulted :=
  heaterFaulted_of_kept (p := False) fun i => by
    have e : s.evaluateChannels.sw[i] = s.sw[i].evaluate s.chEnv := by simp [State.evaluateChannels]
    rw [e]
    exact Channel.kept_evaluate False _ _

/-- A channel that waits or is lit does so no longer. -/
theorem channelsFollow_abandons (b : s.ht.burner = .firing) (l : s.ht.lit = false) (f : s.heaterFaulted = true) :
    s.channelsFollow.ht.burner = .off := by
  have reacts : s.evaluateChannels.heatingReacts = s.evaluateChannels.abandonFiring := by
    unfold State.heatingReacts
    rw [show s.evaluateChannels.ht = s.ht from rfl, b, l, heaterFaulted_evaluate]
    exact if_pos f
  unfold State.channelsFollow
  rw [reacts]
  rfl

theorem follow_abandons (b : s.ht.burner = .firing) (l : s.ht.lit = false) (f : s.heaterFaulted = true) :
    s.follow.ht.burner = .off := by
  have faulted : s.syncLocks.heaterFaulted = true := by
    rw [← f]
    exact heaterFaulted_of_kept (p := False) fun i => by
      have e : s.syncLocks.sw[i] = { s.sw[i] with inhibit := decide (s.sw[i].fn = ChFn.pump) && s.locksNow.any } := by
        simp [State.syncLocks, State.onChannels]
      rw [e]
      exact ⟨rfl, fun _ => rfl, rfl, rfl, Iff.rfl, Iff.rfl, id⟩
  unfold State.follow
  dsimp only
  split
  · have off := channelsFollow_abandons (s := { s.syncLocks with lb := s.syncLocks.budget }) b l faulted
    have grants := ((frame_giveGrants ({ s.syncLocks with lb := s.syncLocks.budget } : State).channelsFollow).trans
      (by simp [Composes]) (frame_syncFlags _)) .heating (by simp)
    rw [show s.syncLocks.recompute.ht = _ from grants.2 (by rw [off]; nofun), off]
  · exact channelsFollow_abandons b l faulted

/-- A burner that waits beside a FAULT gives up in what follows (R134). -/
theorem finish_abandons (a : s.life.active = true) (b : s.ht.burner = .firing) (l : s.ht.lit = false)
    (f : s.heaterFaulted = true) : s.finish.ht.burner = .off := by
  have start : DispatchKeeps fun t => t.ht = s.ht ∧ t.sw = s.sw :=
    { drive := fun t i d _ h => by cases i <;> exact h
      wakes := fun t _ h => by
        obtain ⟨_, _, e⟩ := t.changeLife_eq .run
        rw [e]
        exact h
      settings := fun t h => by
        obtain ⟨_, e⟩ := takeSettings_od t
        rw [e]
        exact h }
  obtain ⟨ht, sw⟩ := start.dispatch (s := s) ⟨rfl, rfl⟩
  have faulted : s.dispatch.heaterFaulted = true := by
    unfold State.heaterFaulted State.channelFaulted State.anyChannel
    rw [sw]
    exact f
  have off := follow_abandons (s := s.dispatch) (by rw [ht]; exact b) (by rw [ht]; exact l) faulted
  have rest : s.dispatch.settle.ht.burner = .off := by
    unfold State.settle
    rw [if_pos (dispatch_active s a)]
    show (if s.dispatch.follow.callsForRecompute = true then s.dispatch.follow.followAll 7 else s.dispatch.follow).ht.burner = _
    split
    · rw [show (s.dispatch.follow.followAll 7).ht = _ from
        ((frame_followAll 7 s.dispatch.follow) .heating (by simp)).2 (by rw [off]; nofun), off]
    · exact off
  show s.dispatch.settle.syncFlags.ht.burner = _
  rw [show s.dispatch.settle.syncFlags.ht = _ from ((frame_syncFlags _) .heating (by simp)).2 (by rw [rest]; nofun), rest]

end

/-! ### A burner that nothing puts out (R61, R134, R135) -/

/-- A granted channel with its request stays ON at full (R61, R62). -/
theorem Channel.evaluate_on {e : ChEnv} {c : Channel} (f : c.fn ≠ .none) (r : c.request = true) (o : c.state = .on)
    (l : e.life.operating = true) (g : c.classUsed < e.sEff.rank) :
    (c.evaluate e).state = .on ∧ (c.evaluate e).throttled = false := by
  have full : c.grantDecision e = .full := by
    unfold Channel.grantDecision
    cases life : e.life
    case run | dormant | listenOnly =>
      dsimp only
      rw [if_pos g]
      split <;> rfl
    all_goals
      rw [life] at l
      cases l
  unfold Channel.evaluate
  rw [o, full]
  dsimp only
  rw [if_neg (by rw [r]; simp [f])]
  unfold Channel.refresh
  dsimp only
  split
  · exact ⟨rfl, rfl⟩
  · split <;> exact ⟨rfl, rfl⟩

/-- The lit burner, with what an evaluation of its channels reads. -/
def BurnsOn (l : LifeState) (own : Fin 8 → Bool) (cls : Fin 8 → Nat) (h : Heating) (x : State) : Prop :=
  x.life = l ∧ x.lb.firstPending = false ∧ x.lb.sEff = effectiveShed l x.lb.s ∧ x.lb.cutUsed = false ∧ x.ht = h ∧
    ∀ i : Fin 8, x.sw[i].heater = own i ∧
      (own i = true → x.sw[i].request = true ∧ x.sw[i].state = .on ∧ x.sw[i].classUsed = cls i)

/-- A class of the burner is no longer granted, or CUT used is set: neither is taken back before the end of the instant. -/
def BurnerDenied (l : LifeState) (own : Fin 8 → Bool) (cls : Fin 8 → Nat) (x : State) : Prop :=
  x.life = l ∧ x.lb.firstPending = false ∧
    ((∃ i, own i = true ∧ (effectiveShed l x.lb.s).rank ≤ cls i) ∨ (x.lb.cutUsed = true ∧ x.limitUsed.2 = true))

/-- The node has been woken, the burner is denied, or it burns on. -/
def BurnsOnOr (l : LifeState) (own : Fin 8 → Bool) (cls : Fin 8 → Nat) (h : Heating) (x : State) : Prop :=
  (l = .dormant ∧ x.life = .run) ∨ BurnerDenied l own cls x ∨ BurnsOn l own cls h x

theorem effectiveShed_mono (l : LifeState) {x y : Shed} (h : x.rank ≤ y.rank) :
    (effectiveShed l x).rank ≤ (effectiveShed l y).rank := by
  unfold effectiveShed
  split
  · exact h
  · exact h
  · have : (Shed.upTo 1).rank = 2 := rfl
    split <;> split <;> omega
  · exact Nat.le_refl _

/-- Without the first recomputation pending, S never rises in one (R43). -/
theorem shedStep_down {life : LifeState} {now : Nat} {lb : LoadBudget} {raw : Shed} {restore : Bool}
    (n : lb.firstPending = false) : (shedStep life now lb raw restore).1.rank ≤ lb.s.rank ∧
      (shedStep life now lb raw restore).2.2 = false := by
  unfold shedStep
  rw [n]
  split
  · exact ⟨Nat.zero_le _, rfl⟩
  · rw [if_neg (by nofun)]
    split
    next le => exact ⟨le, rfl⟩
    · split <;> exact ⟨Nat.le_refl _, rfl⟩

theorem budget_down {s : State} (n : s.lb.firstPending = false) : s.budget.s.rank ≤ s.lb.s.rank ∧
    s.budget.firstPending = false := by
  have step := State.budget_shedStep s.budget_sRaw_eq
  have down := shedStep_down (life := s.life) (now := s.now) (raw := s.rawWith s.ownWants)
    (restore := restoreHolds s.lb.s s.budget.lU s.budget.t0 s.budget.t1 s.budget.t2 s.budget.t3) n
  rw [← step] at down
  exact down

theorem operating_of_rank {l : LifeState} {x : Shed} {n : Nat} (h : n < (effectiveShed l x).rank) : l.operating = true := by
  cases l
  case run | dormant | listenOnly => rfl
  all_goals exact absurd h (Nat.not_lt_zero n)

section
variable {l : LifeState} {own : Fin 8 → Bool} {cls : Fin 8 → Nat} {h : Heating} {s : State}

theorem BurnsOn.channels (b : BurnsOn l own cls h s) : BurnsOnOr l own cls h s.evaluateChannels := by
  obtain ⟨life, first, pair, cut, ht, sw⟩ := b
  by_cases g : ∀ i, own i = true → cls i < (effectiveShed l s.lb.s).rank
  · refine .inr (.inr ⟨life, first, pair, cut, ht, fun i => ?_⟩)
    obtain ⟨heater, on⟩ := sw i
    have e : s.evaluateChannels.sw[i] = s.sw[i].evaluate s.chEnv := by simp [State.evaluateChannels]
    obtain ⟨record, core, -⟩ := Channel.kept_evaluate False s.chEnv s.sw[i]
    refine ⟨by rw [e, Channel.heater_of_record record, heater], fun o => ?_⟩
    obtain ⟨request, state, cl⟩ := on o
    obtain ⟨r, -, -, -, -, -, -, -, -, -, -, -, given⟩ := Channel.core_eq_iff.1 (core (.inr id))
    have fn : s.sw[i].fn ≠ .none := fun n => by
      rcases Channel.heater_iff.1 (heater.trans o) with k | k <;> rw [n] at k <;> cases k
    have granted := Channel.evaluate_on (e := s.chEnv) fn request state
      (by show s.life.operating = true; rw [life]; exact operating_of_rank (g i o))
      (by rw [cl]; show _ < s.lb.sEff.rank; rw [pair]; exact g i o)
    rw [e]
    refine ⟨r.trans request, granted.1, ?_⟩
    unfold Channel.classUsed at cl ⊢
    rw [given, (Channel.record_eq_iff.1 record).2.2.1]
    exact cl
  · obtain ⟨i, g⟩ := not_forall.1 g
    obtain ⟨o, n⟩ := Classical.not_imp.1 g
    exact .inr (.inl ⟨life, first, .inl ⟨i, o, Nat.not_lt.1 n⟩⟩)

theorem BurnsOn.heating (firing : h.burner = .firing) (lit : h.lit = true) (b : BurnsOn l own cls h s) : s.heatingReacts = s := by
  obtain ⟨-, -, -, cut, ht, sw⟩ := b
  have on : ¬ s.anyChannel (fun c => (c.fn = .burner || c.fn = .burnerFan) && c.state ≠ .on) = true := fun k => by
    obtain ⟨i, hi⟩ := State.anyChannel_iff.1 k
    obtain ⟨heater, state⟩ := Bool.and_eq_true_iff.1 hi
    have own := (sw i).1.symm.trans heater
    exact of_decide_eq_true state ((sw i).2 own).2.1
  unfold State.heatingReacts
  rw [ht, firing, lit]
  dsimp only
  rw [if_neg (by rw [cut, Bool.false_or]; exact on)]

theorem BurnsOn.budget (b : BurnsOn l own cls h s) : BurnsOnOr l own cls h { s with lb := s.budget } := by
  obtain ⟨life, first, pair, cut, ht, sw⟩ := b
  obtain ⟨-, first'⟩ := budget_down first
  cases c : s.limitUsed.2 with
  | true => exact .inr (.inl ⟨life, first', .inr ⟨c, c⟩⟩)
  | false => exact .inr (.inr ⟨life, first', by rw [← life]; rfl, c, ht, sw⟩)

theorem BurnerDenied.budget (b : BurnerDenied l own cls s) : BurnerDenied l own cls { s with lb := s.budget } := by
  obtain ⟨life, first, denied⟩ := b
  obtain ⟨down, first'⟩ := budget_down first
  refine ⟨life, first', denied.imp (fun ⟨i, o, n⟩ => ⟨i, o, (effectiveShed_mono l down).trans n⟩) fun ⟨_, c⟩ => ⟨c, c⟩⟩

/-- Kept by everything that follows from an event. -/
theorem burnsOn_finishKeeps (firing : h.burner = .firing) (lit : h.lit = true) : FinishKeeps (BurnsOnOr l own cls h) where
  drive s i d _ k := by cases i <;> exact k
  wakes s dormant k := by
    obtain ⟨_, _, e⟩ := s.changeLife_eq .run
    refine .inl ⟨?_, s.changeLife_life .run⟩
    rcases k with ⟨d, -⟩ | ⟨life, -⟩ | ⟨life, -⟩
    · exact d
    · exact life.symm.trans dormant
    · exact life.symm.trans dormant
  settings s k := by
    obtain ⟨_, e⟩ := takeSettings_od s
    rw [e]
    exact k
  locks s _ k := by
    rcases k with k | k | ⟨life, first, pair, cut, ht, sw⟩
    · exact .inl k
    · exact .inr (.inl k)
    · refine .inr (.inr ⟨life, first, pair, cut, ht, fun i => ?_⟩)
      have e : s.syncLocks.sw[i] = { s.sw[i] with inhibit := decide (s.sw[i].fn = ChFn.pump) && s.locksNow.any } := by
        simp [State.syncLocks, State.onChannels]
      rw [e]
      exact sw i
  budget s _ k := by
    rcases k with k | k | k
    · exact .inl k
    · exact .inr (.inl k.budget)
    · exact k.budget
  channels s _ k := by
    rcases k with k | k | k
    · exact .inl k
    · exact .inr (.inl k)
    · exact k.channels
  heating s _ k := by
    have u := units_heatingReacts s
    rcases k with ⟨d, r⟩ | ⟨life, first, denied⟩ | k
    · exact .inl ⟨d, u.life.trans r⟩
    · refine .inr (.inl ⟨u.life.trans life, ?_⟩)
      rw [show s.heatingReacts.lb = s.lb by rw [u.rest], show s.heatingReacts.limitUsed = s.limitUsed by rw [u.rest]; rfl]
      exact ⟨first, denied⟩
    · rw [k.heating firing lit]
      exact .inr (.inr k)
  flags s k := by
    unfold State.syncFlags
    split <;> exact k

end

/-- A lit burner that the statement's premises let burn is lit at the end of the event, its unit as the event has left it. -/
theorem burner_stays_lit {s u : State} {cls : Fin 8 → Nat} (sound : ShedSound s) (life : u.life = s.life) (lb : u.lb = s.lb)
    (limit : u.limitUsed = s.limitUsed) (totals : ∀ w, u.totalsWith w = s.totalsWith w)
    (firing : u.ht.burner = .firing) (lit : u.ht.lit = true) (allowed : BurnerAllowed cls s u.finish)
    (sw : ∀ i : Fin 8, u.sw[i].heater = s.sw[i].heater ∧ (s.sw[i].heater = true →
      u.sw[i].request = s.sw[i].request ∧ u.sw[i].state = s.sw[i].state ∧ u.sw[i].classUsed = cls i)) :
    BurnerLit u.finish ∧ u.finish.ht = u.ht := by
  obtain ⟨active, lifeAfter, first, cut, cutAfter, on⟩ := allowed
  obtain ⟨-, -, -, -, -, pairAfter, -⟩ := (sound.ready.of_limit (t := u) life lb limit totals).finish
  obtain ⟨-, -, -, -, -, pair, -⟩ := sound
  have start : BurnsOn s.life (fun i => s.sw[i].heater) cls u.ht u := by
    refine ⟨life, by rw [lb]; exact first, by rw [lb]; exact pair, by rw [lb]; exact cut, rfl, fun i => ⟨(sw i).1, fun o => ?_⟩⟩
    obtain ⟨r, st, c⟩ := (sw i).2 o
    obtain ⟨request, state, -⟩ := on i o
    exact ⟨r.trans request, st.trans state, c⟩
  rcases (burnsOn_finishKeeps firing lit).finish (.inr (.inr start)) with ⟨d, r⟩ | ⟨-, -, ⟨i, o, n⟩ | ⟨c, -⟩⟩ | burns
  · rw [lifeAfter, d] at r
    cases r
  · have g := (on i o).2.2
    rw [pairAfter, lifeAfter] at g
    exact absurd g (Nat.not_lt.2 n)
  · rw [cutAfter] at c
    cases c
  · obtain ⟨-, -, -, -, ht, channels⟩ := burns
    refine ⟨⟨by rw [ht]; exact firing, by rw [ht]; exact lit, fun i heater => ?_⟩, ht⟩
    obtain ⟨own, stays⟩ := channels i
    have o : s.sw[i].heater = true := own.symm.trans heater
    obtain ⟨request, state, c⟩ := stays o
    have g := (on i o).2.2
    have fn : u.finish.sw[i].fn ≠ .none := fun n => by
      rcases Channel.heater_iff.1 heater with k | k <;> rw [n] at k <;> cases k
    have current := finish_outputs u (by rw [life]; exact active) i
    have full := Channel.evaluate_on (e := u.finish.chEnv) fn request state
      (by show u.finish.life.operating = true; rw [pairAfter] at g; exact operating_of_rank g) (by rw [c]; exact g)
    rw [current] at full
    exact full

end Sys2Proof.Machine
end

section
/-! PROOFS. O40: the minimum on time and the rest of the burner. -/

namespace Sys2Proof.Machine

section
variable {s : State} {e : Nat}

/-! ### Entry to FIRING -/

theorem Channel.requestWith_state (c : Channel) (now : Nat) (t : Timer) : (c.requestWith now t).state = c.state := by
  unfold Channel.requestWith
  split
  · rfl
  · unfold Channel.cycleRequest
    split <;> rfl

theorem enterFiring_get (s : State) (i : Fin 8) : s.enterFiring.sw[i] =
    if s.sw[i].heater = true then { s.sw[i].requestUntilOff s.now with givenClass := some s.burnerClass } else s.sw[i] :=
  State.onBurnerAndFan_get s _ i

theorem enterFiring_stays (s : State) (i : Fin 8) : s.enterFiring.sw[i].state = s.sw[i].state ∧
    s.enterFiring.sw[i].trips = s.sw[i].trips ∧ s.enterFiring.sw[i].fn = s.sw[i].fn := by
  have body := Channel.requestUntilOff_body s.sw[i] s.now
  simp only [Channel.body, Prod.mk.injEq] at body
  obtain ⟨record, -, -, trips, -⟩ := body
  rw [enterFiring_get]
  split
  · exact ⟨Channel.requestWith_state _ _ _, trips, Channel.fn_of_record record⟩
  · exact ⟨rfl, rfl, rfl⟩

theorem heaterFaulted_congr {t : State} (h : ∀ i : Fin 8, t.sw[i].fn = s.sw[i].fn ∧ t.sw[i].state = s.sw[i].state) :
    t.heaterFaulted = s.heaterFaulted := by
  have faulted (fn : ChFn) : t.channelFaulted fn = s.channelFaulted fn := anyChannel_congr fun i => by rw [(h i).1, (h i).2]
  unfold State.heaterFaulted
  rw [faulted, faulted]

theorem enterFiring_heaterFaulted (s : State) : s.enterFiring.heaterFaulted = s.heaterFaulted :=
  heaterFaulted_congr fun i => ⟨(enterFiring_stays s i).2.2, (enterFiring_stays s i).1⟩

/-- A burner that fires beside no FAULT fires on or goes out in what follows (R133 to R136). -/
theorem finish_fires {u : State} (b : u.ht.burner = .firing) (f : u.heaterFaulted = false) :
    u.finish.ht.burner = .firing ∨ u.finish.ht.burner = .runOn :=
  ((finish_changes u).1 .channels (by simp)).2.1 b f

/-! ### Frames -/

/-- An event of the Heating unit alone, at the end of one of its timers. -/
theorem heater_changes {u : State} (h : HeaterAlone (s.reach e) u) : u.finish.now = max s.now e ∧
    (∀ i : Fin 8, s.sw[i].heater = false → s.sw[i].Kept True u.finish.sw[i]) ∧
    Changes [.clock, .heating, .channels] s u.finish := by
  have c : Composes [.clock, .heating, .channels] := by simp [Composes]
  exact ⟨by rw [finish_now, h.now]; rfl, fun i n => h.finish_others i n,
    Changes.of_frame c (by simp) (((frame_reach s e).widen (by simp)).seq c h.frame (by simp)) (by rw [h.life]; rfl)⟩

/-! ### MINIMUM_ON_TIMER_EXPIRY (R135) -/

/-- The end of the minimum on time, before the burner acts on it. -/
def State.minimumOnEnds (e : Nat) (s : State) : State := (s.reach e).onHeating fun h => { h with minimumOn := none }

theorem minimumOn_run (due : s.ht.minimumOn = some e) : exec .minimumOnTimerExpiry s =
    .next ((if s.ht.burner = .firing ∧ s.ht.lit = true ∧ ¬ s.demand = true then (s.minimumOnEnds e).burnerOff
      else s.minimumOnEnds e).finish) :=
  congrArg Host.Outcome.next (onExpiry_of due)

theorem minimumOn_goesOut (due : s.ht.minimumOn = some e) (firing : s.ht.burner = .firing) (lit : s.ht.lit = true)
    (none_ : s.demand = false) :
    ∃ t, exec .minimumOnTimerExpiry s = .next t ∧ t.now = max s.now e ∧ t.ht.burner = .runOn ∧ t.ht.lit = false ∧
      t.ht.minimumOn = none ∧ t.ht.rest = some (max s.now e + 180000) ∧
      (∀ i : Fin 8, s.sw[i].fn = .burner → t.sw[i].request = false ∧ t.sw[i].givenClass = none) ∧
      (∀ i : Fin 8, s.sw[i].fn = .burnerFan →
        t.sw[i].request = true ∧ t.sw[i].exempt = true ∧ t.sw[i].endTimer = some (max s.now e + 120000)) ∧
      (∀ i : Fin 8, s.sw[i].heater = false → s.sw[i].Kept True t.sw[i]) ∧
      Changes [.clock, .heating, .channels] s t := by
  have run := minimumOn_run due
  rw [if_pos ⟨firing, lit, by rw [none_]; nofun⟩] at run
  obtain ⟨now, others, changes⟩ := heater_changes (s := s) (e := e)
    ((heater_onHeating (s.reach e) fun h => { h with minimumOn := none }).trans (heater_burnerOff (s.minimumOnEnds e)))
  have ht : (s.minimumOnEnds e).burnerOff.finish.ht = (s.minimumOnEnds e).burnerOff.ht :=
    finish_ht_still (by rw [burnerOff_ht]; nofun)
  refine ⟨_, run, now, by rw [ht]; rfl, by rw [ht]; rfl, by rw [ht]; rfl, by rw [ht]; rfl, fun i b => ?_, fun i f => ?_, others,
    changes⟩
  · have core := burnerOff_core (s := s.minimumOnEnds e) i
    rw [burnerOff_burner (s := s.minimumOnEnds e) b] at core
    obtain ⟨request, -, -, -, -, -, -, -, -, -, -, -, given⟩ := Channel.core_eq_iff.1 core
    exact ⟨request, given⟩
  · have core := burnerOff_core (s := s.minimumOnEnds e) i
    rw [burnerOff_fan (s := s.minimumOnEnds e) f] at core
    obtain ⟨request, endTimer, -, -, -, exempt, -⟩ := Channel.core_eq_iff.1 core
    exact ⟨request, exempt, endTimer⟩

theorem minimumOn_stays (due : s.ht.minimumOn = some e)
    (other : s.ht.burner ≠ .firing ∨ s.ht.lit = false ∨ s.demand = true) :
    ∃ t, exec .minimumOnTimerExpiry s = .next t ∧ t.now = max s.now e ∧
      (s.ht.burner ≠ .firing → t.ht = { s.ht with minimumOn := none }) ∧
      (s.ht.burner = .firing → s.ht.lit = true → ShedSound s → BurnerAllowed (fun i => s.sw[i].classUsed) s t →
        BurnerLit t ∧ t.ht = { s.ht with minimumOn := none }) ∧
      (∀ i : Fin 8, s.sw[i].Kept (s.ht.burner = .firing) t.sw[i]) ∧ Changes [.clock, .heating, .channels] s t := by
  have run := minimumOn_run due
  rw [if_neg (by rintro ⟨b, l, d⟩; rcases other with h | h | h
                 · exact h b
                 · rw [h] at l; cases l
                 · exact d h)] at run
  obtain ⟨now, -, changes⟩ := heater_changes (s := s) (e := e)
    (heater_onHeating (s.reach e) fun h => { h with minimumOn := none })
  refine ⟨_, run, now, fun cold => finish_ht_still cold, fun firing lit sound allowed => ?_, fun i => finish_channel _ i, changes⟩
  exact burner_stays_lit (u := s.minimumOnEnds e) sound rfl rfl rfl (fun _ => rfl) firing lit allowed
    fun i => ⟨rfl, fun _ => ⟨rfl, rfl, rfl⟩⟩

/-! ### REST_TIMER_EXPIRY (R137) -/

/-- The end of the rest, before the burner fires anew. -/
def State.restEnds (e : Nat) (s : State) : State := (s.reach e).onHeating fun h => { h with rest := none, burner := .off }

theorem rest_run (due : s.ht.rest = some e) (rest : s.ht.burner = .rest) :
    exec .restTimerExpiry s = .next (s.restEnds e).tryFire.finish :=
  congrArg Host.Outcome.next ((if_pos rest).trans (onExpiry_of due))

theorem heater_restEnds (s : State) (e : Nat) : HeaterAlone (s.reach e) (s.restEnds e) := heater_onHeating _ _

theorem rest_ends (due : s.ht.rest = some e) (rest : s.ht.burner = .rest)
    (no : s.demand = false ∨ s.hasChannel .burnerFan = false ∨ s.heaterFaulted = true) :
    ∃ t, exec .restTimerExpiry s = .next t ∧ t.now = max s.now e ∧
      t.ht = { s.ht with burner := .off, rest := none } ∧
      (∀ i : Fin 8, s.sw[i].Kept False t.sw[i]) ∧ Changes [.clock, .heating, .channels] s t := by
  have stays : (s.restEnds e).tryFire = s.restEnds e := if_neg fun ⟨_, d, f, w⟩ => by
    rcases no with h | h | h
    · exact absurd (show s.demand = true from d) (by rw [h]; nofun)
    · exact absurd (show s.hasChannel .burnerFan = true from f) (by rw [h]; nofun)
    · exact w h
  have run := rest_run due rest
  rw [stays] at run
  obtain ⟨now, -, changes⟩ := heater_changes (heater_restEnds s e)
  have cold : (s.restEnds e).ht.burner ≠ .firing := nofun
  exact ⟨_, run, now, finish_ht_still cold,
    fun i => (Channel.Kept.refl False s.sw[i]).trans (fun b => cold b) (finish_channel (s.restEnds e) i), changes⟩

theorem rest_fires (due : s.ht.rest = some e) (rest : s.ht.burner = .rest) (demand : s.demand = true)
    (fan : s.hasChannel .burnerFan = true) (well : s.heaterFaulted = false) :
    ∃ t, exec .restTimerExpiry s = .next t ∧ t.now = max s.now e ∧ (t.ht.burner = .firing ∨ t.ht.burner = .runOn) ∧
      (∀ i : Fin 8, s.sw[i].heater = true → t.sw[i].trips = s.sw[i].trips) ∧
      (∀ i : Fin 8, s.sw[i].heater = false → s.sw[i].Kept True t.sw[i]) ∧
      Changes [.clock, .heating, .channels] s t := by
  have fires : (s.restEnds e).tryFire = (s.restEnds e).enterFiring :=
    if_pos ⟨rfl, demand, fan, by rw [show (s.restEnds e).heaterFaulted = _ from well]; nofun⟩
  have run := rest_run due rest
  rw [fires] at run
  obtain ⟨now, others, changes⟩ := heater_changes ((heater_restEnds s e).trans (heater_enterFiring _))
  refine ⟨_, run, now, finish_fires rfl ((enterFiring_heaterFaulted _).trans well), fun i _ => ?_, others, changes⟩
  exact (finish_channel (s.restEnds e).enterFiring i).2.2.1.trans (enterFiring_stays (s.restEnds e) i).2.1

/-- Settles O40, by the demand that the two timers find. -/
theorem burnerTimersEnd : Obligations.BurnerTimersEnd := fun _ _ =>
  ⟨minimumOn_goesOut, minimumOn_stays, fun n => congrArg Host.Outcome.next (if_neg n), rest_ends, rest_fires⟩

end

end Sys2Proof.Machine
end

section
/-! PROOFS. O39: one evaluation of the Heating unit. -/

namespace Sys2Proof.Machine

/-! ### The cabin source (R130) -/

/-- One step of the search for the lowest-addressed reading. -/
def lowerCabin (best : Option (Addr × Int)) (p : Peer) : Option (Addr × Int) :=
  match p.cabin, best with
  | none, _ => best
  | some r, none => some (p.addr, r.value)
  | some r, some (a, v) => if p.addr < a then some (p.addr, r.value) else some (a, v)

theorem lowestCabin_eq (ps : List Peer) : lowestCabin ps = ps.foldl lowerCabin none := rfl

theorem foldl_lowerCabin_some (ps : List Peer) (a : Addr) (v : Int) : ∃ b w, ps.foldl lowerCabin (some (a, v)) = some (b, w) ∧
    b ≤ a ∧ (∀ q ∈ ps, q.cabin ≠ none → b ≤ q.addr) ∧
    ((b, w) = (a, v) ∨ ∃ p ∈ ps, ∃ r, p.cabin = some r ∧ w = r.value ∧ b = p.addr) := by
  induction ps generalizing a v with
  | nil => exact ⟨a, v, rfl, le_refl _, by simp, .inl rfl⟩
  | cons p ps ih =>
    cases c : p.cabin with
    | none =>
      have step : lowerCabin (some (a, v)) p = some (a, v) := by
        unfold lowerCabin
        rw [c]
      obtain ⟨b, w, e, le, all, from_⟩ := ih a v
      refine ⟨b, w, by rw [List.foldl_cons, step, e], le, fun q m n => ?_, from_.imp id fun ⟨p', m, k⟩ => ⟨p', .tail _ m, k⟩⟩
      rcases List.mem_cons.1 m with rfl | m
      · exact absurd c n
      · exact all q m n
    | some r =>
      by_cases lt : p.addr < a
      · have step : lowerCabin (some (a, v)) p = some (p.addr, r.value) := by
          unfold lowerCabin
          rw [c]
          exact if_pos lt
        obtain ⟨b, w, e, le, all, from_⟩ := ih p.addr r.value
        refine ⟨b, w, by rw [List.foldl_cons, step, e], le.trans lt.le, fun q m n => ?_, .inr ?_⟩
        · rcases List.mem_cons.1 m with rfl | m
          · exact le
          · exact all q m n
        · rcases from_ with h | ⟨p', m, k⟩
          · obtain ⟨rfl, rfl⟩ := Prod.mk.inj h
            exact ⟨p, .head _, r, c, rfl, rfl⟩
          · exact ⟨p', .tail _ m, k⟩
      · have step : lowerCabin (some (a, v)) p = some (a, v) := by
          unfold lowerCabin
          rw [c]
          exact if_neg lt
        obtain ⟨b, w, e, le, all, from_⟩ := ih a v
        refine ⟨b, w, by rw [List.foldl_cons, step, e], le, fun q m n => ?_, from_.imp id fun ⟨p', m, k⟩ => ⟨p', .tail _ m, k⟩⟩
        rcases List.mem_cons.1 m with rfl | m
        · exact le.trans (not_lt.1 lt)
        · exact all q m n

/-- The reading of the lowest-addressed peer that holds one, where any does. -/
theorem lowestCabin_spec (ps : List Peer) : ((∀ p ∈ ps, p.cabin = none) → lowestCabin ps = none) ∧
    ((∃ p ∈ ps, p.cabin ≠ none) → ∃ a v, lowestCabin ps = some (a, v) ∧
      ∃ p ∈ ps, ∃ r, p.cabin = some r ∧ v = r.value ∧ ∀ q ∈ ps, q.cabin ≠ none → p.addr ≤ q.addr) := by
  rw [lowestCabin_eq]
  induction ps with
  | nil => simp
  | cons p ps ih =>
    cases c : p.cabin with
    | none =>
      have step : lowerCabin none p = none := by
        unfold lowerCabin
        rw [c]
      rw [List.foldl_cons, step]
      refine ⟨fun h => ih.1 fun q m => h q (.tail _ m), fun ⟨q, m, n⟩ => ?_⟩
      have rest : ∃ q ∈ ps, q.cabin ≠ none := by
        rcases List.mem_cons.1 m with rfl | m
        · exact absurd c n
        · exact ⟨q, m, n⟩
      obtain ⟨a, v, e, p', m', r, k, val, all⟩ := ih.2 rest
      refine ⟨a, v, e, p', .tail _ m', r, k, val, fun q m n => ?_⟩
      rcases List.mem_cons.1 m with rfl | m
      · exact absurd c n
      · exact all q m n
    | some r =>
      have step : lowerCabin none p = some (p.addr, r.value) := by
        unfold lowerCabin
        rw [c]
      rw [List.foldl_cons, step]
      refine ⟨fun h => absurd (h p (.head _)) (by rw [c]; nofun), fun _ => ?_⟩
      obtain ⟨b, w, e, le, all, from_⟩ := foldl_lowerCabin_some ps p.addr r.value
      have lower : ∀ q ∈ p :: ps, q.cabin ≠ none → b ≤ q.addr := fun q m n => by
        rcases List.mem_cons.1 m with rfl | m
        · exact le
        · exact all q m n
      rcases from_ with h | ⟨p', m, r', k, val, addr⟩
      · obtain ⟨rfl, rfl⟩ := Prod.mk.inj h
        exact ⟨_, _, e, p, .head _, r, c, rfl, lower⟩
      · exact ⟨_, _, e, p', .tail _ m, r', k, val, addr ▸ lower⟩

/-! ### Source and demands -/

/-- What an evaluation chooses and asks for. -/
def Heating.asked (h : Heating) : CabinSource × Option Int × Bool × Bool × Bool :=
  (h.source, h.tCab, h.sensorPart, h.normalDemand, h.frostHold)

theorem Heating.asked_eq_iff {g h : Heating} : g.asked = h.asked ↔ g.source = h.source ∧ g.tCab = h.tCab ∧
    g.sensorPart = h.sensorPart ∧ g.normalDemand = h.normalDemand ∧ g.frostHold = h.frostHold := by
  simp [Heating.asked]

theorem actOnBurner_asked (s : State) : s.actOnBurner.ht.asked = s.ht.asked := by
  have given := congrArg Heating.asked (giveBurnerClass_ht s)
  unfold State.actOnBurner
  split
  · unfold State.tryFire
    split <;> rfl
  · split
    · exact given
    · rfl
  · split
    · rfl
    · exact given
  · rfl
  · rfl

theorem finish_asked (s : State) : s.finish.ht.asked = s.ht.asked := by
  rw [finish_ht]
  rfl

/-- The state on which the burner acts: the next evaluation set, the source and both demands taken (R129 to R132). -/
def State.asks (e : Nat) (s : State) : State :=
  ((s.reach e).onHeating fun h => { h with next := some (max s.now e + 1000) }).chooseCabin.updateDemand

section
variable (s : State) (e : Nat)

theorem heater_updateDemand (s : State) : HeaterAlone s s.updateDemand := heater_onHeating s _

theorem heater_asks : HeaterAlone (s.reach e) (s.asks e) :=
  ((heater_onHeating (s.reach e) fun h => { h with next := some (max s.now e + 1000) }).trans (heater_chooseCabin _)).trans
    (heater_updateDemand _)

theorem chooseCabin_eq (u : State) : ∃ src tc part, u.chooseCabin =
    u.onHeating fun h => { h with source := src, tCab := tc, sensorPart := part } := by
  unfold State.chooseCabin
  split <;> exact ⟨_, _, _, rfl⟩

/-- The evaluation so far has touched the Heating unit alone. -/
theorem asks_eq : ∃ h, s.asks e = (s.reach e).onHeating (fun _ => h) ∧ h.burner = s.ht.burner ∧ h.lit = s.ht.lit ∧
    h.minimumOn = s.ht.minimumOn ∧ h.settings = (s.ht.heaterEnabled, s.ht.frostHoldEnabled, s.ht.setpoint, s.ht.params,
      some (max s.now e + 1000)) := by
  unfold State.asks
  obtain ⟨_, _, _, c⟩ := chooseCabin_eq ((s.reach e).onHeating fun h => { h with next := some (max s.now e + 1000) })
  rw [c]
  exact ⟨_, rfl, rfl, rfl, rfl, rfl⟩

theorem asks_demands : (s.asks e).ht.normalDemand = normalDemandOf (decide (s.life = .dormant))
      { s.ht with tCab := (s.asks e).ht.tCab } ∧
    (s.asks e).ht.frostHold = frostHoldOf { s.ht with tCab := (s.asks e).ht.tCab } := by
  unfold State.asks
  obtain ⟨_, _, _, c⟩ := chooseCabin_eq ((s.reach e).onHeating fun h => { h with next := some (max s.now e + 1000) })
  rw [c]
  exact ⟨rfl, rfl⟩

theorem asks_source {src : CabinSource} {tc : Option Int} {part : Bool}
    (h : ((s.reach e).onHeating fun h => { h with next := some (max s.now e + 1000) }).chooseCabin =
      ((s.reach e).onHeating fun h => { h with next := some (max s.now e + 1000) }).onHeating
        fun h => { h with source := src, tCab := tc, sensorPart := part }) :
    (s.asks e).ht.source = src ∧ (s.asks e).ht.tCab = tc ∧ (s.asks e).ht.sensorPart = part := by
  unfold State.asks
  rw [h]
  exact ⟨rfl, rfl, rfl⟩

theorem chooseCabin_local {u : State} {x : Int} (h : u.temperature .cabinT = some x) :
    u.chooseCabin = u.onHeating fun h => { h with source := .localInput, tCab := some x, sensorPart := false } := by
  unfold State.chooseCabin
  rw [h]

theorem chooseCabin_none {u : State} (h : u.temperature .cabinT = none) (k : lowestCabin u.pt.entries = none) :
    u.chooseCabin = u.onHeating fun h => { h with source := .none, tCab := none, sensorPart := true } := by
  unfold State.chooseCabin
  rw [h, k]

theorem chooseCabin_peer {u : State} {a : Addr} {x : Int} (h : u.temperature .cabinT = none)
    (k : lowestCabin u.pt.entries = some (a, x)) :
    u.chooseCabin = u.onHeating fun h => { h with source := .peer, tCab := some x, sensorPart := false } := by
  unfold State.chooseCabin
  rw [h, k]

theorem asks_local {x : Int} (h : s.temperature .cabinT = some x) :
    (s.asks e).ht.source = .localInput ∧ (s.asks e).ht.tCab = some x ∧ (s.asks e).ht.sensorPart = false :=
  asks_source s e (chooseCabin_local h)

theorem asks_none (h : s.temperature .cabinT = none) (k : lowestCabin s.pt.entries = none) :
    (s.asks e).ht.source = .none ∧ (s.asks e).ht.tCab = none ∧ (s.asks e).ht.sensorPart = true :=
  asks_source s e (chooseCabin_none h k)

theorem asks_peer {a : Addr} {x : Int} (h : s.temperature .cabinT = none) (k : lowestCabin s.pt.entries = some (a, x)) :
    (s.asks e).ht.source = .peer ∧ (s.asks e).ht.tCab = some x ∧ (s.asks e).ht.sensorPart = false :=
  asks_source s e (chooseCabin_peer h k)

/-- With a cabin temperature there is a source, and no sensor fault. -/
theorem asks_sensorPart {x : Int} (h : (s.asks e).ht.tCab = some x) : (s.asks e).ht.sensorPart = false := by
  cases t : s.temperature .cabinT with
  | some y => exact (asks_local s e t).2.2
  | none =>
    cases k : lowestCabin s.pt.entries with
    | some y => exact (asks_peer s e t k).2.2
    | none =>
      rw [(asks_none s e t k).2.1] at h
      cases h

end

/-! ### What the burner does -/

section
variable {s : State}

theorem giveBurnerClass_get (h : s.ht.burner = .firing) (i : Fin 8) : s.giveBurnerClass.sw[i] =
    if s.sw[i].heater = true then { s.sw[i] with givenClass := some s.burnerClass } else s.sw[i] := by
  unfold State.giveBurnerClass
  rw [if_pos h]
  exact State.onBurnerAndFan_get s _ i

theorem giveBurnerClass_heaterFaulted (s : State) : s.giveBurnerClass.heaterFaulted = s.heaterFaulted := by
  refine heaterFaulted_congr fun i => ?_
  by_cases h : s.ht.burner = .firing
  · rw [giveBurnerClass_get h]
    split <;> exact ⟨rfl, rfl⟩
  · have e : s.giveBurnerClass = s := if_neg h
    rw [e]
    exact ⟨rfl, rfl⟩

theorem actOnBurner_off (b : s.ht.burner = .off) : s.actOnBurner = s.tryFire := by
  unfold State.actOnBurner
  rw [b]

theorem actOnBurner_waits (b : s.ht.burner = .firing) (l : s.ht.lit = false) :
    s.actOnBurner = if s.demand then s.giveBurnerClass else s.abandonFiring := by
  unfold State.actOnBurner
  rw [b, l]

theorem actOnBurner_lit (b : s.ht.burner = .firing) (l : s.ht.lit = true) : s.actOnBurner =
    if s.ht.source = .none ∨ (¬ s.demand ∧ s.ht.minimumOn = none) then s.burnerOff else s.giveBurnerClass := by
  unfold State.actOnBurner
  rw [b, l]

theorem actOnBurner_ended (b : s.ht.burner = .runOn ∨ s.ht.burner = .rest) : s.actOnBurner = s := by
  unfold State.actOnBurner
  rcases b with b | b <;> rw [b]

theorem burnerClass_congr {t : State} (f : t.ht.frostHold = s.ht.frostHold)
    (r : ∀ i : Fin 8, t.sw[i].record = s.sw[i].record) : t.burnerClass = s.burnerClass := by
  have fn (i : Fin 8) : t.sw[i].fn = s.sw[i].fn := Channel.fn_of_record (r i)
  have cls (i : Fin 8) : t.sw[i].cls = s.sw[i].cls := (Channel.record_eq_iff.1 (r i)).2.2.1
  unfold State.burnerClass State.burnerRecordClass
  simp only [f, fn, cls]

end

/-- One evaluation, with what follows. -/
def State.htEvaluated (e : Nat) (s : State) : State := (s.asks e).actOnBurner.finish

section
variable {s : State} {e : Nat}

theorem htEvaluation_run (active : s.life.active = true) (started : s.nc.started = true) (due : s.ht.next = some e)
    (burner : s.hasChannel .burner = true) : exec .htEvaluation s = .next (s.htEvaluated e) := by
  refine congrArg Host.Outcome.next (((if_pos ⟨active, started⟩).trans (onExpiry_of due)).trans ?_)
  exact congrArg State.finish (if_pos burner)

theorem htEvaluated_asked : (s.htEvaluated e).ht.asked = (s.asks e).ht.asked :=
  (finish_asked _).trans (actOnBurner_asked _)

theorem htEvaluated_demand : (s.htEvaluated e).demand = (s.asks e).demand := by
  obtain ⟨-, -, -, normal, frost⟩ := Heating.asked_eq_iff.1 (htEvaluated_asked (s := s) (e := e))
  unfold State.demand
  rw [normal, frost]

theorem htEvaluated_lit (firing : s.ht.burner = .firing) (lit : s.ht.lit = true)
    (source : (s.asks e).ht.source ≠ .none) (needed : (s.asks e).demand = true ∨ s.ht.minimumOn ≠ none)
    (sound : ShedSound s) (allowed : BurnerAllowed (fun _ => (s.htEvaluated e).burnerClass) s (s.htEvaluated e)) :
    BurnerLit (s.htEvaluated e) ∧ (s.htEvaluated e).ht.minimumOn = s.ht.minimumOn := by
  obtain ⟨h, asks, b, l, m, -⟩ := asks_eq s e
  have burns : (s.asks e).ht.burner = .firing := by rw [asks]; exact b.trans firing
  have act : (s.asks e).actOnBurner = (s.asks e).giveBurnerClass := by
    rw [actOnBurner_lit burns (by rw [asks]; exact l.trans lit)]
    refine if_neg fun n => ?_
    rcases n with n | ⟨d, n⟩
    · exact source n
    · rw [asks] at n
      exact needed.elim (fun k => d k) fun k => k (m.symm.trans n)
  have alone := (heater_asks s e).trans (heater_giveBurnerClass (s.asks e))
  have cls : (s.htEvaluated e).burnerClass = (s.asks e).burnerClass := by
    refine burnerClass_congr (Heating.asked_eq_iff.1 htEvaluated_asked).2.2.2.2 fun i => ?_
    exact (finish_channel _ i).1.trans ((heater_actOnBurner _).records i)
  have pt : (s.asks e).giveBurnerClass.pt = s.pt := by rw [alone.rest]; rfl
  unfold State.htEvaluated at allowed ⊢
  rw [act] at allowed ⊢
  have ht := giveBurnerClass_ht (s.asks e)
  have channels (i : Fin 8) (heater : s.sw[i].heater = true) :
      (s.asks e).giveBurnerClass.sw[i].request = s.sw[i].request ∧
        (s.asks e).giveBurnerClass.sw[i].state = s.sw[i].state ∧
        (s.asks e).giveBurnerClass.sw[i].classUsed = (s.asks e).giveBurnerClass.finish.burnerClass := by
    have stands : (s.asks e).sw[i] = s.sw[i] := by rw [asks]; rfl
    have given := giveBurnerClass_get burns i
    rw [stands, if_pos heater] at given
    rw [given]
    refine ⟨rfl, rfl, ?_⟩
    have k := cls
    unfold State.htEvaluated at k
    rw [act] at k
    exact k.symm
  obtain ⟨litAfter, same⟩ := burner_stays_lit (u := (s.asks e).giveBurnerClass) sound alone.life alone.lb
    (by rw [alone.rest]; rfl) (fun _ => by unfold State.totalsWith; rw [pt]) (by rw [ht]; exact burns)
    (by rw [ht, asks]; exact l.trans lit) allowed fun i => ⟨alone.heater i, channels i⟩
  refine ⟨litAfter, ?_⟩
  rw [same, ht, asks]
  exact m

end

/-! ### The clauses of O39 -/

section
variable {s : State} {e : Nat}

theorem asks_sw (i : Fin 8) : (s.asks e).sw[i] = s.sw[i] := by
  obtain ⟨h, asks, -⟩ := asks_eq s e
  rw [asks]
  rfl

theorem asks_burner : (s.asks e).ht.burner = s.ht.burner ∧ (s.asks e).ht.lit = s.ht.lit ∧
    (s.asks e).ht.minimumOn = s.ht.minimumOn := by
  obtain ⟨h, asks, b, l, m, -⟩ := asks_eq s e
  rw [asks]
  exact ⟨b, l, m⟩

theorem asks_now : (s.asks e).now = max s.now e := (heater_asks s e).now

theorem asks_heaterFaulted : (s.asks e).heaterFaulted = s.heaterFaulted :=
  heaterFaulted_congr fun i => by rw [asks_sw i]; exact ⟨rfl, rfl⟩

theorem asks_fans : (s.asks e).hasChannel .burnerFan = s.hasChannel .burnerFan :=
  anyChannel_congr fun i => by rw [asks_sw i]

theorem htEvaluated_settings : (s.htEvaluated e).ht.settings =
    (s.ht.heaterEnabled, s.ht.frostHoldEnabled, s.ht.setpoint, s.ht.params, some (max s.now e + 1000)) := by
  obtain ⟨h, asks, -, -, -, settings⟩ := asks_eq s e
  refine (finish_settings _).trans ((actOnBurner_settings (s.asks e)).trans ?_)
  rw [asks]
  exact settings

/-- The sources, by the local input and the peers (R130). -/
theorem htEvaluated_source :
    (∀ x, s.temperature .cabinT = some x →
      (s.htEvaluated e).ht.source = .localInput ∧ (s.htEvaluated e).ht.tCab = some x) ∧
    (s.temperature .cabinT = none → (∀ p ∈ s.pt.entries, p.cabin = none) →
      (s.htEvaluated e).ht.source = .none ∧ (s.htEvaluated e).ht.tCab = none ∧ (s.htEvaluated e).ht.sensorPart = true ∧
        (s.htEvaluated e).ht.normalDemand = false ∧ (s.htEvaluated e).ht.frostHold = false) ∧
    (s.temperature .cabinT = none → (∃ p ∈ s.pt.entries, p.cabin ≠ none) → (s.htEvaluated e).ht.source = .peer ∧
      ∃ p ∈ s.pt.entries, ∃ r, p.cabin = some r ∧ (s.htEvaluated e).ht.tCab = some r.value ∧
        ∀ q ∈ s.pt.entries, q.cabin ≠ none → p.addr ≤ q.addr) := by
  obtain ⟨source, tCab, part, normal, frost⟩ := Heating.asked_eq_iff.1 (htEvaluated_asked (s := s) (e := e))
  rw [source, tCab, part, normal, frost]
  refine ⟨fun x t => ?_, fun t no => ?_, fun t some_ => ?_⟩
  · obtain ⟨h1, h2, -⟩ := asks_local s e t
    exact ⟨h1, h2⟩
  · obtain ⟨h1, h2, h3⟩ := asks_none s e t ((lowestCabin_spec _).1 no)
    obtain ⟨d1, d2⟩ := asks_demands s e
    rw [d1, d2, h2]
    exact ⟨h1, rfl, h3, rfl, rfl⟩
  · obtain ⟨a, v, low, p, m, r, c, rfl, all⟩ := (lowestCabin_spec _).2 some_
    obtain ⟨h1, h2, -⟩ := asks_peer s e t low
    exact ⟨h1, p, m, r, c, h2, all⟩

/-- The demands with a cabin temperature (R131, R132). -/
theorem htEvaluated_demands {x : Int} (t : (s.htEvaluated e).ht.tCab = some x) :
    (s.htEvaluated e).ht.sensorPart = false ∧
    (s.ht.heaterEnabled = false ∨ s.life = .dormant → (s.htEvaluated e).ht.normalDemand = false) ∧
    (s.ht.heaterEnabled = true → s.life ≠ .dormant → (s.htEvaluated e).ht.normalDemand =
      if x < s.ht.setpoint - s.ht.params.hyst then true
      else if s.ht.setpoint + s.ht.params.hyst ≤ x then false else s.ht.normalDemand) ∧
    (s.ht.frostHoldEnabled = false → (s.htEvaluated e).ht.frostHold = false) ∧
    (s.ht.frostHoldEnabled = true → (s.htEvaluated e).ht.frostHold =
      if x < s.ht.params.frostFloor then true
      else if s.ht.params.frostFloor + 20 ≤ x then false else s.ht.frostHold) := by
  obtain ⟨-, tCab, part, normal, frost⟩ := Heating.asked_eq_iff.1 (htEvaluated_asked (s := s) (e := e))
  rw [tCab] at t
  obtain ⟨d1, d2⟩ := asks_demands s e
  rw [part, normal, frost, d1, d2, t]
  refine ⟨asks_sensorPart s e t, fun off => ?_, fun on awake => ?_, fun off => ?_, fun on => ?_⟩
  · refine if_pos (off.imp (fun h => ?_) fun h => decide_eq_true h)
    show ¬ s.ht.heaterEnabled = true
    rw [h]
    nofun
  · refine if_neg fun h => ?_
    rcases h with h | h
    · exact h on
    · exact awake (of_decide_eq_true h)
  · refine if_pos ?_
    show ¬ s.ht.frostHoldEnabled = true
    rw [off]
    nofun
  · exact if_neg fun h => h on

/-- A burner in OFF (R133). -/
theorem htEvaluated_off (off : s.ht.burner = .off) :
    ((s.htEvaluated e).demand = false ∨ s.hasChannel .burnerFan = false ∨ s.heaterFaulted = true →
      (s.htEvaluated e).ht.burner = .off) ∧
    ((s.htEvaluated e).demand = true → s.hasChannel .burnerFan = true → s.heaterFaulted = false →
      (s.htEvaluated e).ht.burner = .firing ∨ (s.htEvaluated e).ht.burner = .runOn) := by
  have burner : (s.asks e).ht.burner = .off := asks_burner.1.trans off
  rw [htEvaluated_demand]
  unfold State.htEvaluated
  rw [actOnBurner_off burner]
  unfold State.tryFire
  rw [asks_fans, asks_heaterFaulted]
  refine ⟨fun no => ?_, fun demand fan well => ?_⟩
  · rw [if_neg (by
      rintro ⟨-, d, f, w⟩
      rcases no with h | h | h
      · rw [h] at d; cases d
      · rw [h] at f; cases f
      · exact w h), finish_ht_still (by rw [burner]; nofun)]
    exact burner
  · rw [if_pos ⟨burner, demand, fan, by rw [well]; nofun⟩]
    exact finish_fires rfl ((enterFiring_heaterFaulted _).trans (asks_heaterFaulted.trans well))

/-- A lit burner without a source, or without demand past its minimum on time (R135, R136). -/
theorem htEvaluated_goesOut (firing : s.ht.burner = .firing) (lit : s.ht.lit = true)
    (ends : (s.asks e).ht.source = .none ∨ ((s.asks e).demand = false ∧ s.ht.minimumOn = none)) :
    (s.htEvaluated e).ht.burner = .runOn ∧ (s.htEvaluated e).ht.lit = false ∧
      (s.htEvaluated e).ht.rest = some (max s.now e + 180000) ∧
      ∀ i : Fin 8, s.sw[i].fn = .burnerFan → (s.htEvaluated e).sw[i].request = true ∧
        (s.htEvaluated e).sw[i].exempt = true ∧ (s.htEvaluated e).sw[i].givenClass = some 0 ∧
        (s.htEvaluated e).sw[i].endTimer = some (max s.now e + 120000) := by
  obtain ⟨b, l, m⟩ := asks_burner (s := s) (e := e)
  have act : (s.asks e).actOnBurner = (s.asks e).burnerOff := by
    rw [actOnBurner_lit (b.trans firing) (l.trans lit)]
    exact if_pos (ends.imp id fun ⟨d, n⟩ => ⟨by rw [d]; nofun, m.trans n⟩)
  unfold State.htEvaluated
  rw [act, finish_ht_still (by rw [burnerOff_ht]; nofun), burnerOff_ht, asks_now]
  refine ⟨rfl, rfl, rfl, fun i fan => ?_⟩
  have core := burnerOff_core (s := s.asks e) i
  rw [burnerOff_fan (by rw [asks_sw]; exact fan), asks_now] at core
  obtain ⟨request, endTimer, -, -, -, exempt, -, -, -, -, -, -, given⟩ := Channel.core_eq_iff.1 core
  exact ⟨request, exempt, given, endTimer⟩

/-- A waiting burner (R133, R134). -/
theorem htEvaluated_waits (firing : s.ht.burner = .firing) (unlit : s.ht.lit = false) (active : s.life.active = true) :
    ((s.htEvaluated e).demand = true → (s.heaterFaulted = true → (s.htEvaluated e).ht.burner = .off) ∧
      (s.heaterFaulted = false → (s.htEvaluated e).ht.burner = .firing ∨ (s.htEvaluated e).ht.burner = .runOn)) ∧
    ((s.htEvaluated e).demand = false → (s.htEvaluated e).ht.burner = .off ∧
      ∀ i : Fin 8, s.sw[i].heater = true → (s.htEvaluated e).sw[i].request = false) := by
  obtain ⟨b, l, -⟩ := asks_burner (s := s) (e := e)
  have act := actOnBurner_waits (b.trans firing) (l.trans unlit)
  rw [htEvaluated_demand]
  unfold State.htEvaluated
  rw [act]
  refine ⟨fun demand => ?_, fun none_ => ?_⟩
  · rw [if_pos demand]
    have ht := giveBurnerClass_ht (s.asks e)
    have faulted := (giveBurnerClass_heaterFaulted (s.asks e)).trans asks_heaterFaulted
    have alive : (s.asks e).giveBurnerClass.life.active = true := by
      rw [(heater_giveBurnerClass _).life, (heater_asks s e).life]
      exact active
    exact ⟨fun f => finish_abandons alive (by rw [ht]; exact b.trans firing) (by rw [ht]; exact l.trans unlit)
        (faulted.trans f),
      fun w => finish_fires (by rw [ht]; exact b.trans firing) (faulted.trans w)⟩
  · rw [if_neg (by rw [none_]; nofun)]
    have cold : (s.asks e).abandonFiring.ht.burner ≠ .firing := nofun
    refine ⟨by rw [finish_ht_still cold]; rfl, fun i heater => ?_⟩
    have core := finish_core (s := (s.asks e).abandonFiring) (i := i) fun _ => cold
    rw [abandonFiring_get, asks_sw, if_pos heater] at core
    exact (Channel.core_eq_iff.1 core).1

theorem htEvaluated_ended (h : s.ht.burner = .runOn ∨ s.ht.burner = .rest) :
    (s.htEvaluated e).ht.burner = s.ht.burner := by
  have b := (asks_burner (s := s) (e := e)).1
  unfold State.htEvaluated
  rw [actOnBurner_ended (by rw [b]; exact h), finish_ht_still (by rw [b]; rcases h with h | h <;> rw [h] <;> nofun), b]

end

/-- Settles O39: source and demands as the evaluation takes them, then the burner by its state. -/
theorem heatingEvaluates : Obligations.HeatingEvaluates := by
  intro s e active started due burner
  obtain ⟨now, others, changes⟩ := heater_changes (s := s) (e := e) ((heater_asks s e).trans (heater_actOnBurner _))
  obtain ⟨enabled, hold, setpoint, params, next⟩ := Heating.settings_eq_iff (h := { s.ht with next := some (max s.now e + 1000) }).1
    (htEvaluated_settings (s := s) (e := e))
  obtain ⟨source, -⟩ := Heating.asked_eq_iff.1 (htEvaluated_asked (s := s) (e := e))
  obtain ⟨input, none_, peer⟩ := htEvaluated_source (s := s) (e := e)
  refine ⟨s.htEvaluated e, htEvaluation_run active started due burner, now, next, enabled, hold, setpoint, params, input,
    none_, peer, fun x => htEvaluated_demands, fun off => (htEvaluated_off off).1, fun off => (htEvaluated_off off).2,
    fun firing lit ends => htEvaluated_goesOut firing lit ?_, fun firing lit sourced needed sound allowed => ?_,
    fun firing unlit => (htEvaluated_waits firing unlit active).1, fun firing unlit => (htEvaluated_waits firing unlit active).2,
    htEvaluated_ended, others, changes⟩
  · rwa [source, htEvaluated_demand] at ends
  · rw [source] at sourced
    rw [htEvaluated_demand] at needed
    exact htEvaluated_lit firing lit sourced needed sound allowed

end Sys2Proof.Machine
end

section
/-! PROOFS. O53: the HEATER rows. -/

namespace Sys2Proof.Machine

section
variable {s v : State} {e : Entry}

/-- A request that reaches the Heating unit alone, answered, with what follows. -/
theorem heater_served (t : s.canTake e = true) (h : HeaterAlone s.popEntry v) (code : AnswerCode) :
    Replied e.requester code s (v.reply e.requester code).finish ∧
      Served [.heating, .channels] s (v.reply e.requester code).finish ∧
      ∀ i : Fin 8, s.sw[i].heater = false → s.sw[i].Kept True (v.reply e.requester code).finish.sw[i] := by
  have fifo : v.ts.fifo = s.ts.fifo := by rw [h.rest]; rfl
  refine ⟨replied_taken (u := v) t fifo code, ?_, fun i cold => ?_⟩
  · exact served_of_frame (by simp [Composes]) (commissioning_of_canTake t) (by simp) (by simp)
      (h.frame.seq (by simp [Composes]) (frame_reply _ _ _) (by simp))
  · have kept := finish_channel (v.reply e.requester code) i
    rw [State.reply_sw, h.others i cold] at kept
    exact ⟨kept.1, fun _ => kept.2.1 (.inl cold), kept.2.2⟩

/-- A request that changes no channel and not the burner. -/
theorem heating_served (t : s.canTake e = true) (f : Heating → Heating) (b : (f s.ht).burner = s.ht.burner)
    (code : AnswerCode) :
    Replied e.requester code s ((s.popEntry.onHeating f).reply e.requester code).finish ∧
      Served [.heating] s ((s.popEntry.onHeating f).reply e.requester code).finish :=
  ⟨(heater_served t (heater_onHeating s.popEntry f) code).1,
    served_of_frame (by simp [Composes]) (commissioning_of_canTake t) (by simp) (by simp)
      ((frame_onHeating' s.popEntry f b).seq (by simp [Composes]) (frame_reply _ _ _) (by simp))⟩

/-- The unit after a request, with what follows from it: all as the request leaves it but the burner. -/
theorem replied_ht (v : State) (r : Option Requester) (code : AnswerCode) : (v.reply r code).finish.ht = { v.ht with
    burner := (v.reply r code).finish.ht.burner, lit := (v.reply r code).finish.ht.lit
    minimumOn := (v.reply r code).finish.ht.minimumOn, rest := (v.reply r code).finish.ht.rest } := by
  have h := finish_ht (v.reply r code)
  rwa [State.reply_ht] at h

theorem replied_ht_still {r : Option Requester} {code : AnswerCode} (h : v.ht.burner ≠ .firing) :
    (v.reply r code).finish.ht = v.ht := by
  rw [finish_ht_still (by rw [State.reply_ht]; exact h), State.reply_ht]

/-! ### A disable (R135, R138) -/

theorem heatingDisabled_still (h : s.ht.burner ≠ .firing) : s.heatingDisabled = s := if_neg h

/-- A burner that fires goes out where the disable has left no demand. -/
theorem heatingDisabled_ends (b : s.ht.burner = .firing) (d : s.demand = false) :
    s.heatingDisabled = if s.ht.lit then s.burnerOff else s.abandonFiring := by
  unfold State.heatingDisabled
  rw [if_pos b, if_neg (by rw [d]; nofun)]

/-- Its burner after the answer, with what follows. -/
theorem disabled_burner {r : Option Requester} {code : AnswerCode} (b : s.ht.burner = .firing) (d : s.demand = false) :
    (s.ht.lit = true → (s.heatingDisabled.reply r code).finish.ht.burner = .runOn ∧
      (s.heatingDisabled.reply r code).finish.ht.rest = some (s.now + 180000)) ∧
    (s.ht.lit = false → (s.heatingDisabled.reply r code).finish.ht.burner = .off) := by
  rw [heatingDisabled_ends b d]
  refine ⟨fun l => ?_, fun l => ?_⟩
  · rw [if_pos l, replied_ht_still (by rw [burnerOff_ht]; nofun)]
    exact ⟨rfl, rfl⟩
  · rw [if_neg (by rw [l]; nofun), replied_ht_still (by show Burner.off ≠ _; nofun)]
    rfl

/-- A disable keeps trips and puts no channel in FAULT. -/
theorem heatingDisabled_channel (s : State) (i : Fin 8) : s.heatingDisabled.sw[i].trips = s.sw[i].trips ∧
    (s.sw[i].state ≠ .fault → s.heatingDisabled.sw[i].state ≠ .fault) := by
  have off (c : Channel) (n : c.state ≠ .fault) : c.requestOff.state ≠ .fault := by
    show (if c.state = .on ∨ c.state = .held then ChState.off else c.state) ≠ .fault
    split
    · nofun
    · exact n
  unfold State.heatingDisabled
  split
  next b =>
    split
    · rw [giveBurnerClass_get b]
      split <;> exact ⟨rfl, id⟩
    · split
      · by_cases fn : s.sw[i].fn = .burner
        · rw [burnerOff_burner fn]
          exact ⟨rfl, off _⟩
        · by_cases fan : s.sw[i].fn = .burnerFan
          · rw [burnerOff_fan fan]
            exact ⟨rfl, id⟩
          · have cold : s.sw[i].heater = false := Channel.heater_eq_false fn fan
            rw [(heater_burnerOff s).others i cold]
            exact ⟨rfl, id⟩
      · rw [abandonFiring_get]
        split
        · exact ⟨rfl, off _⟩
        · exact ⟨rfl, id⟩
  · exact ⟨rfl, id⟩

/-! ### ON, SET and FROST_HOLD -/

theorem heaterOn_served (own : s.hasFunction (operateOf e.payload) = true) (k : Takes 5 1 e s) :
    ∃ t, exec .heaterOn s = .next t ∧
      (s.heaterFaulted = true → Replied e.requester .refusedFault s t ∧ Served [] s t) ∧
      (s.heaterFaulted = false → Replied e.requester .done s t ∧ Served [.heating] s t ∧
        t.ht = { s.ht with
          heaterEnabled := true, burner := t.ht.burner, lit := t.ht.lit, minimumOn := t.ht.minimumOn,
          rest := t.ht.rest }) := by
  refine ⟨_, congrArg Host.Outcome.next (State.operate_served k own), ?_⟩
  unfold State.heaterOn
  rw [show s.popEntry.heaterFaulted = s.heaterFaulted from rfl]
  refine ⟨fun f => ?_, fun w => ?_⟩
  · rw [if_pos f]
    obtain ⟨replied, served, -⟩ := answered_taken k.2.1 .refusedFault
    exact ⟨replied, served⟩
  · rw [if_neg (by rw [w]; nofun)]
    obtain ⟨replied, served⟩ := heating_served k.2.1 (fun h => { h with heaterEnabled := true }) rfl .done
    exact ⟨replied, served, replied_ht _ _ _⟩

theorem heaterFrostHold_served {o : Operate} (ho : o = operateOf e.payload) (own : s.hasFunction o = true)
    (k : Takes 5 6 e s) :
    ∃ t, exec .heaterFrostHold s = .next t ∧ Replied e.requester .done s t ∧ Served [.heating, .channels] s t ∧
      t.ht = { s.ht with
        frostHoldEnabled := decide (o.value ≠ 0), frostHold := if o.value = 0 then false else s.ht.frostHold,
        burner := t.ht.burner, lit := t.ht.lit, minimumOn := t.ht.minimumOn, rest := t.ht.rest } ∧
      (o.value ≠ 0 ∨ s.ht.burner ≠ .firing → Served [.heating] s t) ∧
      (o.value = 0 → s.ht.burner = .firing → s.ht.normalDemand = false →
        (s.ht.lit = true → t.ht.burner = .runOn ∧ t.ht.rest = some (s.now + 180000)) ∧
        (s.ht.lit = false → t.ht.burner = .off)) ∧
      ∀ i : Fin 8, s.sw[i].heater = false → s.sw[i].Kept True t.sw[i] := by
  subst ho
  refine ⟨_, congrArg Host.Outcome.next (State.operate_served k own), ?_⟩
  unfold State.heaterFrostHold
  by_cases z : (operateOf e.payload).value = 0
  · rw [if_pos z, if_pos z]
    generalize hv : s.popEntry.onHeating (fun h => { h with frostHoldEnabled := false, frostHold := false }) = v
    have ht : v.ht = { s.ht with frostHoldEnabled := false, frostHold := false } := by rw [← hv]; rfl
    have alone : HeaterAlone s.popEntry v.heatingDisabled := by
      rw [← hv]
      exact (heater_onHeating s.popEntry fun h => { h with frostHoldEnabled := false, frostHold := false }).trans
        (heater_heatingDisabled _)
    obtain ⟨replied, served, others⟩ := heater_served k.2.1 alone .done
    refine ⟨replied, served, ?_, fun n => ?_, fun _ b d => ?_, others⟩
    · rw [replied_ht, show v.heatingDisabled.ht = _ from heatingDisabled_ht v, ht, decide_eq_false (fun n => n z)]
    · have cold := n.resolve_left fun n => n z
      rw [heatingDisabled_still (by rw [ht]; exact cold), ← hv]
      exact (heating_served k.2.1 (fun h => { h with frostHoldEnabled := false, frostHold := false }) rfl .done).2
    · have ends := disabled_burner (s := v) (r := e.requester) (code := .done) (by rw [ht]; exact b) (by
        unfold State.demand
        rw [ht]
        show (s.ht.normalDemand || false) = false
        rw [d]
        rfl)
      rw [ht, show v.now = s.now by rw [← hv]; rfl] at ends
      exact ends
  · rw [if_neg z, if_neg z]
    obtain ⟨replied, served⟩ := heating_served k.2.1 (fun h => { h with frostHoldEnabled := true }) rfl .done
    refine ⟨replied, served.widen (by simp), ?_, fun _ => served, fun n => absurd n z,
      (heater_served k.2.1 (heater_onHeating s.popEntry fun h => { h with frostHoldEnabled := true }) .done).2.2⟩
    rw [replied_ht, decide_eq_true z]
    rfl

/-! ### OFF -/

theorem heaterClears_record (runOn : Bool) (c : Channel) : (c.heaterClears runOn).record = c.record := by
  unfold Channel.heaterClears
  split
  next f =>
    split
    · rfl
    · exact (Channel.clearFault_spec f).1
  · rfl

theorem heaterClears_fault (runOn : Bool) {c : Channel} (f : c.state = .fault) :
    (c.heaterClears runOn).trips = [] ∧ (c.heaterClears runOn).state = .off := by
  obtain ⟨-, state, -, -, trips, -⟩ := Channel.clearFault_spec f
  unfold Channel.heaterClears
  rw [if_pos f]
  split
  · exact ⟨rfl, rfl⟩
  · exact ⟨trips, state⟩

/-- The unit disabled, the faults of its channels cleared (R138). -/
def State.heaterCleared (s : State) : State :=
  (s.onHeating fun h => { h with heaterEnabled := false, normalDemand := false }).onBurnerAndFan
    (Channel.heaterClears (s.ht.burner = .runOn))

theorem heater_heaterCleared (s : State) : HeaterAlone s s.heaterCleared :=
  (heater_onHeating s _).trans (heater_onBurnerAndFan _ _ (heaterClears_record _))

theorem heaterOff_served (own : s.hasFunction (operateOf e.payload) = true) (k : Takes 5 2 e s) :
    ∃ t, exec .heaterOff s = .next t ∧ Replied e.requester .done s t ∧ Served [.heating, .channels] s t ∧
      t.ht = { s.ht with
        heaterEnabled := false, normalDemand := false, burner := t.ht.burner, lit := t.ht.lit,
        minimumOn := t.ht.minimumOn, rest := t.ht.rest } ∧
      (∀ i : Fin 8, s.sw[i].heater = true → s.sw[i].state = .fault →
        t.sw[i].trips = [] ∧ t.sw[i].state ≠ .fault) ∧
      (s.ht.burner = .firing → s.ht.frostHold = false →
        (s.ht.lit = true → t.ht.burner = .runOn ∧ t.ht.rest = some (s.now + 180000)) ∧
        (s.ht.lit = false → t.ht.burner = .off)) ∧
      (s.ht.burner ≠ .firing → t.ht.burner = s.ht.burner) ∧
      ∀ i : Fin 8, s.sw[i].heater = false → s.sw[i].Kept True t.sw[i] := by
  have run : exec .heaterOff s = .next (s.popEntry.heaterCleared.heatingDisabled.reply e.requester .done).finish :=
    congrArg Host.Outcome.next (State.operate_served k own)
  have ht : s.popEntry.heaterCleared.ht = { s.ht with heaterEnabled := false, normalDemand := false } := rfl
  obtain ⟨replied, served, others⟩ := heater_served k.2.1
    ((heater_heaterCleared s.popEntry).trans (heater_heatingDisabled _)) .done
  refine ⟨_, run, replied, served, ?_, fun i heater fault => ?_, fun b f => ?_, fun cold => ?_, others⟩
  · rw [replied_ht, show s.popEntry.heaterCleared.heatingDisabled.ht = _ from heatingDisabled_ht _, ht]
  · have cleared : s.popEntry.heaterCleared.sw[i] = s.sw[i].heaterClears (s.ht.burner = .runOn) :=
      (State.onBurnerAndFan_get _ _ i).trans (if_pos heater)
    obtain ⟨trips, state⟩ := heaterClears_fault (decide (s.ht.burner = .runOn)) fault
    obtain ⟨d1, d2⟩ := heatingDisabled_channel s.popEntry.heaterCleared i
    rw [cleared] at d1 d2
    have kept := finish_channel (s.popEntry.heaterCleared.heatingDisabled.reply e.requester .done) i
    rw [State.reply_sw] at kept
    exact ⟨kept.2.2.1.trans (d1.trans trips), fun n => d2 (by rw [state]; nofun) (kept.2.2.2.2.1.1 n)⟩
  · have ends := disabled_burner (s := s.popEntry.heaterCleared) (r := e.requester) (code := .done) b (by
      show (false || s.ht.frostHold) = false
      rw [f]
      rfl)
    exact ends
  · rw [heatingDisabled_still (s := s.popEntry.heaterCleared) cold, replied_ht_still (v := s.popEntry.heaterCleared) cold]
    rfl

end

/-- Settles O53, row by row. -/
theorem heaterRequestsAreServed : Obligations.HeaterRequestsAreServed := by
  rintro s e o rfl own
  refine ⟨heaterOn_served own, fun k => ?_, heaterFrostHold_served rfl own, heaterOff_served own⟩
  obtain ⟨replied, served⟩ := heating_served k.2.1
    (fun h => { h with setpoint := clampInt 50 300 (operateOf e.payload).value }) rfl .done
  exact ⟨_, congrArg Host.Outcome.next (State.operate_served k own), replied, served, replied_ht _ _ _⟩

end Sys2Proof.Machine
end

section
/-! PROOFS. O37: the water evaluation: levels, frost guards and their heaters. -/

namespace Sys2Proof.Machine

/-! ### Levels (R111, R112) -/

theorem levelPercent_of {rEmpty rFull pc : Nat} {r : Int}
    (h : (pc : Int) = max 0 (min 100 ((r - rEmpty) * 100 / (rFull - rEmpty : Int)))) : levelPercent rEmpty rFull r = pc := by
  unfold levelPercent clampInt
  rw [← h]
  exact Int.toNat_natCast pc

section
variable (s : State)

/-- What the conversion of the levels leaves alone. -/
theorem convertLevels_keeps : s.convertLevels.wf.params = s.wf.params ∧ s.convertLevels.wf.volume = s.wf.volume ∧
    s.convertLevels.wf.fresh = s.wf.fresh ∧ s.convertLevels.wf.grey = s.wf.grey ∧
    s.convertLevels.wf.dumpTimer = s.wf.dumpTimer := by
  show (WaterFrost.takeGrey _ _ (WaterFrost.takeFresh _ _ s.wf)).params = _ ∧ _
  unfold State.convertLevels State.onWater WaterFrost.takeFresh WaterFrost.takeGrey
  cases s.routed .freshLevel <;> cases s.routed .greyLevel <;> cases s.level .freshLevel <;> cases s.level .greyLevel <;>
    exact ⟨rfl, rfl, rfl, rfl, rfl⟩

/-- The fresh level is that of the fresh route and its reading. -/
theorem convertLevels_fresh :
    s.convertLevels.wf.freshPercent = (s.wf.takeFresh (s.routed .freshLevel) (s.level .freshLevel)).freshPercent ∧
    s.convertLevels.wf.freshEmpty = (s.wf.takeFresh (s.routed .freshLevel) (s.level .freshLevel)).freshEmpty := by
  unfold State.convertLevels State.onWater WaterFrost.takeGrey
  cases s.routed .greyLevel <;> cases s.level .greyLevel <;> exact ⟨rfl, rfl⟩

/-- The grey level is that of the grey route and its reading. -/
theorem convertLevels_grey :
    s.convertLevels.wf.greyPercent = (s.wf.takeGrey (s.routed .greyLevel) (s.level .greyLevel)).greyPercent ∧
    s.convertLevels.wf.greyFull = (s.wf.takeGrey (s.routed .greyLevel) (s.level .greyLevel)).greyFull := by
  unfold State.convertLevels State.onWater WaterFrost.takeFresh WaterFrost.takeGrey
  cases s.routed .freshLevel <;> cases s.routed .greyLevel <;> cases s.level .freshLevel <;> cases s.level .greyLevel <;>
    exact ⟨rfl, rfl⟩

end

/-! ### The heaters (R119, R121) -/

/-- The request of a heater whose guard moves from `was` to `new`. -/
def Channel.heaterFollows (now : Nat) (was new : Guard) (c : Channel) : Channel :=
  match was, new with
  | .idle, .heating | .idle, .dumpPending => c.requestUntilOff now
  | .heating, .idle => c.requestOff
  | _, _ => c

section
variable (s : State) (tank : Nat) (was new : Guard)

theorem State.heaterFollows_eq : s.heaterFollows tank was new = s.onTankHeat tank (Channel.heaterFollows s.now was new) := by
  have still : s = s.onTankHeat tank id := by
    have sw : mapChannels (fun c => c) s.sw = s.sw := Vector.ext fun n h => mapChannels_getElem _ _ n h
    unfold State.onTankHeat State.onChannels
    simp [sw]
  cases was <;> cases new <;> solve | rfl | exact still

theorem Channel.heaterFollows_record (now : Nat) (c : Channel) : (c.heaterFollows now was new).record = c.record := by
  have on : (c.requestUntilOff now).record = c.record := Channel.record_of_body (Channel.requestUntilOff_body c now)
  cases was <;> cases new <;> solve | exact on | rfl

/-- A heater is requested at the entry to heating, not at the entry to IDLE, and else kept. -/
theorem Channel.heaterFollows_spec (now : Nat) (c : Channel) (n : was = .idle → new ≠ .dumped) :
    (was = .idle → new ≠ .idle →
      (c.heaterFollows now was new).request = true ∧ (c.state ≠ .fault → (c.heaterFollows now was new).endTimer = none)) ∧
    (was = .heating → new = .idle → (c.heaterFollows now was new).request = false) ∧
    (was = new ∨ (was ≠ .idle ∧ new ≠ .idle) → c.heaterFollows now was new = c) := by
  have on : (c.requestUntilOff now).request = true ∧ (c.state ≠ .fault → (c.requestUntilOff now).endTimer = none) := by
    refine ⟨?_, fun f => (Channel.requestWith_spec f none).2.1⟩
    by_cases f : c.state = .fault
    · unfold Channel.requestUntilOff Channel.requestWith
      rw [if_pos f]
    · exact (Channel.requestWith_spec f none).1
  cases was <;> cases new <;> simp [Channel.heaterFollows] at n ⊢ <;> exact on

theorem Channel.heaterFollows_same (now : Nat) (g : Guard) (c : Channel) : c.heaterFollows now g g = c := by
  cases g <;> rfl

end

/-! ### The guards (R119 to R123) -/

theorem WaterFrost.holdsWater_iff (w : WaterFrost) :
    w.holdsWater = true ↔ w.freshPercent = none ∨ ∃ pc, w.freshPercent = some pc ∧ 3 < pc := by
  unfold WaterFrost.holdsWater
  cases w.freshPercent <;> simp

/-- Without a temperature every guard but a dumped one heats. -/
theorem Guard.fresh_blind (w : WaterFrost) (allowed : Bool) {g : Guard} (n : g ≠ .dumped) :
    g.fresh w allowed none = .heating := by
  cases g
  case dumped => exact absurd rfl n
  all_goals rfl

/-- A guard that is warm enough is IDLE; a cold one waits for the dump, or heats. -/
theorem Guard.fresh_undecided {w : WaterFrost} {allowed warm : Bool} {x : Int} {g : Guard}
    (h : (g = .idle ∧ warm = decide (w.params.frostOn < x)) ∨ (g = .heating ∧ warm = decide (w.params.frostOff ≤ x))) :
    g.fresh w allowed (some x) =
      if warm = true then .idle
      else if allowed = true ∧ x ≤ w.params.dumpTemp ∧ w.holdsWater = true then .dumpPending else .heating := by
  have heat : g.heat w.params (some x) = if warm = true then .idle else .heating := by
    rcases h with ⟨rfl, rfl⟩ | ⟨rfl, rfl⟩
    · simp only [Guard.heat, decide_eq_true_eq, ← Int.not_le, ite_not]
    · simp only [Guard.heat, decide_eq_true_eq]
  have undecided : g.fresh w allowed (some x) =
      if g.heat w.params (some x) = .heating ∧ allowed = true ∧ x ≤ w.params.dumpTemp ∧ w.holdsWater = true then .dumpPending
      else g.heat w.params (some x) := by
    rcases h with ⟨rfl, -⟩ | ⟨rfl, -⟩ <;> rfl
  rw [undecided, heat]
  cases warm <;> simp

/-- A pending dump stays within half a degree of its temperature, with water left. -/
theorem Guard.fresh_pending (w : WaterFrost) (allowed : Bool) (x : Int) : Guard.dumpPending.fresh w allowed (some x) =
    if w.params.dumpTemp + 5 < x ∨ ¬ w.holdsWater = true then .heating else .dumpPending := rfl

theorem dumpTimerOf_cancelled {now delay : Nat} {was new : Guard} {t : Timer} (h : new ≠ .dumpPending) :
    dumpTimerOf now delay was new t = none := if_neg h

theorem Guard.heat_ne_dumped {p : WfParams} {x : Option Int} {g : Guard} (n : g ≠ .dumped) : g.heat p x ≠ .dumped := by
  cases g
  case dumped => exact absurd rfl n
  case dumpPending => nofun
  all_goals
    cases x
    · nofun
    · simp only [Guard.heat]
      split <;> nofun

theorem Guard.fresh_ne_dumped {w : WaterFrost} {allowed : Bool} {x : Option Int} {g : Guard} (n : g ≠ .dumped) :
    g.fresh w allowed x ≠ .dumped := by
  cases x with
  | none =>
    rw [Guard.fresh_blind w allowed n]
    nofun
  | some x =>
    have undecided {warm : Bool} : (if warm = true then Guard.idle
        else if allowed = true ∧ x ≤ w.params.dumpTemp ∧ w.holdsWater = true then .dumpPending else .heating) ≠ .dumped := by
      split
      · nofun
      · split <;> nofun
    cases g with
    | dumped => exact absurd rfl n
    | dumpPending =>
      rw [Guard.fresh_pending]
      split <;> nofun
    | idle =>
      rw [Guard.fresh_undecided (.inl ⟨rfl, rfl⟩)]
      exact undecided
    | heating =>
      rw [Guard.fresh_undecided (.inr ⟨rfl, rfl⟩)]
      exact undecided

/-- The fresh guard of a state that holds the outcome of an evaluation. -/
theorem freshGuard_moves {s t : State} {w : WaterFrost} {now : Nat} (params : w.params = s.wf.params)
    (fresh : t.wf.fresh = s.wf.fresh.fresh w s.dumpAllowed (s.temperature .freshT))
    (timer : t.wf.dumpTimer = dumpTimerOf now s.wf.params.dumpDelay s.wf.fresh t.wf.fresh s.wf.dumpTimer)
    (percent : t.wf.freshPercent = w.freshPercent) : FreshGuardMoves now s t := by
  have cancelled (h : t.wf.fresh ≠ .dumpPending) : t.wf.dumpTimer = none := timer.trans (dumpTimerOf_cancelled h)
  refine ⟨fun d => by rw [fresh, d]; rfl, fun blind n => ?_, fun x water reading held => ?_⟩
  · have heats : t.wf.fresh = .heating := by rw [fresh, blind, Guard.fresh_blind w _ n]
    exact ⟨heats, cancelled (by rw [heats]; nofun)⟩
  rw [percent, ← WaterFrost.holdsWater_iff] at held
  rw [reading] at fresh
  refine ⟨fun warm h => ?_, fun p => ?_⟩
  · rw [← params] at h
    rw [Guard.fresh_undecided h, params] at fresh
    refine ⟨fun isWarm => ?_, fun isCold => ⟨fun allowed cold wet => ?_, fun no => ?_⟩⟩
    · rw [if_pos isWarm] at fresh
      exact ⟨fresh, cancelled (by rw [fresh]; nofun)⟩
    · rw [isCold, if_neg nofun, if_pos ⟨allowed, cold, held.1 wet⟩] at fresh
      have was : s.wf.fresh ≠ .dumpPending := by
        rcases h with h | h <;> rw [h.1] <;> nofun
      exact ⟨fresh, timer.trans ((if_pos fresh).trans (if_neg was))⟩
    · rw [isCold, if_neg nofun, if_neg (by
        rintro ⟨allowed, cold, wet⟩
        rcases no with no | no | no
        · rw [no] at allowed
          cases allowed
        · omega
        · rw [held.2 wet] at no
          cases no)] at fresh
      exact ⟨fresh, cancelled (by rw [fresh]; nofun)⟩
  · rw [p, Guard.fresh_pending, params] at fresh
    refine ⟨fun cold wet => ?_, fun out => ?_⟩
    · rw [if_neg (by
        rintro (warm | dry)
        · omega
        · exact dry (held.1 wet))] at fresh
      exact ⟨fresh, timer.trans ((if_pos fresh).trans (if_pos p))⟩
    · rw [if_pos (out.imp id fun dry wet => by rw [held.2 wet] at dry; cases dry)] at fresh
      exact ⟨fresh, cancelled (by rw [fresh]; nofun)⟩

section
variable (s : State)

/-- The step of the fresh guard, where it runs. -/
theorem evaluateFresh_runs (g : s.guardExists freshTank = true) {new : Guard}
    (h : s.wf.fresh.fresh s.wf s.dumpAllowed (s.temperature .freshT) = new) :
    s.evaluateFresh = (s.onWater fun w =>
      { w with fresh := new, dumpTimer := dumpTimerOf s.now w.params.dumpDelay w.fresh new w.dumpTimer }).onTankHeat
        freshTank (Channel.heaterFollows s.now s.wf.fresh new) := by
  unfold State.evaluateFresh
  rw [if_pos g, State.heaterFollows_eq, h]
  rfl

theorem evaluateFresh_still (g : s.guardExists freshTank = false) : s.evaluateFresh = s :=
  if_neg (by rw [g]; nofun)

theorem evaluateGrey_runs (g : s.guardExists greyTank = true) {new : Guard}
    (h : s.wf.grey.heat s.wf.params (s.temperature .greyT) = new) :
    s.evaluateGrey = (s.onWater fun w => { w with grey := new }).onTankHeat
        greyTank (Channel.heaterFollows s.now s.wf.grey new) := by
  unfold State.evaluateGrey
  rw [if_pos g, State.heaterFollows_eq, h]
  rfl

theorem evaluateGrey_still (g : s.guardExists greyTank = false) : s.evaluateGrey = s :=
  if_neg (by rw [g]; nofun)

/-- The fresh guard moves itself, its timer and its heaters. -/
theorem evaluateFresh_rest : s.evaluateFresh = { s with
    wf := { s.wf with fresh := s.evaluateFresh.wf.fresh, dumpTimer := s.evaluateFresh.wf.dumpTimer }
    sw := s.evaluateFresh.sw } := by
  cases g : s.guardExists freshTank
  · rw [evaluateFresh_still s g]
  · rw [evaluateFresh_runs s g rfl]
    rfl

theorem evaluateGrey_rest : s.evaluateGrey = { s with
    wf := { s.wf with grey := s.evaluateGrey.wf.grey }, sw := s.evaluateGrey.sw } := by
  cases g : s.guardExists greyTank
  · rw [evaluateGrey_still s g]
  · rw [evaluateGrey_runs s g rfl]
    rfl

theorem evaluateFresh_get (i : Fin 8) : s.evaluateFresh.sw[i] =
    if s.sw[i].fn = .tankHeat ∧ s.sw[i].inst = 1 then
      s.sw[i].heaterFollows s.now s.wf.fresh s.evaluateFresh.wf.fresh
    else s.sw[i] := by
  cases g : s.guardExists freshTank
  · rw [evaluateFresh_still s g, Channel.heaterFollows_same, ite_self]
  · rw [evaluateFresh_runs s g rfl, State.onTankHeat_get]
    rfl

theorem evaluateGrey_get (i : Fin 8) : s.evaluateGrey.sw[i] =
    if s.sw[i].fn = .tankHeat ∧ s.sw[i].inst = 2 then
      s.sw[i].heaterFollows s.now s.wf.grey s.evaluateGrey.wf.grey
    else s.sw[i] := by
  cases g : s.guardExists greyTank
  · rw [evaluateGrey_still s g, Channel.heaterFollows_same, ite_self]
  · rw [evaluateGrey_runs s g rfl, State.onTankHeat_get]
    rfl

theorem frame_evaluateFresh : Frame [.water, .channels] s s.evaluateFresh := by
  cases g : s.guardExists freshTank
  · rw [evaluateFresh_still s g]
    exact Frame.refl _ _
  · rw [evaluateFresh_runs s g rfl]
    exact ((frame_onWater s _).widen (by simp)).seq (by simp [Composes])
      (frame_onTankHeat _ _ _ (Channel.heaterFollows_record _ _ _)) (by simp)

theorem frame_evaluateGrey : Frame [.water, .channels] s s.evaluateGrey := by
  cases g : s.guardExists greyTank
  · rw [evaluateGrey_still s g]
    exact Frame.refl _ _
  · rw [evaluateGrey_runs s g rfl]
    exact ((frame_onWater s _).widen (by simp)).seq (by simp [Composes])
      (frame_onTankHeat _ _ _ (Channel.heaterFollows_record _ _ _)) (by simp)

/-! ### The evaluation (R110) -/

theorem guardExists_of_frame {c : List Block} {s t : State} (h : Frame c s t) (n : Block.channelRecords ∉ c) (tank : Nat) :
    t.guardExists tank = s.guardExists tank := by
  have r : Same .channelRecords s t := h _ n
  refine anyChannel_congr fun i => ?_
  obtain ⟨fn, inst, -⟩ := Channel.record_eq_iff.1 (r i)
  rw [fn, inst]

theorem frame_convertLevels : Frame [.water] s s.convertLevels := frame_onWater s _

theorem evaluateGuards_starts (n : s.nc.started = true) : s.evaluateGuards = s.evaluateFresh.evaluateGrey := if_pos n

theorem evaluateGuards_still (n : s.nc.started = false) : s.evaluateGuards = s := if_neg (by rw [n]; nofun)

theorem frame_evaluateGuards : Frame [.water, .channels] s s.evaluateGuards := by
  cases n : s.nc.started
  · rw [evaluateGuards_still s n]
    exact Frame.refl _ _
  · rw [evaluateGuards_starts s n]
    exact (frame_evaluateFresh s).seq (by simp [Composes]) (frame_evaluateGrey _) (by simp)

theorem frame_waterEvaluates : Frame [.water, .channels] s s.waterEvaluates := by
  have c : Composes [.water, .channels] := by simp [Composes]
  exact (((frame_convertLevels s).widen (by simp)).seq c (frame_evaluateGuards _) (by simp)).seq c
    (frame_onWater s.convertLevels.evaluateGuards _) (by simp)

/-- What the guards leave to the levels. -/
theorem evaluateGuards_rest : s.evaluateGuards = { s with
    wf := { s.wf with
      fresh := s.evaluateGuards.wf.fresh, dumpTimer := s.evaluateGuards.wf.dumpTimer, grey := s.evaluateGuards.wf.grey }
    sw := s.evaluateGuards.sw } := by
  cases n : s.nc.started
  · rw [evaluateGuards_still s n]
  · rw [evaluateGuards_starts s n, evaluateGrey_rest, evaluateFresh_rest]

theorem evaluateGuards_fresh : s.evaluateGuards.wf.fresh =
      (if s.nc.started = true then s.evaluateFresh.wf.fresh else s.wf.fresh) ∧
    s.evaluateGuards.wf.dumpTimer = (if s.nc.started = true then s.evaluateFresh.wf.dumpTimer else s.wf.dumpTimer) := by
  cases n : s.nc.started
  · rw [evaluateGuards_still s n]
    exact ⟨rfl, rfl⟩
  · rw [evaluateGuards_starts s n, evaluateGrey_rest]
    exact ⟨rfl, rfl⟩

theorem evaluateFresh_grey : s.evaluateFresh.evaluateGrey.wf.grey = s.evaluateGrey.wf.grey := by
  have exists_ := guardExists_of_frame (frame_evaluateFresh s) (by simp) greyTank
  have params : s.evaluateFresh.wf.params = s.wf.params := by rw [evaluateFresh_rest]
  have grey : s.evaluateFresh.wf.grey = s.wf.grey := by rw [evaluateFresh_rest]
  have temperature : s.evaluateFresh.temperature .greyT = s.temperature .greyT := by
    rw [evaluateFresh_rest]
    rfl
  cases g : s.guardExists greyTank
  · rw [evaluateGrey_still s g, evaluateGrey_still _ (exists_.trans g), grey]
  · rw [evaluateGrey_runs s g rfl, evaluateGrey_runs _ (exists_.trans g) (by rw [params, grey, temperature])]
    rfl

theorem evaluateGuards_grey : s.evaluateGuards.wf.grey =
    if s.nc.started = true then s.evaluateGrey.wf.grey else s.wf.grey := by
  cases n : s.nc.started
  · rw [evaluateGuards_still s n]
    rfl
  · rw [evaluateGuards_starts s n]
    exact evaluateFresh_grey s

/-- Each tank's heaters follow its guard; the other channels stay. -/
theorem evaluateGuards_get (i : Fin 8) : s.evaluateGuards.sw[i] =
    if s.sw[i].fn = .tankHeat ∧ s.sw[i].inst = 1 then
      s.sw[i].heaterFollows s.now s.wf.fresh s.evaluateGuards.wf.fresh
    else if s.sw[i].fn = .tankHeat ∧ s.sw[i].inst = 2 then
      s.sw[i].heaterFollows s.now s.wf.grey s.evaluateGuards.wf.grey
    else s.sw[i] := by
  have now : s.evaluateFresh.now = s.now := by rw [evaluateFresh_rest]
  have was : s.evaluateFresh.wf.grey = s.wf.grey := by rw [evaluateFresh_rest]
  cases n : s.nc.started
  · rw [evaluateGuards_still s n, Channel.heaterFollows_same, Channel.heaterFollows_same, ite_self, ite_self]
  rw [(evaluateGuards_fresh s).1, if_pos n, evaluateGuards_starts s n, evaluateGrey_get, now, was]
  by_cases one : s.sw[i].fn = .tankHeat ∧ s.sw[i].inst = 1
  · have get := (evaluateFresh_get s i).trans (if_pos one)
    have record : s.evaluateFresh.sw[i].record = s.sw[i].record := by rw [get, Channel.heaterFollows_record]
    obtain ⟨-, inst, -⟩ := Channel.record_eq_iff.1 record
    rw [if_neg (fun h => absurd (inst.symm.trans h.2) (by rw [one.2]; nofun)), if_pos one, get]
  · rw [(evaluateFresh_get s i).trans (if_neg one), if_neg one]

end

section
variable {s : State}

theorem waterEvaluates_fresh_stays (h : s.nc.started = false ∨ s.guardExists 1 = false) :
    s.waterEvaluates.wf.fresh = s.wf.fresh ∧ s.waterEvaluates.wf.dumpTimer = s.wf.dumpTimer := by
  obtain ⟨-, -, fresh, -, timer⟩ := convertLevels_keeps s
  have now := evaluateGuards_fresh s.convertLevels
  have still (g : s.guardExists 1 = false) : s.convertLevels.evaluateFresh = s.convertLevels :=
    evaluateFresh_still s.convertLevels g
  rcases h with n | g
  · rw [if_neg (by rw [show s.convertLevels.nc.started = _ from n]; nofun),
      if_neg (by rw [show s.convertLevels.nc.started = _ from n]; nofun)] at now
    exact ⟨now.1.trans fresh, now.2.trans timer⟩
  · rw [still g, ite_self, ite_self] at now
    exact ⟨now.1.trans fresh, now.2.trans timer⟩

theorem waterEvaluates_fresh_moves (n : s.nc.started = true) (g : s.guardExists 1 = true) {new : Guard}
    (h : s.wf.fresh.fresh s.convertLevels.wf s.dumpAllowed (s.temperature .freshT) = new) :
    s.waterEvaluates.wf.fresh = new ∧ s.waterEvaluates.wf.dumpTimer =
      dumpTimerOf s.now s.wf.params.dumpDelay s.wf.fresh new s.wf.dumpTimer := by
  obtain ⟨params, -, fresh, -, timer⟩ := convertLevels_keeps s
  have allowed : s.convertLevels.dumpAllowed = s.dumpAllowed := by
    unfold State.dumpAllowed
    rw [params]
    rfl
  have now := evaluateGuards_fresh s.convertLevels
  have n : s.convertLevels.nc.started = true := n
  rw [if_pos n, if_pos n, evaluateFresh_runs s.convertLevels g (new := new) (by rw [fresh, allowed]; exact h)] at now
  refine ⟨now.1, now.2.trans ?_⟩
  show dumpTimerOf _ s.convertLevels.wf.params.dumpDelay s.convertLevels.wf.fresh new s.convertLevels.wf.dumpTimer = _
  rw [params, fresh, timer]
  rfl

theorem waterEvaluates_grey_stays (h : s.nc.started = false ∨ s.guardExists 2 = false) :
    s.waterEvaluates.wf.grey = s.wf.grey := by
  obtain ⟨-, -, -, grey, -⟩ := convertLevels_keeps s
  have now := evaluateGuards_grey s.convertLevels
  rcases h with n | g
  · rw [if_neg (by rw [show s.convertLevels.nc.started = _ from n]; nofun)] at now
    exact now.trans grey
  · rw [show s.convertLevels.evaluateGrey = s.convertLevels from evaluateGrey_still s.convertLevels g, ite_self] at now
    exact now.trans grey

theorem waterEvaluates_grey_moves (n : s.nc.started = true) (g : s.guardExists 2 = true) :
    s.waterEvaluates.wf.grey = s.wf.grey.heat s.wf.params (s.temperature .greyT) := by
  obtain ⟨params, -, -, grey, -⟩ := convertLevels_keeps s
  have now := evaluateGuards_grey s.convertLevels
  have n : s.convertLevels.nc.started = true := n
  rw [if_pos n, evaluateGrey_runs s.convertLevels g rfl] at now
  refine now.trans ?_
  show s.convertLevels.wf.grey.heat s.convertLevels.wf.params _ = _
  rw [params, grey]
  rfl

theorem waterEvaluates_get (i : Fin 8) : s.waterEvaluates.sw[i] =
    if s.sw[i].fn = .tankHeat ∧ s.sw[i].inst = 1 then
      s.sw[i].heaterFollows s.now s.wf.fresh s.waterEvaluates.wf.fresh
    else if s.sw[i].fn = .tankHeat ∧ s.sw[i].inst = 2 then
      s.sw[i].heaterFollows s.now s.wf.grey s.waterEvaluates.wf.grey
    else s.sw[i] := by
  obtain ⟨-, -, fresh, grey, -⟩ := convertLevels_keeps s
  have get := evaluateGuards_get s.convertLevels i
  rw [fresh, grey] at get
  exact get

/-- The levels are those that the conversion found. -/
theorem waterEvaluates_levels : s.waterEvaluates.wf = { s.convertLevels.wf with
    fresh := s.waterEvaluates.wf.fresh, dumpTimer := s.waterEvaluates.wf.dumpTimer, grey := s.waterEvaluates.wf.grey
    sensorPart := s.waterSensorPart, next := some (s.now + 1000) } := by
  unfold State.waterEvaluates State.onWater
  dsimp only
  rw [evaluateGuards_rest]
  rfl

/-! ### The sensor part (R125) -/

theorem guardExists_iff {tank : Nat} : s.guardExists tank = true ↔
    ∃ i : Fin 8, s.sw[i].fn = .tankHeat ∧ s.sw[i].inst = tank := by
  unfold State.guardExists
  rw [State.anyChannel_iff]
  simp

theorem waterSensorPart_iff : s.waterSensorPart = true ↔
    (s.routed .freshLevel = true ∧ s.level .freshLevel = none) ∨ (s.routed .greyLevel = true ∧ s.level .greyLevel = none) ∨
      ∃ (i : Fin 8) (tank : Nat) (fn : RouteFn), (tank, fn) ∈ [(1, .freshT), (2, .greyT)] ∧ s.sw[i].fn = .tankHeat ∧
        s.sw[i].inst = tank ∧ s.temperature fn = none := by
  have guards : (∃ (i : Fin 8) (tank : Nat) (fn : RouteFn), (tank, fn) ∈ [(1, .freshT), (2, .greyT)] ∧
      s.sw[i].fn = .tankHeat ∧ s.sw[i].inst = tank ∧ s.temperature fn = none) ↔
      (s.guardExists 1 = true ∧ s.temperature .freshT = none) ∨ (s.guardExists 2 = true ∧ s.temperature .greyT = none) := by
    rw [guardExists_iff, guardExists_iff]
    constructor
    · rintro ⟨i, tank, fn, pair, heater, inst, cold⟩
      simp only [List.mem_cons, Prod.mk.injEq, List.not_mem_nil, or_false] at pair
      rcases pair with ⟨rfl, rfl⟩ | ⟨rfl, rfl⟩
      · exact .inl ⟨⟨i, heater, inst⟩, cold⟩
      · exact .inr ⟨⟨i, heater, inst⟩, cold⟩
    · rintro (⟨⟨i, heater, inst⟩, cold⟩ | ⟨⟨i, heater, inst⟩, cold⟩)
      · exact ⟨i, 1, .freshT, by simp, heater, inst, cold⟩
      · exact ⟨i, 2, .greyT, by simp, heater, inst, cold⟩
  rw [guards]
  unfold State.waterSensorPart
  simp [freshTank, greyTank, or_assoc]

/-! ### O37 -/

theorem heaters_follow {u : State} {tank now : Nat} {was new : Guard}
    (get : ∀ i : Fin 8, s.sw[i].fn = .tankHeat → s.sw[i].inst = tank → u.sw[i] = s.sw[i].heaterFollows now was new)
    (b : u.ht = s.ht) (n : was = .idle → new ≠ .dumped) : HeaterFollows tank was new s u.finish := by
  intro i h inst
  obtain ⟨on, off, same⟩ := Channel.heaterFollows_spec was new now s.sw[i] n
  have get := get i h inst
  have heater : u.sw[i].heater = false := by
    rw [get, Channel.heater_of_record (Channel.heaterFollows_record was new now _)]
    exact heater_of_tankHeat h
  obtain ⟨request, timer, -⟩ := Channel.core_eq_iff.1 (finish_core (s := u) (i := i) fun k => absurd k (by rw [heater]; nofun))
  rw [get] at request timer
  refine ⟨fun i1 i2 => ⟨request.trans (on i1 i2).1, fun f => timer.trans ((on i1 i2).2 f)⟩, fun h1 h2 =>
    request.trans (off h1 h2), fun k => ?_⟩
  have kept := finish_channel u i
  rw [get, same k, b] at kept
  exact kept

/-- What WF_EVALUATION leaves before the end of its event. -/
def State.waterEvaluated (e : Nat) (s : State) : State := (s.reach e).waterEvaluates

theorem waterEvaluated_ht (e : Nat) : (s.waterEvaluated e).ht = s.ht := by
  show (s.reach e).convertLevels.evaluateGuards.ht = s.ht
  rw [evaluateGuards_rest]
  rfl

theorem waterEvaluated_now (e : Nat) : (s.waterEvaluated e).now = max s.now e := by
  show (s.reach e).convertLevels.evaluateGuards.now = _
  rw [evaluateGuards_rest]
  rfl

theorem waterEvaluated_life (e : Nat) : (s.waterEvaluated e).life = s.life := by
  show (s.reach e).convertLevels.evaluateGuards.nc.life = _
  rw [evaluateGuards_rest]
  rfl

/-- The evaluation and the end of its event, by what they keep of the levels and the guards. -/
theorem waterEvaluated_wf (e : Nat) : ∃ locks, (s.waterEvaluated e).finish.wf = { s.convertLevels.wf with
    fresh := (s.waterEvaluated e).wf.fresh, dumpTimer := (s.waterEvaluated e).wf.dumpTimer
    grey := (s.waterEvaluated e).wf.grey, sensorPart := s.waterSensorPart, next := some (max s.now e + 1000), locks := locks } := by
  refine ⟨(s.waterEvaluated e).finish.wf.locks, (finish_wf _).trans ?_⟩
  have levels : (s.waterEvaluated e).wf = _ := waterEvaluates_levels
  conv_lhs => rw [levels]
  rfl

theorem frost_of_guards {u : State} (a : u.life.active = true) : u.finish.nc.flags.frost = true ↔
    u.finish.wf.fresh = .heating ∨ u.finish.wf.fresh = .dumpPending ∨ u.finish.wf.grey = .heating ∨
      u.finish.wf.grey = .dumpPending := by
  rw [flags_of_active a]
  show (u.finish.wf.fresh.heats || u.finish.wf.grey.heats) = true ↔ _
  unfold Guard.heats
  cases u.finish.wf.fresh <;> cases u.finish.wf.grey <;> simp

/-- Settles O37: the levels by their routes, each guard by its table, and the heaters by the guard they follow. -/
theorem waterEvaluates : Obligations.WaterEvaluates := by
  intro s e active due
  have run : exec .wfEvaluation s = .next (s.waterEvaluated e).finish := by
    refine congrArg Host.Outcome.next ?_
    rw [if_pos active]
    exact onExpiry_of due
  obtain ⟨locks, wf⟩ := waterEvaluated_wf (s := s) e
  obtain ⟨params, volume, -⟩ := convertLevels_keeps s
  obtain ⟨freshPercent, freshEmpty⟩ := convertLevels_fresh s
  obtain ⟨greyPercent, greyFull⟩ := convertLevels_grey s
  have fresh : (s.waterEvaluated e).finish.wf.fresh = (s.waterEvaluated e).wf.fresh := by rw [wf]
  have grey : (s.waterEvaluated e).finish.wf.grey = (s.waterEvaluated e).wf.grey := by rw [wf]
  have timer : (s.waterEvaluated e).finish.wf.dumpTimer = (s.waterEvaluated e).wf.dumpTimer := by rw [wf]
  have get (i : Fin 8) := waterEvaluates_get (s := s.reach e) i
  have c : Composes [.clock, .water, .channels] := by simp [Composes]
  refine ⟨_, run, by rw [finish_now, waterEvaluated_now], by rw [wf], by rw [wf]; exact params, by rw [wf]; exact volume,
    by rw [wf]; exact waterSensorPart_iff, fun r pc routed reading h => ?_, fun r pc routed reading h => ?_,
    fun routed reading => ?_, fun routed => ?_, fun routed reading => ?_, fun routed => ?_, fun h => ?_, fun h => ?_,
    fun n g => ?_, fun n g => ?_, frost_of_guards (by rw [waterEvaluated_life]; exact active), fun i h => ?_,
    Changes.of_frame c (by simp) (((frame_reach s e).widen (by simp)).seq c (frame_waterEvaluates (s.reach e)) (by simp))
      (by rw [waterEvaluated_life])⟩
  · rw [wf]
    dsimp only
    rw [freshPercent, freshEmpty, routed, reading]
    show some (levelPercent _ _ r) = _ ∧ freshEmptyOf (levelPercent _ _ r) _ = _
    rw [levelPercent_of h]
    exact ⟨rfl, rfl⟩
  · rw [wf]
    dsimp only
    rw [greyPercent, greyFull, routed, reading]
    show some (levelPercent _ _ r) = _ ∧ greyFullOf (levelPercent _ _ r) _ = _
    rw [levelPercent_of h]
    exact ⟨rfl, rfl⟩
  · rw [wf]
    dsimp only
    rw [freshPercent, freshEmpty, routed, reading]
    exact ⟨rfl, rfl⟩
  · rw [wf]
    dsimp only
    rw [freshPercent, freshEmpty, routed]
    exact ⟨rfl, rfl⟩
  · rw [wf]
    dsimp only
    rw [greyPercent, greyFull, routed, reading]
    exact ⟨rfl, rfl⟩
  · rw [wf]
    dsimp only
    rw [greyPercent, greyFull, routed]
    exact ⟨rfl, rfl⟩
  · obtain ⟨f1, f2⟩ := waterEvaluates_fresh_stays (s := s.reach e) h
    exact ⟨fresh.trans f1, timer.trans f2⟩
  · exact grey.trans (waterEvaluates_grey_stays (s := s.reach e) h)
  · obtain ⟨f1, f2⟩ := waterEvaluates_fresh_moves (s := s.reach e) n g rfl
    refine ⟨freshGuard_moves (w := s.convertLevels.wf) params (fresh.trans f1) ?_ (by rw [wf]), ?_⟩
    · rw [timer, fresh, show (s.waterEvaluated e).wf.fresh = _ from f1]
      exact f2
    · rw [fresh]
      refine heaters_follow (now := max s.now e) (fun i h inst => (get i).trans (if_pos ⟨h, inst⟩)) (waterEvaluated_ht e)
        fun idle => ?_
      rw [show (s.waterEvaluated e).wf.fresh = _ from f1]
      exact Guard.fresh_ne_dumped (by rw [show (s.reach e).wf.fresh = _ from idle]; nofun)
  · have g1 := waterEvaluates_grey_moves (s := s.reach e) n g
    have g1 : (s.waterEvaluated e).wf.grey = s.wf.grey.heat s.wf.params (s.temperature .greyT) := g1
    refine ⟨fun blind was => ?_, fun x reading => ⟨fun idle => ?_, fun heating => ?_⟩, ?_⟩
    · rw [grey, g1, blind]
      rcases was with was | was <;> rw [was] <;> rfl
    · rw [grey, g1, reading, idle]
      rfl
    · rw [grey, g1, reading, heating]
      rfl
    · rw [grey]
      refine heaters_follow (now := max s.now e) (fun i h inst => ?_) (waterEvaluated_ht e) fun idle => ?_
      · have two : ¬ (s.sw[i].fn = .tankHeat ∧ s.sw[i].inst = 1) := fun one => absurd (inst.symm.trans one.2) (by nofun)
        exact (get i).trans ((if_neg two).trans (if_pos ⟨h, inst⟩))
      · rw [g1]
        exact Guard.heat_ne_dumped (by rw [idle]; nofun)
  · have stays := (get i).trans ((if_neg fun k => h k.1).trans (if_neg fun k => h k.1))
    have kept := finish_channel (s.waterEvaluated e) i
    rw [show (s.waterEvaluated e).sw[i] = _ from stays, waterEvaluated_ht] at kept
    exact kept

end

end Sys2Proof.Machine
end

section
/-! PROOFS. O10: what the straps make of the node. -/

namespace Sys2Proof.Machine

/-! ### Straps (R170, R171) -/

theorem bandOf_lt {v n : Nat} (h : bandOf v = some n) : n < 12 := by
  obtain ⟨l, -⟩ := List.findIdx?_eq_some_iff_getElem.1 h
  exact l

theorem addrOfBand_val {n : Nat} (h : n < 12) : (addrOfBand n).val = n + 1 := by
  show (n + 1) % 32 = n + 1
  omega

theorem roleOfBand_code {m : Nat} {r : Role} (h : roleOfBand m = some r) : m = 2 * r.code := by
  unfold roleOfBand at h
  split at h <;> cases h <;> rfl

theorem roleOfBand_odd {m : Nat} (h : m % 2 = 1) : roleOfBand m = none := by
  unfold roleOfBand
  split
  case h_7 => rfl
  all_goals cases h

theorem strapOf_valid {a b n m : Nat} {r : Role} (ha : bandOf a = some n) (hb : bandOf b = some m)
    (hr : roleOfBand m = some r) : strapOf a b = .valid (addrOfBand n) r := by
  unfold strapOf
  rw [ha, hb, Option.bind_some, hr]

theorem strapOf_fault {a b : Nat} (h : bandOf a = none ∨ bandOf b = none ∨ ∃ m, bandOf b = some m ∧ m % 2 = 1) :
    strapOf a b = .fault := by
  unfold strapOf
  rcases h with h | h | ⟨m, h, odd⟩
  · rw [h]
  · rw [h]
    cases bandOf a <;> rfl
  · rw [h, Option.bind_some, roleOfBand_odd odd]
    cases bandOf a <;> rfl

/-! ### The first sample of the Charge Counter (R1, R6) -/

/-- Every sample leaves a count. -/
theorem ChargeCounter.sample_count (c : ChargeCounter) (shunt vbat : Int) (tb : Option Int) :
    (c.sample shunt vbat tb).count.isSome = true := by
  have update (d : ChargeCounter) : d.update.count.isSome = true := by
    unfold ChargeCounter.update
    split
    · rfl
    · unfold ChargeCounter.charge
      dsimp only
      split
      · rfl
      · split <;> rfl
  have cut (d : ChargeCounter) : d.advanceCut.count = d.count := by
    unfold ChargeCounter.advanceCut
    generalize (if d.params.vCut + 400 ≤ d.v then d.clearRun + 1 else 0) = clear
    generalize (if d.v < d.params.vCut then d.cutRun + 1 else 0) = below
    dsimp only
    split <;> split <;> rfl
  have sync (d : ChargeCounter) : d.advanceSync.count.isSome = d.count.isSome := by
    unfold ChargeCounter.advanceSync
    generalize (if d.params.vFull ≤ d.v ∧ 0 ≤ d.iS ∧ d.iS ≤ d.params.iTail then d.syncRun + 1 else 0) = run
    dsimp only
    split
    · exact Option.isSome_map
    · rfl
  obtain ⟨soc, used, l, e⟩ := c.sample_eq shunt vbat tb
  rw [e]
  show (ChargeCounter.advanceSync _).count.isSome = true
  rw [sync, cut]
  exact update _

/-- The start of the Charge Counter touches what its sample does, and the period. -/
theorem State.startCharge_eq (s : State) (shunt vbat : Int) : ∃ cc view p b, s.startCharge shunt vbat = { s with
      cc := cc, pt := { s.pt with view := view }, ts := { s.ts with pending := p }, lb := { s.lb with trigger := b } } ∧
    (s.isBattery = true → cc.count.isSome = true ∧ cc.next = some (s.now + 100)) ∧ (s.isBattery = false → cc = s.cc) := by
  unfold State.startCharge
  split
  next h =>
    obtain ⟨view, p, b, e⟩ := s.ccTakes_eq shunt vbat
    rw [e]
    exact ⟨_, view, p, b, rfl, fun _ => ⟨s.cc.sample_count shunt vbat _, rfl⟩, fun n => absurd h (by rw [n]; nofun)⟩
  next h => exact ⟨s.cc, s.pt.view, s.ts.pending, s.lb.trigger, rfl, fun n => absurd n h, fun _ => rfl⟩

/-! ### The entry to COMMISSIONING (R175) -/

theorem State.waterEvaluates_rest (s : State) :
    s.waterEvaluates = { s with wf := s.waterEvaluates.wf, sw := s.waterEvaluates.sw } := by
  unfold State.waterEvaluates State.onWater
  rw [evaluateGuards_rest]
  rfl

/-- What the entry to COMMISSIONING has set before its interlock event. -/
structure WindowOpens (s u : State) : Prop where
  clock : u.now = s.now
  life : u.life = .commissioning
  strap : u.nc.strap = s.nc.strap
  closing : u.nc.closing = some (s.now + 20000)
  limit : u.nc.limit = some (s.now + 60000)
  records : ∀ i : Fin 8, u.sw[i].record = s.sw[i].record
  ma : u.ma = s.ma
  mb : u.mb = s.mb
  routes : u.sfe.routes = s.sfe.routes
  samples : u.sfe.next = some (s.now + 100)
  travelLine : u.trv = s.trv
  urgent : u.ts.pending.stateUrgent = true
  volume : u.wf.volume = s.wf.volume
  evaluation : u.wf.next = some (s.now + 1000)
  gusts : u.gust.windowEnd = some (s.now + 3000)
  queue : u.pending = s.pending
  battery : s.isBattery = true → u.cc.count.isSome = true ∧ u.cc.next = some (s.now + 100)
  other : s.isBattery = false → u.cc = s.cc

/-- The first steps of the entry: life state, timers and inputs. -/
def State.windowOpened (an : Analog) (s : State) : State :=
  State.takeSample an { s.changeLife .commissioning with
    nc := { (s.changeLife .commissioning).nc with closing := some (s.now + 20000), limit := some (s.now + 60000) }
    gust := { (s.changeLife .commissioning).gust with windowEnd := some (s.now + 3000) } }

theorem State.commissioningUnits_eq (an : Analog) (shunt vbat : Int) (s : State) : s.commissioningUnits an shunt vbat =
    ((s.windowOpened an).startCharge shunt vbat).waterEvaluates.formMeasureList.raiseUrgent := rfl

theorem commissioningUnits_opens (an : Analog) (shunt vbat : Int) (s : State) :
    WindowOpens s (s.commissioningUnits an shunt vbat) := by
  obtain ⟨sv, p, life⟩ := s.changeLife_eq .commissioning
  have opened : s.windowOpened an = State.takeSample an { s with
      nc := { s.nc with life := .commissioning, lifeSince := s.now, closing := some (s.now + 20000), limit := some (s.now + 60000) }
      lc := { s.lc with service := sv }, ts := { s.ts with pending := p }, lb := { s.lb with trigger := true }
      gust := { s.gust with windowEnd := some (s.now + 3000) } } := by
    unfold State.windowOpened
    rw [life]
  have role : (s.windowOpened an).isBattery = s.isBattery := by
    rw [opened]
    rfl
  obtain ⟨cc, view, q, b, charge, battery, other⟩ := (s.windowOpened an).startCharge_eq shunt vbat
  have keeps := convertLevels_keeps ((s.windowOpened an).startCharge shunt vbat)
  have levels := waterEvaluates_levels (s := (s.windowOpened an).startCharge shunt vbat)
  have frame := frame_waterEvaluates ((s.windowOpened an).startCharge shunt vbat)
  have rest := State.waterEvaluates_rest ((s.windowOpened an).startCharge shunt vbat)
  have volume : ((s.windowOpened an).startCharge shunt vbat).waterEvaluates.wf.volume = s.wf.volume := by
    rw [levels]
    refine keeps.2.1.trans ?_
    rw [charge, opened]
    rfl
  have next : ((s.windowOpened an).startCharge shunt vbat).waterEvaluates.wf.next = some (s.now + 1000) := by
    rw [levels, charge, opened]
    rfl
  have records (i : Fin 8) : ((s.windowOpened an).startCharge shunt vbat).waterEvaluates.sw[i].record = s.sw[i].record := by
    have r : Same .channelRecords _ _ := frame _ (by simp)
    refine (r i).trans ?_
    rw [charge, opened]
    rfl
  have now : (s.windowOpened an).now = s.now := by
    rw [opened]
    rfl
  have counter : (s.windowOpened an).cc = s.cc := by
    rw [opened]
    rfl
  rw [role, now] at battery
  rw [role, counter] at other
  rw [charge, opened] at rest volume next records
  rw [State.commissioningUnits_eq, charge, opened]
  constructor
  case records => exact records
  case volume => exact volume
  case evaluation => exact next
  case urgent => rfl
  case battery =>
    intro h
    rw [rest]
    exact battery h
  case other =>
    intro h
    rw [rest]
    exact other h
  all_goals
    rw [rest]
    rfl

/-! ### O10 -/

section
variable {s : State}

/-- What is in place after the interlock event and the end of the event is what the entry has set. -/
theorem windowOpens_finish {u : State} (h : WindowOpens s u) : ∃ t, u.interlockEvent.finish = t ∧ t.now = s.now ∧
    t.life = .commissioning ∧ t.nc.strap = s.nc.strap ∧ t.nc.closing = some (s.now + 20000) ∧
    t.nc.limit = some (s.now + 60000) ∧ (∀ i : Fin 8, t.sw[i].record = s.sw[i].record) ∧ t.ma.fn = s.ma.fn ∧
    t.mb.fn = s.mb.fn ∧ t.sfe.routes = s.sfe.routes ∧ t.trv = s.trv ∧ t.ts.pending.stateUrgent = true ∧
    t.wf.volume = s.wf.volume ∧ t.pending = s.pending ∧ t.sfe.next = some (s.now + 100) ∧
    t.wf.next = some (s.now + 1000) ∧ t.gust.windowEnd = some (s.now + 3000) ∧ t.cc = u.cc := by
  have c : Composes [.interlock, .drives, .inbound] := by simp [Composes]
  have frame : Frame [.interlock, .drives, .inbound] u u.interlockEvent.finish :=
    ((frame_interlockEvent u).widen (by simp)).trans c ((finish_changes _).1.widen (by simp))
  have life : u.interlockEvent.finish.life = u.life ∨ _ := frame .life (by simp)
  have node : u.interlockEvent.finish.nc = _ := frame .node (by simp)
  have drives : _ ∧ _ := frame .driveRecords (by simp)
  have causes : _ ∧ _ := frame .causes (by simp)
  have water : u.interlockEvent.finish.wf = _ := frame .water (by simp)
  have sensors : u.interlockEvent.finish.sfe = u.sfe := frame .sensors (by simp)
  have gust : u.interlockEvent.finish.gust = u.gust := frame .gust (by simp)
  have fn {d e : Drive} (r : d.record = e.record) : d.fn = e.fn := congrArg Prod.fst r
  refine ⟨_, rfl, (frame .clock (by simp)).trans h.clock, ?_, by rw [node]; exact h.strap, by rw [node]; exact h.closing,
    by rw [node]; exact h.limit, fun i => (frame .channelRecords (by simp) i).trans (h.records i),
    (fn drives.1).trans (by rw [h.ma]), (fn drives.2).trans (by rw [h.mb]), by rw [sensors]; exact h.routes,
    (frame .travelLine (by simp)).trans h.travelLine, causes.2.2.1 h.urgent, by rw [water]; exact h.volume,
    (frame .queue (by simp)).trans h.queue, by rw [sensors]; exact h.samples, by rw [water]; exact h.evaluation,
    by rw [gust]; exact h.gusts, frame .charge (by simp)⟩
  rcases life with l | ⟨l, -⟩
  · exact l.trans h.life
  · rw [h.life] at l
    cases l

theorem Drive.takeRole_fn (fn : DriveFn) (d : Drive) : (d.takeRole fn).fn = fn := by
  unfold Drive.takeRole
  split
  next h => exact h
  · rfl

theorem straps_commission {a b n m : Nat} {an : Analog} {shunt vbat : Int} {e : Nat} {r : Role} (reads : s.life = .strapRead)
    (due : s.nc.strapTimer = some e) (ha : bandOf a = some n) (hb : bandOf b = some m) (hr : roleOfBand m = some r) :
    ∃ t, exec (.strapReadEnd a b an shunt vbat) s = .next t ∧ t.now = max s.now e ∧ t.life = .commissioning ∧
      t.nc.strap = .valid (addrOfBand n) r ∧ (addrOfBand n).val = n + 1 ∧ m = 2 * r.code ∧
      t.nc.closing = some (max s.now e + 20000) ∧ t.nc.limit = some (max s.now e + 60000) ∧
      (∀ i : Fin 8, t.sw[i].record = r.channels[i].record) ∧ t.ma.fn = r.maFunction ∧ t.mb.fn = .none ∧
      t.sfe.routes = r.routes ∧ t.trv.maskIgnition = r.selectsTravelLine ∧ t.trv.maskSpeed = r.selectsTravelLine ∧
      t.ts.pending.stateUrgent = true ∧ t.wf.volume = s.wf.volume ∧ t.pending = s.pending ∧
      t.sfe.next = some (max s.now e + 100) ∧ t.wf.next = some (max s.now e + 1000) ∧
      t.gust.windowEnd = some (max s.now e + 3000) ∧
      (r = .battery → t.cc.count.isSome = true ∧ t.cc.next = some (max s.now e + 100)) ∧
      (r ≠ .battery → t.cc = ChargeCounter.atReset) := by
  have run : exec (.strapReadEnd a b an shunt vbat) s =
      .next (((s.reach e).takeRole (addrOfBand n) r).enterCommissioning an shunt vbat).finish := by
    refine congrArg Host.Outcome.next ?_
    rw [if_pos reads, onExpiry_of due, strapOf_valid ha hb hr]
  have opens := commissioningUnits_opens an shunt vbat ((s.reach e).takeRole (addrOfBand n) r)
  obtain ⟨t, rfl, now, life, strap, closing, limit, records, ma, mb, routes, travelLine, urgent, volume, queue, samples,
    evaluation, gusts, cc⟩ := windowOpens_finish opens
  refine ⟨_, run, now, life, strap, addrOfBand_val (bandOf_lt ha), roleOfBand_code hr, closing, limit, records,
    ma.trans (Drive.takeRole_fn _ _), mb.trans (Drive.takeRole_fn _ _), routes, congrArg TravelLine.maskIgnition travelLine,
    congrArg TravelLine.maskSpeed travelLine, urgent, volume, queue, samples, evaluation, gusts, fun battery => ?_,
    fun other => ?_⟩
  · have counts := opens.battery (by subst battery; rfl)
    rw [← cc] at counts
    exact counts
  · refine cc.trans ((opens.other ?_).trans (if_neg other))
    show decide (some r = some Role.battery) = false
    exact decide_eq_false fun h => other (Option.some.inj h)

/-- STRAP_FAULT leaves the scheduler too: its one timer that a change of the life state may stop is not looked at. -/
theorem enterStrapFault_changes {e : Nat} (reads : s.life = .strapRead)
    (life : (s.reach e).enterStrapFault.finish.life = .strapFault) :
    Changes [.clock, .life, .node, .charge, .driveRecords, .drives] s (s.reach e).enterStrapFault.finish := by
  have c : Composes [.clock, .life, .node, .charge, .driveRecords, .drives, .scheduler] := by simp [Composes]
  have entry : Frame [.clock, .life, .node, .charge, .driveRecords, .drives, .scheduler] s (s.reach e).enterStrapFault := by
    intro b n
    cases b <;> simp at n
    case channels => exact same_channels rfl rfl
    all_goals simp [Same, State.enterStrapFault, State.answers, State.reach]
  obtain ⟨frame, handed⟩ := Changes.of_frame c (by simp) entry (iff_of_false nofun (by rw [reads]; nofun))
  refine ⟨fun b n => ?_, handed⟩
  by_cases scheduler : b = .scheduler
  · subst scheduler
    obtain ⟨hello, spacing, period, -⟩ := (finish_changes (s.reach e).enterStrapFault).1 .scheduler (by simp)
    exact ⟨hello, spacing, period, fun same => absurd (life.symm.trans (same.trans reads)) (by nofun)⟩
  · refine frame b fun m => ?_
    simp only [List.mem_cons, List.not_mem_nil, or_false, not_or] at m n
    tauto

theorem straps_fault {a b : Nat} {an : Analog} {shunt vbat : Int} {e : Nat} (reads : s.life = .strapRead)
    (due : s.nc.strapTimer = some e) (h : bandOf a = none ∨ bandOf b = none ∨ ∃ m, bandOf b = some m ∧ m % 2 = 1) :
    ∃ t, exec (.strapReadEnd a b an shunt vbat) s = .next t ∧ t.now = max s.now e ∧ t.life = .strapFault ∧
      t.nc.strap = .fault ∧ t.ownAddr = none ∧ t.role = none ∧ t.cc = ChargeCounter.atReset ∧
      t.ma = Drive.blank .none ∧ t.mb = Drive.blank .none ∧
      Changes [.clock, .life, .node, .charge, .driveRecords, .drives] s t := by
  have run : exec (.strapReadEnd a b an shunt vbat) s = .next (s.reach e).enterStrapFault.finish := by
    refine congrArg Host.Outcome.next ?_
    rw [if_pos reads, onExpiry_of due, strapOf_fault h]
  have node : (s.reach e).enterStrapFault.finish.nc = _ := (finish_changes (s.reach e).enterStrapFault).1 .node (by simp)
  have life : (s.reach e).enterStrapFault.finish.life = .strapFault := finish_awake (by nofun)
  have strap : (s.reach e).enterStrapFault.finish.nc.strap = .fault := by
    rw [node]
    rfl
  have blank (i : DriveId) : (s.reach e).enterStrapFault.finish.drive i = Drive.blank .none := by
    obtain ⟨slot, drive, empty⟩ := finish_drive (s := (s.reach e).enterStrapFault) i nofun nofun
    have was : (s.reach e).enterStrapFault.drive i = Drive.blank .none := by cases i <;> rfl
    rw [was] at drive empty
    rw [drive, empty rfl]
    rfl
  refine ⟨_, run, by rw [finish_now]; rfl, life, strap, ?_, ?_, (finish_changes (s.reach e).enterStrapFault).1 .charge (by simp),
    blank .ma, blank .mb, enterStrapFault_changes reads life⟩
  · unfold State.ownAddr
    rw [strap]
  · unfold State.role
    rw [strap]

/-- Settles O10, by what the two bands decide. -/
theorem strapsDecideTheNode : Obligations.StrapsDecideTheNode := fun _ _ _ _ _ _ _ reads due =>
  ⟨fun _ _ _ => straps_commission reads due, straps_fault reads due⟩

end

end Sys2Proof.Machine
end

section
/-! PROOFS. O35: inputs, the SPEED timer, samples and readings. -/

namespace Sys2Proof.Machine

/-! ### Wake causes with a WAKE_OUT (R180) -/

/-- A cause that asks for WAKE_OUT raises it: the node sleeps, or another cause has woken it at this instant. -/
def Wakeable (s : State) : Prop := s.life = .dormant ∨ (s.life = .run ∧ s.nc.quietWake = some s.now)

/-- The node has woken, and WAKE_OUT is pending. -/
def Awoken (s : State) : Prop := s.life = .run ∧ s.ts.pending.wakeOut = true

section
variable {s : State}

/-- In RUN a wake cause ends a pending store and joins the instant's wake. -/
theorem wakeCause_run (w : Bool) (r : s.life = .run) : ∃ y : State, s.wakeCause w = y.joinWake w ∧ y.life = .run ∧
    y.ts.pending = s.ts.pending ∧ y.nc = s.nc ∧ y.now = s.now := by
  unfold State.wakeCause
  rw [r]
  dsimp only
  split
  · exact ⟨s.clearStore, rfl, r, rfl, rfl, rfl⟩
  · exact ⟨s, rfl, r, rfl, rfl, rfl⟩

theorem wakeCause_raises (h : Wakeable s) : Awoken (s.wakeCause true) := by
  rcases h with d | ⟨r, q⟩
  · unfold State.wakeCause
    rw [d]
    refine ⟨State.wake_life _ _, ?_⟩
    unfold State.wake
    dsimp only
    rw [Bool.true_or, if_pos rfl]
    rfl
  · obtain ⟨y, e, yr, -, nc, now⟩ := wakeCause_run true r
    rw [e, State.joinWake, if_pos ⟨rfl, by rw [nc, now]; exact q⟩]
    exact ⟨yr, rfl⟩

theorem Awoken.wakeCause (h : Awoken s) : Awoken (s.wakeCause true) := by
  obtain ⟨y, e, yr, ts, -⟩ := wakeCause_run true h.1
  have out : y.ts.pending.wakeOut = true := by
    rw [ts]
    exact h.2
  rw [e]
  unfold State.joinWake
  split
  · exact ⟨yr, rfl⟩
  · exact ⟨yr, out⟩

/-- A further cause in a node that no cause of this instant has woken without a WAKE_OUT. -/
theorem wakeCause_quiet (r : s.life = .run) (q : s.nc.quietWake ≠ some s.now) : (s.wakeCause true).life = .run ∧
    (s.wakeCause true).nc = s.nc ∧ (s.wakeCause true).now = s.now ∧ (s.wakeCause true).ts.pending = s.ts.pending := by
  obtain ⟨y, e, yr, ts, nc, now⟩ := wakeCause_run true r
  rw [e, State.joinWake, if_neg (fun k => q (by rw [← nc, ← now]; exact k.2))]
  exact ⟨yr, nc, now, ts⟩

/-- An interlock event moves drives, and is a wake cause where it has started a retraction. -/
theorem interlockEvent_motion (s : State) : ∃ y, MotionAlone { s with interlock := s.interlockNow } y ∧
    (s.interlockEvent = y ∨ s.interlockEvent = y.wakeCause true) := by
  unfold State.interlockEvent
  split
  next h =>
    refine ⟨s, ?_, .inl rfl⟩
    unfold MotionAlone
    rw [h]
  next =>
    have k := motionKeeps_alone { s with interlock := s.interlockNow }
    have still : MotionAlone { s with interlock := s.interlockNow } { s with interlock := s.interlockNow } := rfl
    refine ⟨_, k.evaluateBothForced (k.stopUnsourced .mb (k.stopUnsourced .ma still)), ?_⟩
    dsimp only
    unfold wakeForForced
    split
    · exact .inr rfl
    · exact .inl rfl

theorem interlockEvent_wakeable (h : Wakeable s) : Wakeable s.interlockEvent ∨ Awoken s.interlockEvent := by
  obtain ⟨y, alone, e⟩ := interlockEvent_motion s
  have w : Wakeable y := by
    unfold Wakeable State.life at h ⊢
    rw [alone]
    exact h
  rcases e with e | e <;> rw [e]
  · exact .inl w
  · exact .inr (wakeCause_raises w)

theorem interlockEvent_quiet (r : s.life = .run) (q : s.nc.quietWake ≠ some s.now) : s.interlockEvent.life = .run ∧
    s.interlockEvent.nc = s.nc ∧ s.interlockEvent.now = s.now ∧
    s.interlockEvent.ts.pending = s.ts.pending := by
  obtain ⟨y, alone, e⟩ := interlockEvent_motion s
  have nc : y.nc = s.nc := by rw [alone]
  have now : y.now = s.now := by rw [alone]
  have pending : y.ts.pending = s.ts.pending := by rw [alone]
  have yr : y.life = .run := alone.life.trans r
  rcases e with e | e <;> rw [e]
  · exact ⟨yr, nc, now, pending⟩
  · obtain ⟨w1, w2, w3, w4⟩ := wakeCause_quiet yr (by rw [nc, now]; exact q)
    exact ⟨w1, w2.trans nc, w3.trans now, by rw [w4, pending]⟩

/-! ### The event of an own drive input (R98, R180) -/

/-- The input that has changed has made IGNITION or SPEED active. -/
def State.drivesNow (s before : State) : Prop :=
  (s.ignitionActive = true ∧ before.ignitionActive = false) ∨ (s.speedActive = true ∧ before.speedActive = false)

theorem frame_ownDriveEvent (s before : State) : Frame [.interlock, .drives] s (s.ownDriveEvent before) := by
  have c : Composes [.interlock, .drives] := by simp [Composes]
  unfold State.ownDriveEvent
  dsimp only
  split
  · exact (frame_interlockEvent s).trans c ((frame_wakeCause true _).widen (by simp))
  · exact frame_interlockEvent s

theorem ownDriveEvent_wakes {before : State} (h : Wakeable s) (d : s.drivesNow before) : Awoken (s.ownDriveEvent before) := by
  have sfe : s.interlockEvent.sfe = s.sfe := frame_interlockEvent s .sensors (by simp)
  have ignition : s.interlockEvent.ignitionActive = s.ignitionActive := by
    unfold State.ignitionActive State.switchActive State.entryOf
    rw [sfe]
  have speed : s.interlockEvent.speedActive = s.speedActive := by
    unfold State.speedActive State.routed State.entryOf
    rw [sfe]
  unfold State.ownDriveEvent
  dsimp only
  rw [ignition, speed, if_pos (by rcases d with ⟨a, b⟩ | ⟨a, b⟩ <;> simp [a, b])]
  rcases interlockEvent_wakeable h with w | w
  · exact wakeCause_raises w
  · exact w.wakeCause

theorem ownDriveEvent_quiet {before : State} (r : s.life = .run) (q : s.nc.quietWake ≠ some s.now) :
    (s.ownDriveEvent before).life = .run ∧ (s.ownDriveEvent before).ts.pending = s.ts.pending := by
  obtain ⟨i1, i2, i3, i4⟩ := interlockEvent_quiet r q
  unfold State.ownDriveEvent
  dsimp only
  split
  · obtain ⟨w1, -, -, w4⟩ := wakeCause_quiet i1 (by rw [i2, i3]; exact q)
    exact ⟨w1, by rw [w4, i4]⟩
  · exact ⟨i1, i4⟩

/-- What an own drive input brings, and what follows from it, on a state `u` whose sensors have changed. -/
theorem ownDriveEvent_finish {u : State} {f : SensorFrontEnd} (active : s.life.active = true) (e : u = { s with sfe := f }) :
    (u.ownDriveEvent s).finish.sfe = f ∧
    (u.ownDriveEvent s).finish.interlock = (u.ownDriveEvent s).finish.interlockNow ∧
    (u.ownDriveEvent s).finish.ignitionActive = u.ignitionActive ∧
    (u.ownDriveEvent s).finish.speedActive = u.speedActive ∧
    (u.ownDrive = true → (u.ownDriveEvent s).finish.interlock.driveActive = true ∧
      (u.ownDriveEvent s).finish.nc.flags.drive = true) ∧
    (u.drivesNow s → s.life = .dormant ∨ (s.life = .run ∧ s.nc.quietWake = some s.now) →
      (u.ownDriveEvent s).finish.life = .run ∧ (u.ownDriveEvent s).finish.ts.pending.wakeOut = true) ∧
    (s.life = .run → s.nc.quietWake ≠ some s.now →
      (u.ownDriveEvent s).finish.ts.pending.wakeOut = s.ts.pending.wakeOut) ∧
    Changes [.sensors, .interlock, .drives] s (u.ownDriveEvent s).finish := by
  have frame := frame_ownDriveEvent u s
  have sfe : (u.ownDriveEvent s).finish.sfe = u.sfe := (finish_sfe _).trans (frame .sensors (by simp))
  have now : (u.ownDriveEvent s).finish.interlockNow = u.interlockNow := by
    rw [finish_interlockNow]
    unfold State.interlockNow State.ignitionActive State.speedActive State.peerFlag State.routed State.switchActive State.entryOf
    rw [show (u.ownDriveEvent s).pt = u.pt from frame .peers (by simp),
      show (u.ownDriveEvent s).sfe = u.sfe from frame .sensors (by simp),
      show (u.ownDriveEvent s).gust = u.gust from frame .gust (by simp),
      show (u.ownDriveEvent s).trv = u.trv from frame .travelLine (by simp)]
  have view : (u.ownDriveEvent s).finish.interlock = u.interlockNow := by
    rw [finish_interlock]
    obtain ⟨current, -⟩ := interlockEvent_current u
    unfold State.ownDriveEvent
    dsimp only
    split
    · exact (frame_wakeCause true u.interlockEvent .interlock (by simp)).trans current
    · exact current
  have ignition : (u.ownDriveEvent s).finish.ignitionActive = u.ignitionActive := by
    unfold State.ignitionActive State.switchActive State.entryOf
    rw [sfe]
  have speed : (u.ownDriveEvent s).finish.speedActive = u.speedActive := by
    unfold State.speedActive State.routed State.entryOf
    rw [sfe]
  have runs : (u.ownDriveEvent s).life.active = true := active_of_frame frame (by simp) (by rw [e]; exact active)
  subst e
  refine ⟨sfe, view.trans now.symm, ignition, speed, fun d => ⟨?_, ?_⟩, fun d w => ?_, fun r q => ?_,
    Changes.after (by simp [Composes]) (by simp)
      (((frame_sensors s f).widen (by simp)).trans (by simp [Composes]) (frame.widen (by simp))) (by simp)⟩
  · rw [view]
    unfold State.interlockNow
    unfold State.ownDrive at d
    rcases Bool.or_eq_true_iff.1 d with k | k <;> simp [k]
  · rw [flags_of_active runs]
    show State.ownDrive _ = true
    unfold State.ownDrive
    rw [ignition, speed]
    exact d
  · obtain ⟨life, out⟩ := ownDriveEvent_wakes (s := { s with sfe := f }) w d
    have awake : (({ s with sfe := f } : State).ownDriveEvent s).life ≠ .dormant := by rw [life]; nofun
    exact ⟨(finish_awake awake).trans life, (finish_wakeOut awake).1.trans out⟩
  · obtain ⟨life, pending⟩ := ownDriveEvent_quiet (s := { s with sfe := f }) (before := s) r q
    have awake : (({ s with sfe := f } : State).ownDriveEvent s).life ≠ .dormant := by rw [life]; nofun
    rw [(finish_wakeOut awake).1, pending]

/-! ### Switch inputs and SPEED (R98, R185) -/

theorem inputChange_reaches (active : s.life.active = true) (i : Fin 4) (b : Bool) (n : s.sfe.inputs[i] ≠ b) :
    ∃ t, exec (.debouncedInputChange i b) s = .next t ∧
      t.sfe = { s.sfe with inputs := s.sfe.inputs.set i.val b i.isLt } ∧ t.interlock = t.interlockNow ∧
      (t.ignitionActive = true → t.interlock.driveActive = true ∧ t.nc.flags.drive = true) ∧
      (t.ignitionActive = true → s.ignitionActive = false →
        s.life = .dormant ∨ (s.life = .run ∧ s.nc.quietWake = some s.now) →
        t.life = .run ∧ t.ts.pending.wakeOut = true) ∧
      (s.life = .run → s.nc.quietWake ≠ some s.now → t.ts.pending.wakeOut = s.ts.pending.wakeOut) ∧
      Changes [.sensors, .interlock, .drives] s t := by
  obtain ⟨sfe, view, ignition, -, drives, wakes, quiet, changes⟩ := ownDriveEvent_finish active
    (rfl : ({ s with sfe := { s.sfe with inputs := s.sfe.inputs.set i.val b i.isLt } } : State) = _)
  refine ⟨_, congrArg Host.Outcome.next (if_pos ⟨active, n⟩), sfe, view, fun on => drives ?_, fun on off => wakes ?_, quiet,
    changes⟩
  · unfold State.ownDrive
    rw [← ignition, on, Bool.true_or]
  · exact .inl ⟨ignition.symm.trans on, off⟩

theorem speedPulse_reaches (active : s.life.active = true) (routed : s.routed .speed = true) :
    ∃ t, exec .speedPulse s = .next t ∧ t.sfe = { s.sfe with speedTimer := some (s.now + 2000) } ∧
      t.interlock = t.interlockNow ∧ t.interlock.driveActive = true ∧ t.nc.flags.drive = true ∧
      (s.sfe.speedTimer = none → s.life = .dormant ∨ (s.life = .run ∧ s.nc.quietWake = some s.now) →
        t.life = .run ∧ t.ts.pending.wakeOut = true) ∧
      (s.life = .run → s.nc.quietWake ≠ some s.now → t.ts.pending.wakeOut = s.ts.pending.wakeOut) ∧
      Changes [.sensors, .interlock, .drives] s t := by
  have speed : ({ s with sfe := { s.sfe with speedTimer := some (s.now + 2000) } } : State).speedActive = true := by
    unfold State.speedActive
    exact Bool.and_eq_true_iff.2 ⟨routed, rfl⟩
  obtain ⟨sfe, view, -, -, drives, wakes, quiet, changes⟩ := ownDriveEvent_finish active
    (rfl : ({ s with sfe := { s.sfe with speedTimer := some (s.now + 2000) } } : State) = _)
  obtain ⟨active_, flag⟩ := drives (by unfold State.ownDrive; rw [speed, Bool.or_true])
  refine ⟨_, congrArg Host.Outcome.next (if_pos ⟨active, routed⟩), sfe, view, active_, flag, fun still => wakes ?_, quiet,
    changes⟩
  refine .inr ⟨speed, ?_⟩
  unfold State.speedActive
  rw [still]
  exact Bool.and_false _

theorem speedTimeout_reaches {e : Nat} (due : s.sfe.speedTimer = some e) :
    ∃ t, exec .speedTimeout s = .next t ∧ t.now = max s.now e ∧ t.sfe = { s.sfe with speedTimer := none } ∧
      t.interlock = t.interlockNow ∧ t.speedActive = false ∧ Changes [.clock, .sensors, .interlock, .drives] s t := by
  have c : Composes [.clock, .sensors, .interlock, .drives] := by simp [Composes]
  have run : exec .speedTimeout s =
      .next ({ s.reach e with sfe := { s.sfe with speedTimer := none } } : State).interlockEvent.finish :=
    congrArg Host.Outcome.next (onExpiry_of due)
  have frame := frame_interlockEvent { s.reach e with sfe := { s.sfe with speedTimer := none } }
  obtain ⟨view, current⟩ := interlockEvent_finish { s.reach e with sfe := { s.sfe with speedTimer := none } }
  have sfe : ({ s.reach e with sfe := { s.sfe with speedTimer := none } } : State).interlockEvent.finish.sfe =
      { s.sfe with speedTimer := none } := (finish_sfe _).trans (frame .sensors (by simp))
  refine ⟨_, run, ?_, sfe, view.trans current.symm, ?_, interlock_changes c (by simp) (by simp)
    (((frame_reach s e).widen (by simp)).seq c (frame_sensors (s.reach e) { s.sfe with speedTimer := none }) (by simp)) (by simp)⟩
  · rw [finish_now]
    exact frame .clock (by simp)
  · unfold State.speedActive
    rw [sfe]
    exact Bool.and_false _

/-! ### Samples (R183, R184) -/

theorem temperatureSample_broken {r : Nat} (h : r < 80000 ∨ 1200000000 < r) : temperatureSample r = none :=
  if_pos h.symm

theorem levelSample_broken {r : Nat} (h : r < 1000 ∨ 300000 < r) : levelSample r = none := if_pos h.symm

theorem levelSample_valid {r : Nat} (h1 : 1000 ≤ r) (h2 : r ≤ 300000) : levelSample r = some (min 250 (r / 1000) : Int) := by
  unfold levelSample
  rw [if_neg (by omega)]
  norm_cast

/-- Each temperature filter takes the sample of its own input. -/
theorem sample_temps (a : Analog) (f : SensorFrontEnd) (k : Fin 4) : (f.sample a).temps[k] =
    filterStep f.temps[k] (temperatureSample ([a.t1, a.t2, a.t3, a.t4][k])) := by
  match k with
  | 0 => rfl
  | 1 => rfl
  | 2 => rfl
  | 3 => rfl

theorem sample_levels (a : Analog) (f : SensorFrontEnd) (k : Fin 2) : (f.sample a).levels[k] =
    filterStep f.levels[k] (levelSample ([a.l1, a.l2][k])) := by
  match k with
  | 0 => rfl
  | 1 => rfl

theorem sfeSample_samples (active : s.life.active = true) (a : Analog) (e : Nat) (due : s.sfe.next = some e) :
    ∃ t, exec (.sfeSample a) s = .next t ∧
      t = { s with
        now := max s.now e
        sfe := { s.sfe with temps := t.sfe.temps, levels := t.sfe.levels, next := some (max s.now e + 100) } } ∧
      (∀ (k : Fin 4) (r : Nat), r = [a.t1, a.t2, a.t3, a.t4][k] →
        (r < 80000 ∨ 1200000000 < r → t.sfe.temps[k] = []) ∧
        (80000 ≤ r → r ≤ 1200000000 →
          t.sfe.temps[k] = (if s.sfe.temps[k].length < 10 then s.sfe.temps[k] else s.sfe.temps[k].drop 1) ++
            [max (-400) (min 850 ⌊10 * (1 / (1 / 298.15 + Real.log (r / 10 ^ 7) / 3950) - 273.15 : ℝ)⌋)])) ∧
      ∀ (k : Fin 2) (r : Nat), r = [a.l1, a.l2][k] →
        (r < 1000 ∨ 300000 < r → t.sfe.levels[k] = []) ∧
        (1000 ≤ r → r ≤ 300000 →
          t.sfe.levels[k] = (if s.sfe.levels[k].length < 10 then s.sfe.levels[k] else s.sfe.levels[k].drop 1) ++
            [(min 250 (r / 1000) : Int)]) := by
  have run : exec (.sfeSample a) s = .next ((s.reach e).takeSample a) := by
    refine congrArg Host.Outcome.next ?_
    rw [if_pos active]
    exact onExpiry_of due
  refine ⟨_, run, rfl, fun k r h => ?_, fun k r h => ?_⟩
  · have temps : ((s.reach e).takeSample a).sfe.temps[k] = _ := sample_temps a s.sfe k
    rw [← h] at temps
    refine ⟨fun broken => ?_, fun h1 h2 => ?_⟩
    · rw [temperatureSample_broken broken] at temps
      exact temps
    · rw [temperatureSample_eq r h1 h2] at temps
      exact temps
  · have levels : ((s.reach e).takeSample a).sfe.levels[k] = _ := sample_levels a s.sfe k
    rw [← h] at levels
    refine ⟨fun broken => ?_, fun h1 h2 => ?_⟩
    · rw [levelSample_broken broken] at levels
      exact levels
    · rw [levelSample_valid h1 h2] at levels
      exact levels

/-! ### Readings (R174, R184) -/

/-- The entry of a function is the lowest of its routes. -/
theorem entryOf_lowest {fn : RouteFn} {j : Fin 12} (h : s.sfe.routes[j] = fn) (low : ∀ i < j, s.sfe.routes[i] ≠ fn) :
    s.entryOf fn = some j.val := by
  unfold State.entryOf
  refine List.findIdx?_eq_some_iff_getElem.2 ⟨by simp, ?_, fun i less => ?_⟩
  · simpa using h
  · simpa using low ⟨i, less.trans j.isLt⟩ less

theorem entryOf_none {fn : RouteFn} (h : ∀ i : Fin 12, s.sfe.routes[i] ≠ fn) : s.entryOf fn = none := by
  unfold State.entryOf
  refine List.findIdx?_eq_none_iff.2 fun x m => ?_
  obtain ⟨i, l, e⟩ := List.mem_iff_getElem.1 m
  have k := h ⟨i, by simpa using l⟩
  simp at e
  simpa [← e] using k

theorem filterReading_of (xs : List Int) :
    (xs = [] → filterReading xs = none) ∧ (xs ≠ [] → filterReading xs = some (xs.sum / xs.length)) := by
  cases xs with
  | nil => exact ⟨fun _ => rfl, fun n => absurd rfl n⟩
  | cons x xs => exact ⟨nofun, fun _ => rfl⟩

theorem temperature_reading {fn : RouteFn} {n : Nat} {k : Fin 4} (h : s.entryOf fn = some n) (e : n = 6 + k.val) :
    s.temperature fn = filterReading s.sfe.temps[k] := by
  subst e
  unfold State.temperature
  rw [h]
  simp

theorem level_reading {fn : RouteFn} {n : Nat} {k : Fin 2} (h : s.entryOf fn = some n) (e : n = 10 + k.val) :
    s.level fn = filterReading s.sfe.levels[k] := by
  subst e
  unfold State.level
  rw [h]
  simp [getElem?_pos s.sfe.levels k.val k.isLt]

/-- Settles O35: inputs by the event they bring, samples by their filters, readings by the entry that serves them. -/
theorem inputsReachTheView : Obligations.InputsReachTheView := by
  refine fun s active => ⟨inputChange_reaches active, speedPulse_reaches active, fun e => speedTimeout_reaches,
    sfeSample_samples active, fun fn j xs serves low => ⟨fun k at_ e => ?_, fun k at_ e => ?_⟩, fun fn h => ?_⟩
  · rw [temperature_reading (entryOf_lowest serves low) at_, e]
    exact filterReading_of _
  · rw [level_reading (entryOf_lowest serves low) at_, e]
    exact filterReading_of _
  · unfold State.temperature State.level
    rw [entryOf_none h]
    exact ⟨rfl, rfl⟩

end

end Sys2Proof.Machine
end

section
/-! SUPPORT. One drive through the grants of what follows from an event: it waits on, or has been granted. -/

namespace Sys2Proof.Machine

variable {s t : State} {i : DriveId}

/-- What the grants look at: both drives with their places in the list, the view and the clock. -/
def GrantsAlike (s t : State) : Prop :=
  (∀ j, t.drive j = s.drive j ∧ t.listed j = s.listed j) ∧ t.interlock = s.interlock ∧ t.now = s.now

theorem GrantsAlike.trans {u : State} (h : GrantsAlike s t) (g : GrantsAlike t u) : GrantsAlike s u :=
  ⟨fun j => ⟨(g.1 j).1.trans (h.1 j).1, (g.1 j).2.trans (h.1 j).2⟩, g.2.1.trans h.2.1, g.2.2.trans h.2.2⟩

/-- `P` looks at nothing else, and is kept by the grants. -/
structure GrantKeeps (P : State → Prop) : Prop where
  alike : ∀ s t, GrantsAlike s t → P s → P t
  grant : ∀ s j, s.listed j = true → P s → P (s.grant j)

theorem grantsAlike_syncFlags (s : State) : GrantsAlike s s.syncFlags := by
  unfold State.syncFlags
  split
  · exact ⟨fun _ => ⟨rfl, rfl⟩, rfl, rfl⟩
  · exact ⟨fun j => ⟨by cases j <;> rfl, rfl⟩, rfl, rfl⟩

theorem grantsAlike_channelsFollow (s : State) : GrantsAlike s s.channelsFollow := by
  have reacts := (units_heatingReacts s.evaluateChannels).rest
  unfold State.channelsFollow
  rw [reacts]
  exact ⟨fun j => ⟨by cases j <;> rfl, rfl⟩, rfl, rfl⟩

theorem grantsAlike_syncLocks (s : State) : GrantsAlike s s.syncLocks := ⟨fun j => ⟨by cases j <;> rfl, rfl⟩, rfl, rfl⟩

theorem grantsAlike_budget (s : State) : GrantsAlike s { s with lb := s.budget } := ⟨fun j => ⟨by cases j <;> rfl, rfl⟩, rfl, rfl⟩

namespace GrantKeeps
variable {P : State → Prop} (k : GrantKeeps P)
include k

theorem grantListed (j : DriveId) (h : P s) : P (s.grantListed j) := by
  unfold State.grantListed
  split
  next listed => exact k.grant s j listed h
  · exact h

theorem giveGrants (h : P s) : P s.giveGrants := by
  unfold State.giveGrants
  split
  · exact k.grantListed .mb (k.grantListed .ma h)
  · exact h

theorem follow (h : P s) : P s.follow := by
  have locks := k.alike _ _ (grantsAlike_syncLocks s) h
  unfold State.follow
  dsimp only
  split
  · unfold State.recompute
    exact k.alike _ _ (grantsAlike_syncFlags _) (k.giveGrants (k.alike _ _ (grantsAlike_channelsFollow _)
      (k.alike _ _ (grantsAlike_budget _) locks)))
  · exact k.alike _ _ (grantsAlike_channelsFollow _) locks

theorem followAll (n : Nat) (h : P s) : P (s.followAll n) := by
  induction n generalizing s with
  | zero => exact h
  | succ n ih =>
    unfold State.followAll
    dsimp only
    split
    · exact ih (k.follow h)
    · exact k.follow h

theorem settle (h : P s) : P s.settle.syncFlags := by
  refine k.alike _ _ (grantsAlike_syncFlags _) ?_
  unfold State.settle
  split
  · exact k.followAll _ h
  · exact h

end GrantKeeps

/-! ### Up to the grants -/

theorem placeKept_lb (s : State) (j : DriveId) : (s.placeKept j).lb = s.lb := by
  have set (u : State) (d : Drive) : (u.setDrive j d).lb = u.lb := by cases j <;> rfl
  have placed (u : State) (a : Answer) : (u.place a).lb = u.lb := by
    unfold State.place
    split <;> rfl
  unfold State.placeKept
  split
  · split
    · rw [placed]
      exact set s _
    · rfl
  all_goals rfl

/-- In a node that is awake, what comes before the grants touches at most the slot of a drive. -/
theorem finish_grants (l : s.life ≠ .dormant) : ∃ u : State, s.finish = u.settle.syncFlags ∧
    (∃ sl, u.drive i = { s.drive i with slot := sl }) ∧ u.listed i = s.listed i ∧ u.interlock = s.interlock ∧
    u.now = s.now := by
  have queue : (∃ sl, s.afterQueue.drive i = { s.drive i with slot := sl }) ∧ s.afterQueue.listed i = s.listed i ∧
      s.afterQueue.interlock = s.interlock ∧ s.afterQueue.now = s.now := by
    have frame := frame_afterQueue s
    obtain ⟨sl, e, -⟩ := placeAllKept_drive i s
    have lb : s.placeAllKept.lb = s.lb := by
      unfold State.placeAllKept
      split
      · split <;> rw [placeKept_lb, placeKept_lb]
      · rw [placeKept_lb, placeKept_lb]
    obtain ⟨od, q⟩ := takeSettings_od s.placeAllKept
    refine ⟨⟨sl, ?_⟩, ?_, frame .interlock (by simp), frame .clock (by simp)⟩
    · rw [← e]
      show ({ s.placeAllKept.takeSettings with od := _ } : State).drive i = _
      rw [q]
      cases i <;> rfl
    · show (s.placeAllKept.takeSettings.lb.grants.any _) = _
      rw [q]
      show (s.placeAllKept.lb.grants.any _) = _
      rw [lb]
      rfl
  refine ⟨s.afterQueue.headWakes, rfl, ?_⟩
  unfold State.headWakes
  split
  · rcases wakeCause_awake (s := s.afterQueue) (by rw [afterQueue_life]; exact l) with e | ⟨-, e⟩ <;> rw [e]
    · exact queue
    · cases i <;> exact queue
  · exact queue

/-! ### A drive that no grant can reach -/

/-- The drive is `w` but for its slot, and not in the grant list. -/
def Ungranted (i : DriveId) (w : Drive) (s : State) : Prop :=
  s.listed i = false ∧ ∃ sl, s.drive i = { w with slot := sl }

theorem ungranted_grantKeeps (i : DriveId) (w : Drive) : GrantKeeps (Ungranted i w) where
  alike s t a h := by
    unfold Ungranted
    rw [(a.1 i).1, (a.1 i).2]
    exact h
  grant s j listed h := by
    have n : i ≠ j := fun e => by
      subst e
      rw [h.1] at listed
      cases listed
    unfold Ungranted
    rw [(Apart.grant s j i n).1, (Apart.grant s j i n).2]
    exact h

theorem finish_ungranted (l : s.life ≠ .dormant) (n : s.listed i = false) : ∃ sl, s.finish.drive i = { s.drive i with slot := sl } := by
  obtain ⟨u, e, drive, listed, -⟩ := finish_grants (s := s) (i := i) l
  rw [e]
  exact ((ungranted_grantKeeps i (s.drive i)).settle ⟨listed.trans n, drive⟩).2

/-! ### A drive that waits for its grant -/

/-- The wait of `w` goes on, or its travel has started at `now`. -/
def Awaited (i : DriveId) (v : Interlock) (now : Nat) (w : Drive) (dir : Dir) (s : State) : Prop :=
  s.interlock = v ∧ s.now = now ∧
    ((∃ sl, s.drive i = { w with slot := sl }) ∨ Ungranted i (w.travel now dir) s)

theorem awaited_grantKeeps {v : Interlock} {now : Nat} {w : Drive} {dir : Dir} (wait : w.state = .waitGrant)
    (d : w.direction = some dir) (passes : dir = .extend → extendRefusal w.fn v = none) :
    GrantKeeps (Awaited i v now w dir) where
  alike s t a h := by
    unfold Awaited Ungranted
    rw [(a.1 i).1, (a.1 i).2, a.2.1, a.2.2]
    exact h
  grant s j listed h := by
    obtain ⟨view, clock, h⟩ := h
    have alone : MotionAlone s (s.grant j) := (motionKeeps_alone s).grant j rfl
    refine ⟨alone.interlock.trans view, by rw [alone]; exact clock, ?_⟩
    rcases h with ⟨sl, e⟩ | h
    · by_cases n : i = j
      · subst n
        obtain ⟨sl', g⟩ := grant_starts (s := s) (i := i) (dir := dir) (by rw [e]; exact wait) (by rw [e]; exact d)
          (by rw [e, view]; exact passes)
        refine .inr ⟨grant_unlists s i, sl', ?_⟩
        rw [g, e, clock]
        rfl
      · exact .inl ⟨sl, (Apart.grant s j i n).1.trans e⟩
    · exact .inr ((ungranted_grantKeeps i (w.travel now dir)).grant s j listed h)

/-- A drive in WAIT_GRANT that its view does not refuse waits on, or has started its travel. -/
theorem finish_awaited {dir : Dir} (l : s.life ≠ .dormant) (wait : (s.drive i).state = .waitGrant)
    (d : (s.drive i).direction = some dir) (passes : dir = .extend → extendRefusal (s.drive i).fn s.interlock = none) :
    ∃ sl, s.finish.drive i = { s.drive i with slot := sl } ∨
      s.finish.drive i = { (s.drive i).travel s.now dir with slot := sl } := by
  obtain ⟨u, e, drive, -, view, clock⟩ := finish_grants (s := s) (i := i) l
  rw [e]
  obtain ⟨-, -, h⟩ := (awaited_grantKeeps (i := i) (now := s.now) wait d passes).settle ⟨view, clock, .inl drive⟩
  rcases h with ⟨sl, h⟩ | ⟨-, sl, h⟩
  · exact ⟨sl, .inl h⟩
  · exact ⟨sl, .inr h⟩

end Sys2Proof.Machine
end

section
/-! PROOFS. O54: motion requests, and what they make of each drive of the function. -/

namespace Sys2Proof.Machine

variable {s t u : State} {i : DriveId}

/-! ### What a request to one drive leaves (R91) -/

/-- One drive, the grant list and the answers; the other drive with its place in the list is kept. -/
def Alters (i : DriveId) (s t : State) : Prop := Frame [.drives, .grants] s t ∧ Apart i s t

namespace Alters

theorem refl (i : DriveId) (s : State) : Alters i s s := ⟨Frame.refl _ _, .refl i s⟩

theorem trans (h : Alters i s t) (g : Alters i t u) : Alters i s u :=
  ⟨h.1.trans (by simp [Composes]) g.1, h.2.trans g.2⟩

theorem reply (i : DriveId) (s : State) (r : Option Requester) (c : AnswerCode) : Alters i s (s.reply r c) :=
  ⟨(frame_reply s r c).widen (by simp), .reply s i r c⟩

theorem resolve (i : DriveId) (s : State) (c : AnswerCode) : Alters i s (s.resolve i c) :=
  ⟨(frame_resolve s i c).widen (by simp), .resolve s i c⟩

theorem onDrive (s : State) (f : Drive → Drive) (r : (f (s.drive i)).record = (s.drive i).record) :
    Alters i s (s.onDrive i f) :=
  ⟨(moved_setDrive s i _ r).1.widen (by simp), .onDrive s i f⟩

theorem evaluateForced (i : DriveId) (s : State) : Alters i s (s.evaluateForced i) :=
  ⟨(moved_evaluateForced s i).1.widen (by simp), .evaluateForced s i⟩

theorem comeToRest (i : DriveId) (s : State) (st : DriveState) : Alters i s (s.comeToRest i st) :=
  ⟨(moved_comeToRest s i st).1.widen (by simp), .comeToRest s i st⟩

theorem returnToOrigin (i : DriveId) (s : State) : Alters i s (s.returnToOrigin i) :=
  ⟨(moved_returnToOrigin s i).1.widen (by simp), .returnToOrigin s i⟩

end Alters

theorem frame_grants (s : State) (gs : List Grantee) : Frame [.grants] s { s with lb := { s.lb with grants := gs } } := by
  intro b n
  cases b <;> simp at n
  case channels => exact same_channels rfl rfl
  all_goals simp [Same, Drive.Stands.refl, State.life, State.answers, State.drive]

/-- The drive that enters the wait, before its forced causes are evaluated. -/
def Drive.waits (now : Nat) (origin : DriveState) (dir : Dir) (r : Option Requester) (d : Drive) : Drive :=
  { d with
    state := .waitGrant, origin := some origin, direction := some dir,
    homing := dir = .retract && (origin = .unknown || origin = .jammed),
    grantTimer := some (now + 5000), slot := match r with | some r => .waiting r | none => d.slot }

/-- The drive with its place in the grant list, before its forced causes are evaluated. -/
def State.queued (i : DriveId) (origin : DriveState) (dir : Dir) (r : Option Requester) (s : State) : State :=
  ({ s.onDrive i (Drive.waits s.now origin dir r) with
    lb := { s.lb with grants := s.lb.grants.filter (fun g : Grantee => g.drive ≠ i) ++ [⟨i, (s.drive i).nominal⟩] } } : State).trigger

theorem enterWait_eq (s : State) (i : DriveId) (origin : DriveState) (dir : Dir) (r : Option Requester) :
    s.enterWait i origin dir r = (s.queued i origin dir r).evaluateForced i := by
  cases i <;> rfl

theorem Alters.queued (s : State) (i : DriveId) (origin : DriveState) (dir : Dir) (r : Option Requester) :
    Alters i s (s.queued i origin dir r) := by
  have set : Alters i s (s.onDrive i (Drive.waits s.now origin dir r)) := Alters.onDrive s _ rfl
  have lb : (s.onDrive i (Drive.waits s.now origin dir r)).lb = s.lb := by cases i <;> rfl
  refine set.trans ⟨?_, fun j n => ⟨by cases j <;> rfl, ?_⟩⟩
  · have frame := frame_grants (s.onDrive i (Drive.waits s.now origin dir r))
      (s.lb.grants.filter (fun g : Grantee => g.drive ≠ i) ++ [⟨i, (s.drive i).nominal⟩])
    rw [lb] at frame
    exact (frame.widen (by simp)).trans (by simp [Composes]) ((frame_trigger _).widen (by simp))
  · show (s.lb.grants.filter (fun g : Grantee => g.drive ≠ i) ++ [(⟨i, (s.drive i).nominal⟩ : Grantee)]).any (·.drive = j) =
      (s.onDrive i (Drive.waits s.now origin dir r)).lb.grants.any (·.drive = j)
    rw [lb, List.any_append, Apart.listed_filter n, List.any_cons, decide_eq_false (fun e => n e.symm)]
    simp

namespace Alters

theorem enterWait (s : State) (i : DriveId) (origin : DriveState) (dir : Dir) (r : Option Requester) :
    Alters i s (s.enterWait i origin dir r) := by
  rw [enterWait_eq]
  exact (Alters.queued s i origin dir r).trans (.evaluateForced i _)

theorem redirectWait (s : State) (i : DriveId) (dir : Dir) (r : Option Requester) :
    Alters i s (s.redirectWait i dir r) :=
  (Alters.resolve i s .cancelled).trans (.enterWait _ i _ dir r)

theorem reverse (s : State) (i : DriveId) (now : Nat) (dir : Dir) : Alters i s (s.onDrive i (Drive.reverse now dir)) := by
  refine onDrive s _ ?_
  unfold Drive.reverse
  split <;> rfl

theorem requestExtend (s : State) (i : DriveId) (r : Option Requester) : Alters i s (s.requestExtend i r) := by
  unfold State.requestExtend
  dsimp only
  split
  case h_1 | h_2 =>
    split
    · exact .reply i s r _
    · exact .enterWait s i _ _ r
  case h_3 | h_4 | h_5 => exact .reply i s r _
  case h_6 =>
    split
    · exact .reply i s r _
    · split
      case h_4 => exact .redirectWait s i _ r
      all_goals exact .reply i s r _
  all_goals
    split
    · exact .reply i s r _
    · split
      · exact .reply i s r _
      · split
        · exact .reply i s r _
        · split
          · exact .reply i s r _
          · exact (reverse s i _ _).trans (.reply i _ r _)

theorem requestRetract (s : State) (i : DriveId) (r : Option Requester) : Alters i s (s.requestRetract i r) := by
  unfold State.requestRetract
  dsimp only
  split
  case h_1 => exact .reply i s r _
  case h_6 =>
    split
    · exact .reply i s r _
    · exact .redirectWait s i _ r
  case h_7 | h_8 | h_9 =>
    split
    · exact .reply i s r _
    · exact (reverse s i _ _).trans (.reply i _ r _)
  all_goals exact .enterWait s i _ _ r

theorem requestStop (s : State) (i : DriveId) (r : Option Requester) : Alters i s (s.requestStop i r) := by
  unfold State.requestStop
  dsimp only
  split
  case h_6 => exact ((Alters.reply i s r .done).trans (.resolve i _ .cancelled)).trans (.returnToOrigin i _)
  case h_7 | h_8 =>
    split
    · exact .reply i s r _
    · exact (Alters.reply i s r .done).trans (.comeToRest i _ _)
  case h_9 =>
    split
    · exact .reply i s r _
    · exact (Alters.onDrive s _ rfl).trans (.reply i _ r _)
  all_goals exact .reply i s r _

theorem requestMotion (s : State) (act : MotionAction) (i : DriveId) (r : Option Requester) :
    Alters i s (s.requestMotion act i r) := by
  cases act with
  | extend => exact requestExtend s i r
  | retract => exact requestRetract s i r
  | stop => exact requestStop s i r

end Alters

/-! ### The drives of the function (R91, R144) -/

theorem frame_requestMotions (s : State) (f : DriveFn) (act : MotionAction) (r : Option Requester) :
    Frame [.drives, .grants] s (s.requestMotions f act r) := by
  unfold State.requestMotions
  dsimp only
  split
  · split
    · exact (Alters.requestMotion s act .ma r).1.trans (by simp [Composes]) (Alters.requestMotion _ act .mb none).1
    · exact (Alters.requestMotion s act .ma r).1
  · split
    · exact (Alters.requestMotion s act .mb r).1
    · exact Frame.refl _ _

/-- A drive of another function is not reached. -/
theorem requestMotions_other {f : DriveFn} (act : MotionAction) (r : Option Requester) (n : (s.drive i).fn ≠ f) :
    (s.requestMotions f act r).drive i = s.drive i := by
  unfold State.requestMotions
  dsimp only
  cases i with
  | ma =>
    rw [if_neg (show ¬ s.ma.fn = f from n)]
    split
    · exact ((Alters.requestMotion s act .mb r).2 .ma nofun).1
    · rfl
  | mb =>
    rw [if_neg (show ¬ s.mb.fn = f from n), if_neg (show ¬ s.mb.fn = f from n)]
    split
    · exact ((Alters.requestMotion s act .ma r).2 .mb nofun).1
    · rfl

/-- The state in which a request comes to drive `i`, and the requester it comes from: the first drive answers. -/
structure Begins (s v : State) (i lead : DriveId) (r q : Option Requester) : Prop where
  drive : v.drive i = s.drive i
  interlock : v.interlock = s.interlock
  now : v.now = s.now
  life : v.life = s.life
  first : i = lead → q = r ∧ v = s

/-- A drive of the function is reached once, and nothing that comes after it touches it. -/
theorem requestMotions_reach {f : DriveFn} {act : MotionAction} {r : Option Requester} {lead : DriveId}
    (o : s.life.operating = true) (h : lead = if s.ma.fn = f then .ma else .mb) (n : (s.drive i).fn = f) : ∃ v q, Begins s v i lead r q ∧
      (s.requestMotions f act r).drive i = (v.requestMotion act i q).drive i ∧
      (s.requestMotions f act r).listed i = (v.requestMotion act i q).listed i ∧
      (v.requestMotion act i q).answers <+: (s.requestMotions f act r).answers := by
  have still : Begins s s i lead r r := ⟨rfl, rfl, rfl, rfl, fun _ => ⟨rfl, rfl⟩⟩
  unfold State.requestMotions
  dsimp only
  cases i with
  | ma =>
    rw [if_pos (show s.ma.fn = f from n)]
    refine ⟨s, r, still, ?_⟩
    split
    · obtain ⟨frame, apart⟩ := Alters.requestMotion (s.requestMotion act .ma r) act .mb none
      exact ⟨(apart .ma nofun).1, (apart .ma nofun).2, frame .answers (by simp)⟩
    · exact ⟨rfl, rfl, List.prefix_refl _⟩
  | mb =>
    rw [if_pos (show s.mb.fn = f from n), if_pos (show s.mb.fn = f from n)]
    split
    next both =>
      rw [if_pos both] at h
      have alone := motionAlone_requestMotion s act .ma r o
      obtain ⟨-, apart⟩ := Alters.requestMotion s act .ma r
      exact ⟨s.requestMotion act .ma r, none, ⟨(apart .mb nofun).1, alone.interlock, by rw [alone], alone.life, fun e => by
        rw [h] at e
        cases e⟩, rfl, rfl, List.prefix_refl _⟩
    · exact ⟨s, r, still, rfl, rfl, List.prefix_refl _⟩

/-- What stands at the end of the event of what a request has made of drive `i`, in `w`. -/
structure Carries (s w t : State) (i : DriveId) : Prop where
  stands : (w.drive i).Stands s.interlock (t.drive i)
  awaited : ∀ dir, (w.drive i).state = .waitGrant → (w.drive i).direction = some dir →
    (dir = .extend → extendRefusal (w.drive i).fn s.interlock = none) →
    ∃ sl, t.drive i = { w.drive i with slot := sl } ∨ t.drive i = { (w.drive i).travel s.now dir with slot := sl }
  ungranted : w.listed i = false → (∃ sl, t.drive i = { w.drive i with slot := sl }) ∧ ∀ g ∈ t.lb.grants, g.drive ≠ i
  answers : w.answers <+: t.answers

theorem unlisted_of_frame {c : List Block} (f : Frame c s t) (m : Block.grants ∉ c) (n : s.listed i = false) :
    t.listed i = false :=
  Bool.eq_false_iff.2 fun on => Bool.eq_false_iff.1 n (listed_of_frame f m on)

/-- A served motion request, in a node that is awake. -/
theorem motion_served {row : Instr} {fn act : Nat} {f : DriveFn} {e : Entry} {lead : DriveId} {motion : MotionAction}
    (run : exec row s = .next (s.operate fn act fun _ r s => s.moveDrives f motion r))
    (own : s.hasFunction (operateOf e.payload) = true) (k : Takes fn act e s) (l : s.life ≠ .dormant)
    (h : lead = if s.ma.fn = f then .ma else .mb) (n : (s.drive i).fn = f) :
    ∃ t v q, exec row s = .next t ∧ Served [.drives, .grants] s t ∧
      (∀ j, (s.drive j).fn ≠ f → t.life = s.life → (s.drive j).Stands s.interlock (t.drive j)) ∧
      Begins s.popEntry v i lead e.requester q ∧ Carries s.popEntry (v.requestMotion motion i q) t i := by
  set p := s.popEntry with hp
  set x := p.requestMotions f motion e.requester with hx
  have o : p.life.operating = true := operating_of_canTake k.2.1
  have alone : MotionAlone p x := (motionKeeps_alone p).requestMotions f motion e.requester o (.refl p)
  have awake : x.life ≠ .dormant := by rw [alone.life]; exact l
  have woken := frame_wakeForForced p x
  have drives := wakeForForced_drive p awake
  have frame : Frame [.drives, .grants] p (wakeForForced p x) :=
    (frame_requestMotions p f motion e.requester).trans (by simp [Composes]) (woken.widen (by simp))
  have last : (wakeForForced p x).life ≠ .dormant := by rw [(drives .ma).2]; exact awake
  have view : (wakeForForced p x).interlock = s.interlock := frame .interlock (by simp)
  have clock : (wakeForForced p x).now = s.now := frame .clock (by simp)
  have finishes (j : DriveId) : ((wakeForForced p x).drive j).Stands s.interlock ((wakeForForced p x).finish.drive j) := by
    have stands := (finish_changes (wakeForForced p x)).1 .drives (by simp) (finish_life _ last) j
    rw [view] at stands
    exact stands
  obtain ⟨v, q, begins, drive, listed, answers⟩ := requestMotions_reach (act := motion) (r := e.requester) o h n
  have reached : (wakeForForced p x).drive i = (v.requestMotion motion i q).drive i := (drives i).1.trans drive
  refine ⟨(wakeForForced p x).finish, v, q, ?_, served_of_frame (by simp [Composes]) (commissioning_of_canTake k.2.1) (by simp)
    (by simp) frame, fun j other _ => ?_, begins, ⟨?_, fun dir wait d passes => ?_, fun gone => ?_, ?_⟩⟩
  · rw [run, State.operate_served k own]
    unfold State.moveDrives
    rw [if_neg fun a => l a.1]
  · have kept : (wakeForForced p x).drive j = s.drive j := (drives j).1.trans (requestMotions_other motion e.requester other)
    rw [← kept]
    exact finishes j
  · rw [← reached]
    exact finishes i
  · rw [← reached] at wait d passes ⊢
    have out := finish_awaited last wait d (by rw [view]; exact passes)
    rw [clock] at out
    exact out
  · have off : (wakeForForced p x).listed i = false := unlisted_of_frame woken (by simp) (listed.trans gone)
    rw [← reached]
    refine ⟨finish_ungranted last off, fun g mem mine => ?_⟩
    have still := unlisted_of_frame (finish_changes (wakeForForced p x)).1 (by simp) off
    unfold State.listed at still
    rw [List.any_eq_false] at still
    exact still g mem (decide_eq_true mine)
  · exact (answers.trans (woken .answers (by simp))).trans ((finish_changes _).1 .answers (by simp))

section
variable {v w : State} {r q : Option Requester} {lead : DriveId} {code : AnswerCode} {e : Entry} {d : Drive}

/-! ### Answers (R144, R145) -/

theorem Replied.mono (h : Replied r code s u) (p : u.answers <+: t.answers) : Replied r code s t := by
  cases r with
  | none => exact List.IsPrefix.trans h p
  | some _ => exact List.IsPrefix.trans h p

/-- The first drive's answer joins the FIFO, which has room for it. -/
theorem Begins.replied (b : Begins s.popEntry v i lead e.requester q) (k : s.canTake e = true) (first : i = lead)
    (h : (v.reply q code).answers <+: t.answers) : Replied e.requester code s t := by
  obtain ⟨rfl, rfl⟩ := b.first first
  refine Replied.mono (u := s.popEntry.reply e.requester code) (replied_reply (fun n => ?_) rfl) h
  exact ((State.canTake_iff.mp k).2.2.2.2 (Entry.addressed_of_requester n)).1

/-- An answer that a drive waits with, resolved where the FIFO has room. -/
theorem resolve_replied {x : Requester} (slot : (v.drive i).slot = .waiting x) (room : v.fifoHasRoom = true) :
    Replied (some x) code v (v.resolve i code) := by
  have set : (v.onDrive i fun d => { d with slot := .empty }).ts = v.ts := by cases i <;> rfl
  have full : (v.onDrive i fun d => { d with slot := .empty }).fifoHasRoom = true := by
    unfold State.fifoHasRoom at room ⊢
    rw [set]
    exact room
  unfold State.resolve
  rw [slot]
  dsimp only
  rw [if_pos room]
  exact replied_reply (u := v.onDrive i fun d => { d with slot := .empty }) (r := some x) (fun _ => room) (congrArg _ set)

/-- A request that is only answered leaves its drive. -/
theorem Carries.answered (c : Carries s.popEntry (v.reply q code) t i) (b : Begins s.popEntry v i lead e.requester q)
    (k : s.canTake e = true) : (s.drive i).Stands s.interlock (t.drive i) ∧ (i = lead → Replied e.requester code s t) := by
  have stands := c.stands
  rw [State.drive_reply, b.drive] at stands
  exact ⟨stands, fun first => b.replied k first c.answers⟩

/-! ### The wait (R92, R93) -/

/-- A drive that enters the wait asks for its grant. -/
theorem Carries.asks {o : DriveState} {dir : Dir} {sl : Slot} (c : Carries s.popEntry w t i)
    (h : w.drive i = Drive.waits s.now o dir q { d with slot := sl })
    (passes : dir = .extend → extendRefusal d.fn s.interlock = none) :
    d.Asks s.now o dir (dir = .retract && (o = .unknown || o = .jammed)) (t.drive i) := by
  obtain ⟨sl', out⟩ := c.awaited dir (by rw [h]; rfl) (by rw [h]; rfl) (by rw [h]; exact passes)
  rcases out with out | out
  · rw [out, h]
    exact ⟨rfl, rfl, rfl, .inl ⟨rfl, rfl, rfl⟩⟩
  · rw [out, h]
    exact ⟨rfl, rfl, rfl, .inr ⟨rfl, rfl, rfl⟩⟩

theorem queued_drive (v : State) (i : DriveId) (o : DriveState) (dir : Dir) (q : Option Requester) :
    (v.queued i o dir q).drive i = (v.drive i).waits v.now o dir q := by
  cases i <;> rfl

theorem queued_interlock (v : State) (i : DriveId) (o : DriveState) (dir : Dir) (q : Option Requester) :
    (v.queued i o dir q).interlock = v.interlock := by
  cases i <;> rfl

/-- Without a forced cause the wait is what the request has made it. -/
theorem enterWait_drive {o : DriveState} {dir : Dir} (h : forcedCauseOf (v.drive i).fn v.interlock = none) :
    (v.enterWait i o dir q).drive i = (v.drive i).waits v.now o dir q := by
  rw [enterWait_eq, evaluateForced_without (by rw [queued_drive, queued_interlock]; exact h), queued_drive]

theorem redirectWait_drive {o : DriveState} {dir : Dir} (origin : (v.drive i).origin = some o)
    (h : forcedCauseOf (v.drive i).fn v.interlock = none) :
    ∃ sl, (v.redirectWait i dir q).drive i = Drive.waits v.now o dir q { v.drive i with slot := sl } := by
  obtain ⟨sl, e⟩ := v.drive_resolve i .cancelled
  have alone : MotionAlone v (v.resolve i .cancelled) := (motionKeeps_alone v).resolve i _ rfl
  refine ⟨sl, ?_⟩
  unfold State.redirectWait
  rw [origin, enterWait_drive (by rw [e, alone.interlock]; exact h), e, show (v.resolve i .cancelled).now = v.now by rw [alone]]
  rfl

/-- Where the view does not refuse an extension, it forces no retraction (R99, R100). -/
theorem unforced_of_passes {f : DriveFn} {il : Interlock} (h : extendRefusal f il = none) : forcedCauseOf f il = none := by
  cases f with
  | none => rfl
  | step =>
    unfold extendRefusal at h
    unfold forcedCauseOf
    by_cases active : il.driveActive = true
    · rw [if_pos (.inl active)] at h
      cases h
    · rw [if_neg active]
  | awning =>
    unfold extendRefusal at h
    unfold forcedCauseOf
    by_cases active : il.driveActive = true
    · rw [if_pos active] at h
      cases h
    · dsimp only at h ⊢
      rw [if_neg active] at h ⊢
      by_cases wind : il.wind = true
      · rw [if_pos wind] at h
        cases h
      · rw [if_neg wind]

end

end Sys2Proof.Machine
end

section
/-! PROOFS. O54: EXTEND, RETRACT and STOP by the state of the drive. -/

namespace Sys2Proof.Machine

section
variable {v : State} {i : DriveId} {q : Option Requester} {code : AnswerCode} {f : DriveFn}

/-! ### EXTEND (R91, R93, R95) -/

/-- What an EXTEND that does not move the drive is answered. -/
def ExtendRefused (f : DriveFn) (il : Interlock) (d : Drive) (code : AnswerCode) : Prop :=
  ((d.state = .retracted ∨ d.state = .parked) ∧ extendRefusal f il = some code) ∨
    (d.state = .extended ∧ code = .already) ∨ (d.state = .unknown ∧ code = .refusedHomeFirst) ∨
    (d.state = .jammed ∧ code = .refusedFault) ∨
    (d.state = .waitGrant ∧ d.direction = some .extend ∧ code = .already) ∨
    (d.state = .waitGrant ∧ d.direction = some .retract ∧ d.origin = some .unknown ∧
      code = .refusedHomeFirst) ∨
    (d.state = .waitGrant ∧ d.direction = some .retract ∧ d.origin = some .jammed ∧ code = .refusedFault) ∨
    (d.state = .waitGrant ∧ d.direction = some .retract ∧ (d.origin = some .extended ∨ d.origin = some .parked) ∧
      extendRefusal f il = some code) ∨
    ((d.state = .extending ∨ d.state = .retracting ∨ d.state = .braking) ∧
      ((d.forced.isSome ∧ code = .refusedForced) ∨
        (d.forced = none ∧ d.direction = some .extend ∧ code = .already) ∨
        (d.forced = none ∧ d.direction ≠ some .extend ∧ d.homing = true ∧
          code = if d.jam then .refusedFault else .refusedHomeFirst) ∨
        (d.forced = none ∧ d.direction ≠ some .extend ∧ d.homing = false ∧
          extendRefusal f il = some code)))

theorem requestExtend_refused (fn : (v.drive i).fn = f) (h : ExtendRefused f v.interlock (v.drive i) code) :
    v.requestExtend i q = v.reply q code := by
  subst fn
  unfold State.requestExtend
  rcases h with ⟨st | st, r⟩ | ⟨st, rfl⟩ | ⟨st, rfl⟩ | ⟨st, rfl⟩ | ⟨st, d, rfl⟩ | ⟨st, d, o, rfl⟩ | ⟨st, d, o, rfl⟩ |
    ⟨st, d, o | o, r⟩ | ⟨st, way⟩
  case inr.inr.inr.inr.inr.inr.inr.inr =>
    rcases way with ⟨forced, rfl⟩ | ⟨forced, d, rfl⟩ | ⟨forced, d, homing, rfl⟩ | ⟨forced, d, homing, r⟩
    · rcases st with st | st | st <;> simp [st, forced]
    · rcases st with st | st | st <;> simp [st, forced, d]
    · rcases st with st | st | st <;> simp [st, forced, d, homing]
    · rcases st with st | st | st <;> simp [st, forced, d, homing, r]
  all_goals simp [*]

theorem requestExtend_rest (st : (v.drive i).state = .retracted ∨ (v.drive i).state = .parked)
    (r : extendRefusal (v.drive i).fn v.interlock = none) :
    v.requestExtend i q = v.enterWait i (v.drive i).state .extend q := by
  unfold State.requestExtend
  rcases st with st | st <;> simp [st, r]

theorem requestExtend_wait (st : (v.drive i).state = .waitGrant) (d : (v.drive i).direction = some .retract)
    (o : (v.drive i).origin = some .extended ∨ (v.drive i).origin = some .parked)
    (r : extendRefusal (v.drive i).fn v.interlock = none) : v.requestExtend i q = v.redirectWait i .extend q := by
  unfold State.requestExtend
  rcases o with o | o <;> simp [st, d, o, r]

theorem requestExtend_turns (st : (v.drive i).state = .retracting ∨ (v.drive i).state = .braking)
    (forced : (v.drive i).forced = none) (d : (v.drive i).direction ≠ some .extend) (homing : (v.drive i).homing = false)
    (r : extendRefusal (v.drive i).fn v.interlock = none) :
    v.requestExtend i q = (v.onDrive i (Drive.reverse v.now .extend)).reply q .started := by
  unfold State.requestExtend
  rcases st with st | st <;> simp [st, forced, d, homing, r]

/-! ### RETRACT -/

theorem requestRetract_already (h : (v.drive i).state = .retracted ∨
    ((v.drive i).state = .waitGrant ∧ (v.drive i).direction = some .retract) ∨
    (((v.drive i).state = .extending ∨ (v.drive i).state = .retracting ∨ (v.drive i).state = .braking) ∧
      ((v.drive i).forced.isSome ∨ (v.drive i).direction = some .retract))) :
    v.requestRetract i q = v.reply q .already := by
  unfold State.requestRetract
  rcases h with st | ⟨st, d⟩ | ⟨st, way⟩
  · simp [st]
  · simp [st, d]
  · rcases st with st | st | st <;> simp [st, way]

theorem requestRetract_rest {o : DriveState} (st : (v.drive i).state = o)
    (h : o = .extended ∨ o = .parked ∨ o = .unknown ∨ o = .jammed) : v.requestRetract i q = v.enterWait i o .retract q := by
  unfold State.requestRetract
  rcases h with h | h | h | h <;> subst h <;> simp [st]

theorem requestRetract_wait (st : (v.drive i).state = .waitGrant) (d : (v.drive i).direction = some .extend) :
    v.requestRetract i q = v.redirectWait i .retract q := by
  unfold State.requestRetract
  simp [st, d]

theorem requestRetract_turns (st : (v.drive i).state = .extending ∨ (v.drive i).state = .braking)
    (forced : (v.drive i).forced = none) (d : (v.drive i).direction ≠ some .retract) :
    v.requestRetract i q = (v.onDrive i (Drive.reverse v.now .retract)).reply q .started := by
  unfold State.requestRetract
  rcases st with st | st <;> simp [st, forced, d]

/-! ### STOP -/

theorem requestStop_still (st : (v.drive i).state = .retracted ∨ (v.drive i).state = .extended ∨ (v.drive i).state = .parked ∨
    (v.drive i).state = .unknown ∨ (v.drive i).state = .jammed) : v.requestStop i q = v.reply q .already := by
  unfold State.requestStop
  rcases st with st | st | st | st | st <;> simp [st]

theorem requestStop_forced (st : (v.drive i).state = .extending ∨ (v.drive i).state = .retracting ∨ (v.drive i).state = .braking)
    (forced : (v.drive i).forced.isSome = true) : v.requestStop i q = v.reply q .refusedForced := by
  unfold State.requestStop
  rcases st with st | st | st <;> simp [st, forced]

theorem requestStop_wait (st : (v.drive i).state = .waitGrant) :
    v.requestStop i q = ((v.reply q .done).resolve i .cancelled).returnToOrigin i := by
  unfold State.requestStop
  simp [st]

/-- Where a travel that is stopped comes to rest (R95). -/
def Drive.stopsIn (d : Drive) : DriveState := if d.homing then (if d.jam then .jammed else .unknown) else .parked

theorem requestStop_travel (st : (v.drive i).state = .extending ∨ (v.drive i).state = .retracting)
    (forced : (v.drive i).forced = none) :
    v.requestStop i q = (v.reply q .done).comeToRest i (v.drive i).stopsIn := by
  unfold State.requestStop Drive.stopsIn
  rcases st with st | st <;> simp [st, forced]

theorem requestStop_braking (st : (v.drive i).state = .braking) (forced : (v.drive i).forced = none) :
    v.requestStop i q = (v.onDrive i fun d => { d with direction := none }).reply q .done := by
  unfold State.requestStop
  simp [st, forced]

end

end Sys2Proof.Machine
end

section
/-! PROOFS. O54: the rows of STEP and AWNING. -/

namespace Sys2Proof.Machine

section
variable {s v t : State} {i lead : DriveId} {q : Option Requester} {code : AnswerCode} {f : DriveFn} {e : Entry}

/-- The drive a request finds is that of the state before it. -/
theorem Begins.finds (b : Begins s.popEntry v i lead e.requester q) :
    v.drive i = s.drive i ∧ v.interlock = s.interlock ∧ v.now = s.now := ⟨b.drive, b.interlock, b.now⟩

/-- A drive that does not wait moves on as the request has made it. -/
theorem Carries.moves {w : State} (c : Carries s.popEntry w t i) {d : Drive} (h : w.drive i = d) (n : d.state ≠ .waitGrant) :
    (t.drive i).motion = d.motion := by
  subst h
  exact c.stands.1 n

/-- A turn of the drive, answered STARTED. -/
theorem Carries.turned {g : Drive → Drive} (c : Carries s.popEntry ((v.onDrive i g).reply q code) t i)
    (b : Begins s.popEntry v i lead e.requester q) (k : s.canTake e = true) (n : (g (s.drive i)).state ≠ .waitGrant) :
    (t.drive i).motion = (g (s.drive i)).motion ∧ (i = lead → Replied e.requester code s t) := by
  have drive : ((v.onDrive i g).reply q code).drive i = g (s.drive i) := by
    rw [State.drive_reply, ← b.finds.1]
    exact State.drive_setDrive v i _
  refine ⟨c.moves drive n, fun first => ?_⟩
  have ts : (v.onDrive i g).ts.fifo = v.ts.fifo := by cases i <;> rfl
  obtain ⟨rfl, rfl⟩ := b.first first
  exact Replied.mono (replied_reply (fun r => ((State.canTake_iff.mp k).2.2.2.2 (Entry.addressed_of_requester r)).1) ts) c.answers

/-! ### EXTEND -/

theorem extend_refused (c : Carries s.popEntry (v.requestExtend i q) t i) (b : Begins s.popEntry v i lead e.requester q)
    (k : s.canTake e = true) (n : (s.drive i).fn = f) (h : ExtendRefused f s.interlock (s.drive i) code) :
    (s.drive i).Stands s.interlock (t.drive i) ∧ (i = lead → Replied e.requester code s t) := by
  obtain ⟨drive, view, -⟩ := b.finds
  rw [requestExtend_refused (f := f) (code := code) (by rw [drive]; exact n) (by rw [drive, view]; exact h)] at c
  exact c.answered b k

theorem extend_asks (c : Carries s.popEntry (v.requestExtend i q) t i) (b : Begins s.popEntry v i lead e.requester q)
    (n : (s.drive i).fn = f) (r : extendRefusal f s.interlock = none)
    (st : (s.drive i).state = .retracted ∨ (s.drive i).state = .parked) :
    (s.drive i).Asks s.now (s.drive i).state .extend false (t.drive i) := by
  obtain ⟨drive, view, now⟩ := b.finds
  have passes : extendRefusal (v.drive i).fn v.interlock = none := by rw [drive, view, n]; exact r
  rw [requestExtend_rest (by rw [drive]; exact st) passes] at c
  have waits := enterWait_drive (q := q) (o := (v.drive i).state) (dir := .extend) (unforced_of_passes passes)
  rw [drive, now] at waits
  rw [drive] at c
  exact c.asks (d := s.drive i) (sl := (s.drive i).slot) waits fun _ => by rw [n]; exact r

theorem extend_redirects (c : Carries s.popEntry (v.requestExtend i q) t i) (b : Begins s.popEntry v i lead e.requester q)
    (n : (s.drive i).fn = f) (r : extendRefusal f s.interlock = none) {o : DriveState}
    (st : (s.drive i).state = .waitGrant) (d : (s.drive i).direction = some .retract) (origin : (s.drive i).origin = some o)
    (h : o = .extended ∨ o = .parked) : (s.drive i).Asks s.now o .extend false (t.drive i) ∧
      ∀ x, (s.drive i).slot = .waiting x → i = lead → s.fifoHasRoom = true → Replied (some x) .cancelled s t := by
  obtain ⟨drive, view, now⟩ := b.finds
  have passes : extendRefusal (v.drive i).fn v.interlock = none := by rw [drive, view, n]; exact r
  have wait : v.requestExtend i q = v.redirectWait i .extend q :=
    requestExtend_wait (by rw [drive]; exact st) (by rw [drive]; exact d)
      (by rw [drive, origin]; exact h.imp (congrArg some) (congrArg some)) passes
  rw [wait] at c
  obtain ⟨sl, waits⟩ := redirectWait_drive (q := q) (dir := .extend) (by rw [drive]; exact origin) (unforced_of_passes passes)
  rw [drive, now] at waits
  refine ⟨c.asks waits fun _ => by rw [n]; exact r, fun x slot first room => ?_⟩
  obtain ⟨-, same⟩ := b.first first
  subst same
  have resolved : Replied (some x) .cancelled s.popEntry (s.popEntry.resolve i .cancelled) :=
    resolve_replied (by rw [drive]; exact slot) room
  exact resolved.mono (((Alters.enterWait _ i _ _ _).1 .answers (by simp)).trans c.answers)

/-- What the turn of a travel makes of its drive (R96). -/
theorem Drive.reverse_travel {d : Drive} (n : d.state ≠ .braking) (now : Nat) (dir : Dir) : d.reverse now dir =
    { d with
      state := .braking, braked := d.direction, direction := some dir, brakeTimer := some (now + 300),
      travelTimer := none, pulseWatch := none } := if_neg n

theorem Drive.reverse_braking {d : Drive} (h : d.state = .braking) (now : Nat) (dir : Dir) :
    d.reverse now dir = { d with direction := some dir } := if_pos h

theorem Drive.reverse_moves (d : Drive) (now : Nat) (dir : Dir) : (d.reverse now dir).state ≠ .waitGrant := by
  unfold Drive.reverse
  split
  next h =>
    rw [h]
    nofun
  · nofun

theorem extend_turns (c : Carries s.popEntry (v.requestExtend i q) t i) (b : Begins s.popEntry v i lead e.requester q)
    (k : s.canTake e = true) (n : (s.drive i).fn = f) (r : extendRefusal f s.interlock = none)
    (st : (s.drive i).state = .retracting ∨ (s.drive i).state = .braking) (forced : (s.drive i).forced = none)
    (d : (s.drive i).direction ≠ some .extend) (homing : (s.drive i).homing = false) :
    (t.drive i).motion = ((s.drive i).reverse s.now .extend).motion ∧ (i = lead → Replied e.requester .started s t) := by
  obtain ⟨drive, view, now⟩ := b.finds
  rw [requestExtend_turns (by rw [drive]; exact st) (by rw [drive]; exact forced) (by rw [drive]; exact d)
    (by rw [drive]; exact homing) (by rw [drive, view, n]; exact r), now] at c
  exact c.turned b k (Drive.reverse_moves _ _ _)

/-! ### RETRACT -/

theorem retract_already (c : Carries s.popEntry (v.requestRetract i q) t i) (b : Begins s.popEntry v i lead e.requester q)
    (k : s.canTake e = true) (h : (s.drive i).state = .retracted ∨
      ((s.drive i).state = .waitGrant ∧ (s.drive i).direction = some .retract) ∨
      (((s.drive i).state = .extending ∨ (s.drive i).state = .retracting ∨ (s.drive i).state = .braking) ∧
        ((s.drive i).forced.isSome ∨ (s.drive i).direction = some .retract))) :
    (s.drive i).Stands s.interlock (t.drive i) ∧ (i = lead → Replied e.requester .already s t) := by
  rw [requestRetract_already (by rw [b.finds.1]; exact h)] at c
  exact c.answered b k

theorem retract_asks (c : Carries s.popEntry (v.requestRetract i q) t i) (b : Begins s.popEntry v i lead e.requester q)
    (n : (s.drive i).fn = f) {o : DriveState} (st : (s.drive i).state = o)
    (h : o = .extended ∨ o = .parked ∨ o = .unknown ∨ o = .jammed) (free : forcedCauseOf f s.interlock = none) :
    (s.drive i).Asks s.now o .retract (o = .unknown || o = .jammed) (t.drive i) := by
  obtain ⟨drive, view, now⟩ := b.finds
  rw [requestRetract_rest (by rw [drive]; exact st) h] at c
  have waits := enterWait_drive (v := v) (i := i) (q := q) (o := o) (dir := .retract) (by rw [drive, view, n]; exact free)
  rw [drive, now] at waits
  exact c.asks (d := s.drive i) (sl := (s.drive i).slot) waits nofun

/-- A wait that a forced cause ends becomes the retraction, homing but from EXTENDED and PARKED (R101). -/
theorem evaluateForced_waiting {u : State} {o : DriveState} {x : ForcedCause} (l : u.life.operating = true)
    (forced : (u.drive i).forced = none) (cause : forcedCauseOf (u.drive i).fn u.interlock = some x)
    (st : (u.drive i).state = .waitGrant) (origin : (u.drive i).origin = some o)
    (h : o = .extended ∨ o = .parked ∨ o = .unknown ∨ o = .jammed) : u.evaluateForced i =
      ((u.resolve i .cancelled).leaveGrantList i).onDrive i
        (Drive.forcedRetract u.now x (o = .unknown || o = .jammed)) := by
  unfold State.evaluateForced
  dsimp only
  rw [forced, cause, st, origin]
  have branch : u.life = .run ∨ u.life = .dormant ∨ u.life = .listenOnly := by
    cases k : u.life <;> rw [k] at l <;> simp [LifeState.operating] at l ⊢
  rcases branch with b | b | b <;> rw [b] <;> rcases h with h | h | h | h <;> subst h <;> rfl

theorem retract_forced (c : Carries s.popEntry (v.requestRetract i q) t i) (b : Begins s.popEntry v i lead e.requester q)
    (k : s.canTake e = true) (n : (s.drive i).fn = f) {o : DriveState} {x : ForcedCause} (st : (s.drive i).state = o)
    (h : o = .extended ∨ o = .parked ∨ o = .unknown ∨ o = .jammed) (forced : (s.drive i).forced = none)
    (cause : forcedCauseOf f s.interlock = some x) :
    (t.drive i).state = .retracting ∧ (t.drive i).forced = some x ∧ (t.drive i).homing = (o = .unknown || o = .jammed) ∧
      (t.drive i).travelTimer = some (s.now + (s.drive i).travelTime * 150) ∧
      (i = lead → ∀ r, e.requester = some r → Replied (some r) .cancelled s t) := by
  obtain ⟨drive, view, now⟩ := b.finds
  have life : v.life.operating = true := by
    rw [b.life]
    exact operating_of_canTake k
  have waits : (v.queued i o .retract q).drive i = (s.drive i).waits s.now o .retract q := by rw [queued_drive, drive, now]
  have forces : v.requestRetract i q = (((v.queued i o .retract q).resolve i .cancelled).leaveGrantList i).onDrive i
      (Drive.forcedRetract s.now x (o = .unknown || o = .jammed)) := by
    have same : (v.queued i o .retract q).now = s.now := by
      rw [← now]
      cases i <;> rfl
    rw [requestRetract_rest (by rw [drive]; exact st) h, enterWait_eq, evaluateForced_waiting (o := o) (x := x) ?_ ?_ ?_ ?_ ?_ h, same]
    · cases i <;> exact life
    · rw [waits]
      exact forced
    · rw [waits, queued_interlock, view]
      show forcedCauseOf (s.drive i).fn _ = _
      rw [n]
      exact cause
    · rw [waits]
      rfl
    · rw [waits]
      rfl
  rw [forces] at c
  obtain ⟨sl, resolved⟩ := (v.queued i o .retract q).drive_resolve i .cancelled
  have moved : ((((v.queued i o .retract q).resolve i .cancelled).leaveGrantList i).onDrive i
      (Drive.forcedRetract s.now x (o = .unknown || o = .jammed))).drive i =
      Drive.forcedRetract s.now x (o = .unknown || o = .jammed) { (s.drive i).waits s.now o .retract q with slot := sl } := by
    rw [← waits, ← resolved, ← State.drive_leaveGrantList _ i i]
    exact State.drive_setDrive _ _ _
  obtain ⟨m1, -, -, -, m5, m6, -, m8, -⟩ := Drive.motion_eq_iff.1 (c.moves moved nofun)
  refine ⟨m1, m6, m5, m8, fun first r requester => ?_⟩
  obtain ⟨rfl, rfl⟩ := b.first first
  have room : s.fifoHasRoom = true :=
    ((State.canTake_iff.mp k).2.2.2.2 (Entry.addressed_of_requester (by rw [requester]; nofun))).1
  have ts : (s.popEntry.queued i o .retract e.requester).ts = s.ts := by cases i <;> rfl
  have full : (s.popEntry.queued i o .retract e.requester).fifoHasRoom = true := by
    unfold State.fifoHasRoom at room ⊢
    rw [ts]
    exact room
  have answers : (s.popEntry.queued i o .retract e.requester).answers = s.answers := by
    unfold State.answers
    rw [ts]
  have cancelled : Replied (some r) .cancelled (s.popEntry.queued i o .retract e.requester)
      ((s.popEntry.queued i o .retract e.requester).resolve i .cancelled) :=
    resolve_replied (by rw [waits, requester]; rfl) full
  have fifo : ((((s.popEntry.queued i o .retract e.requester).resolve i .cancelled).leaveGrantList i).onDrive i
      (Drive.forcedRetract s.now x (o = .unknown || o = .jammed))).answers =
      ((s.popEntry.queued i o .retract e.requester).resolve i .cancelled).answers := by cases i <;> rfl
  have last := c.answers
  rw [fifo] at last
  have out := cancelled.mono last
  unfold Replied at out ⊢
  rw [answers] at out
  exact out

theorem retract_redirects (c : Carries s.popEntry (v.requestRetract i q) t i) (b : Begins s.popEntry v i lead e.requester q)
    (n : (s.drive i).fn = f) {o : DriveState} (st : (s.drive i).state = .waitGrant)
    (d : (s.drive i).direction = some .extend) (origin : (s.drive i).origin = some o)
    (h : o = .retracted ∨ o = .parked ∨ o = .extended) (free : forcedCauseOf f s.interlock = none) :
    (s.drive i).Asks s.now o .retract false (t.drive i) := by
  obtain ⟨drive, view, now⟩ := b.finds
  rw [requestRetract_wait (by rw [drive]; exact st) (by rw [drive]; exact d)] at c
  obtain ⟨sl, waits⟩ := redirectWait_drive (v := v) (i := i) (q := q) (o := o) (dir := .retract) (by rw [drive]; exact origin)
    (by rw [drive, view, n]; exact free)
  rw [drive, now] at waits
  have asks := c.asks waits nofun
  rcases h with h | h | h <;> subst h <;> exact asks

theorem retract_turns (c : Carries s.popEntry (v.requestRetract i q) t i) (b : Begins s.popEntry v i lead e.requester q)
    (k : s.canTake e = true) (st : (s.drive i).state = .extending ∨ (s.drive i).state = .braking)
    (forced : (s.drive i).forced = none) (d : (s.drive i).direction ≠ some .retract) :
    (t.drive i).motion = ((s.drive i).reverse s.now .retract).motion ∧ (i = lead → Replied e.requester .started s t) := by
  obtain ⟨drive, -, now⟩ := b.finds
  rw [requestRetract_turns (by rw [drive]; exact st) (by rw [drive]; exact forced) (by rw [drive]; exact d), now] at c
  exact c.turned b k (Drive.reverse_moves _ _ _)

/-! ### STOP -/

theorem stop_answered (c : Carries s.popEntry (v.requestStop i q) t i) (b : Begins s.popEntry v i lead e.requester q)
    (k : s.canTake e = true) (h : (((s.drive i).state = .retracted ∨ (s.drive i).state = .extended ∨
        (s.drive i).state = .parked ∨ (s.drive i).state = .unknown ∨ (s.drive i).state = .jammed) ∧ code = .already) ∨
      (((s.drive i).state = .extending ∨ (s.drive i).state = .retracting ∨ (s.drive i).state = .braking) ∧
        (s.drive i).forced.isSome ∧ code = .refusedForced)) :
    (s.drive i).Stands s.interlock (t.drive i) ∧ (i = lead → Replied e.requester code s t) := by
  have drive := b.finds.1
  rcases h with ⟨st, rfl⟩ | ⟨st, forced, rfl⟩
  · rw [requestStop_still (by rw [drive]; exact st)] at c
    exact c.answered b k
  · rw [requestStop_forced (by rw [drive]; exact st) (by rw [drive]; exact forced)] at c
    exact c.answered b k

theorem stop_wait (c : Carries s.popEntry (v.requestStop i q) t i) (b : Begins s.popEntry v i lead e.requester q)
    (k : s.canTake e = true) (n : (s.drive i).fn = f) (free : forcedCauseOf f s.interlock = none) {o : DriveState}
    (st : (s.drive i).state = .waitGrant) (origin : (s.drive i).origin = some o) :
    (t.drive i).state = o ∧ (t.drive i).direction = none ∧ (t.drive i).grantTimer = none ∧
      (∀ g ∈ t.lb.grants, g.drive ≠ i) ∧ (i = lead → Replied e.requester .done s t) := by
  obtain ⟨drive, view, -⟩ := b.finds
  rw [requestStop_wait (by rw [drive]; exact st)] at c
  obtain ⟨sl, resolved⟩ := (v.reply q .done).drive_resolve i .cancelled
  rw [State.drive_reply, drive] at resolved
  have alone : MotionAlone v (((v.reply q .done).resolve i .cancelled).leaveGrantList i) :=
    (motionKeeps_alone v).leaveGrantList i ((motionKeeps_alone v).resolve i _ (motionAlone_reply v q .done))
  have rests : (((v.reply q .done).resolve i .cancelled).returnToOrigin i).drive i =
      Drive.rest o { s.drive i with slot := sl } := by
    unfold State.returnToOrigin
    rw [resolved, show ({ s.drive i with slot := sl } : Drive).origin = some o from origin, Option.getD_some,
      comeToRest_stays (.inr (.inr ?_)), State.drive_leaveGrantList, resolved]
    rw [State.drive_leaveGrantList, resolved, alone.interlock, view]
    show forcedCauseOf (s.drive i).fn _ = _
    rw [n]
    exact free
  have gone : (((v.reply q .done).resolve i .cancelled).returnToOrigin i).listed i = false := by
    refine unlisted_of_frame (moved_comeToRest (((v.reply q .done).resolve i .cancelled).leaveGrantList i) i _).1 (by simp) ?_
    unfold State.listed State.leaveGrantList
    simp
  obtain ⟨⟨sl', at_⟩, grants⟩ := c.ungranted gone
  rw [rests] at at_
  refine ⟨by rw [at_]; rfl, by rw [at_]; rfl, by rw [at_]; rfl, grants, fun first => b.replied k first ?_⟩
  exact ((Alters.resolve i (v.reply q .done) .cancelled).trans (.returnToOrigin i _)).1 .answers (by simp) |>.trans c.answers

theorem stop_travel (c : Carries s.popEntry (v.requestStop i q) t i) (b : Begins s.popEntry v i lead e.requester q)
    (k : s.canTake e = true) (n : (s.drive i).fn = f) (free : forcedCauseOf f s.interlock = none)
    (st : (s.drive i).state = .extending ∨ (s.drive i).state = .retracting) (forced : (s.drive i).forced = none) :
    (t.drive i).state = (s.drive i).stopsIn ∧ (t.drive i).direction = none ∧ (t.drive i).travelTimer = none ∧
      (i = lead → Replied e.requester .done s t) := by
  obtain ⟨drive, view, -⟩ := b.finds
  rw [requestStop_travel (by rw [drive]; exact st) (by rw [drive]; exact forced), drive] at c
  have rests : ((v.reply q .done).comeToRest i (s.drive i).stopsIn).drive i = (s.drive i).rest (s.drive i).stopsIn := by
    have alone : MotionAlone v (v.reply q .done) := motionAlone_reply v q .done
    rw [comeToRest_stays (.inr (.inr ?_)), State.drive_reply, drive]
    rw [State.drive_reply, drive, alone.interlock, view, n]
    exact free
  have still : ((s.drive i).rest (s.drive i).stopsIn).state ≠ .waitGrant := by
    show (s.drive i).stopsIn ≠ .waitGrant
    unfold Drive.stopsIn
    split
    · split <;> nofun
    · nofun
  obtain ⟨m1, -, m3, -, -, -, -, m8, -⟩ := Drive.motion_eq_iff.1 (c.moves rests still)
  refine ⟨m1, m3, m8, fun first => b.replied k first ?_⟩
  exact ((Alters.comeToRest i (v.reply q .done) _).1 .answers (by simp)).trans c.answers

theorem stop_braking (c : Carries s.popEntry (v.requestStop i q) t i) (b : Begins s.popEntry v i lead e.requester q)
    (k : s.canTake e = true) (st : (s.drive i).state = .braking) (forced : (s.drive i).forced = none) :
    (t.drive i).motion = { s.drive i with direction := none }.motion ∧ (i = lead → Replied e.requester .done s t) := by
  have drive := b.finds.1
  rw [requestStop_braking (by rw [drive]; exact st) (by rw [drive]; exact forced)] at c
  exact c.turned b k (by show (s.drive i).state ≠ _; rw [st]; nofun)

/-! ### In DORMANT (R149) -/

theorem moveDrives_discarded {row : Instr} {fn act : Nat} {motion : MotionAction}
    (run : exec row s = .next (s.operate fn act fun _ r s => s.moveDrives f motion r))
    (own : s.hasFunction (operateOf e.payload) = true) (k : Takes fn act e s) (l : s.life = .dormant) (m : motion ≠ .stop) :
    ∃ t, exec row s = .next t ∧ Served [] s t := by
  refine ⟨s.popEntry.finish, ?_, served_of_frame (by simp [Composes]) (by rw [l]; nofun) (by simp) (by simp) (Frame.refl _ _)⟩
  rw [run, State.operate_served k own]
  unfold State.moveDrives
  rw [if_pos ⟨l, m⟩]

/-- A broadcast STOP leaves drives that are at rest. -/
theorem requestMotions_still (idle : s.driveBusy = false) : s.requestMotions f .stop none = s := by
  unfold State.driveBusy at idle
  obtain ⟨ma, mb⟩ := Bool.or_eq_false_iff.1 idle
  have still (i : DriveId) (h : (s.drive i).state.busy = false) : s.requestMotion .stop i none = s := by
    refine requestStop_still (v := s) (q := none) ?_
    cases st : (s.drive i).state <;> rw [st] at h <;> simp [DriveState.busy] at h ⊢
  unfold State.requestMotions
  dsimp only
  rw [still .ma ma, still .mb mb]
  split
  · split <;> rfl
  · split <;> rfl

theorem stop_discarded {row : Instr} {fn act : Nat} (run : exec row s = .next (s.operate fn act fun _ r s => s.moveDrives f .stop r))
    (own : s.hasFunction (operateOf e.payload) = true) (k : Takes fn act e s) (l : s.life = .dormant)
    (idle : s.driveBusy = false) (broadcast : e.addressed = false) : ∃ t, exec row s = .next t ∧ Served [] s t := by
  refine ⟨s.popEntry.finish, ?_, served_of_frame (by simp [Composes]) (by rw [l]; nofun) (by simp) (by simp) (Frame.refl _ _)⟩
  rw [run, State.operate_served k own, Entry.requester_of_broadcast broadcast]
  unfold State.moveDrives
  rw [if_neg (fun h => h.2 rfl), requestMotions_still (s := s.popEntry) idle, wakeForForced,
    startedForced_still rfl rfl]
  rfl

/-! ### O54 -/

theorem exec_motionRow {fn : Nat} {ext ret stop : Instr} (h : (fn, f, ext, ret, stop) ∈
    [(8, DriveFn.step, Instr.stepExtend, Instr.stepRetract, Instr.stepStop),
      (9, .awning, .awningExtend, .awningRetract, .awningStop)]) (s : State) :
    exec ext s = .next (s.operate fn 9 fun _ r s => s.moveDrives f .extend r) ∧
      exec ret s = .next (s.operate fn 10 fun _ r s => s.moveDrives f .retract r) ∧
      exec stop s = .next (s.operate fn 11 fun _ r s => s.moveDrives f .stop r) := by
  simp only [List.mem_cons, Prod.mk.injEq, List.not_mem_nil, or_false] at h
  rcases h with ⟨rfl, rfl, rfl, rfl, rfl⟩ | ⟨rfl, rfl, rfl, rfl, rfl⟩ <;> exact ⟨rfl, rfl, rfl⟩

/-- Settles O54: each request by what it does to one drive, which the drives of the function meet one after the other. -/
theorem motionRequestsFollowTheDrive : Obligations.MotionRequestsFollowTheDrive := by
  intro s e fn f ext ret stop row own
  obtain ⟨extends_, retracts, stops⟩ := exec_motionRow row s
  refine ⟨fun c act m k l => ?_, fun k l idle broadcast => stop_discarded stops own k l idle broadcast,
    fun awake i lead d first hd n => ?_⟩
  · simp only [List.mem_cons, Prod.mk.injEq, List.not_mem_nil, or_false] at m
    rcases m with ⟨rfl, rfl⟩ | ⟨rfl, rfl⟩
    · exact moveDrives_discarded extends_ own k l nofun
    · exact moveDrives_discarded retracts own k l nofun
  subst hd
  refine ⟨fun k => ?_, fun k => ?_, fun k => ?_⟩
  · obtain ⟨t, v, q, run, served, others, b, c⟩ := motion_served extends_ own k awake first n
    refine ⟨t, run, served, others, fun code h => extend_refused c b k.2.1 n h, fun passes => ⟨extend_asks c b n passes,
      fun o st dir origin h => extend_redirects c b n passes st dir origin h, fun st forced dir homing => ?_,
      fun st forced dir homing => ?_⟩⟩
    · obtain ⟨motion, started⟩ := extend_turns c b k.2.1 n passes (.inl st) forced (by rw [dir]; nofun) homing
      rw [Drive.reverse_travel (by rw [st]; nofun), dir] at motion
      exact ⟨motion, started⟩
    · have out := extend_turns c b k.2.1 n passes (.inr st) forced dir homing
      rw [Drive.reverse_braking st] at out
      exact out
  · obtain ⟨t, v, q, run, served, others, b, c⟩ := motion_served retracts own k awake first n
    refine ⟨t, run, served, others, retract_already c b k.2.1, fun o st h forced =>
      ⟨retract_asks c b n st h, fun x cause => retract_forced c b k.2.1 n st h forced cause⟩,
      fun o st dir origin _ h free => retract_redirects c b n st dir origin h free, fun st forced dir => ?_,
      fun st forced dir => ?_⟩
    · obtain ⟨motion, started⟩ := retract_turns c b k.2.1 (.inl st) forced (by rw [dir]; nofun)
      rw [Drive.reverse_travel (by rw [st]; nofun), dir] at motion
      exact ⟨motion, started⟩
    · have out := retract_turns c b k.2.1 (.inr st) forced dir
      rw [Drive.reverse_braking st] at out
      exact out
  · obtain ⟨t, v, q, run, served, others, b, c⟩ := motion_served stops own k awake first n
    refine ⟨t, run, served, others, fun code h => stop_answered c b k.2.1 h, fun free =>
      ⟨fun o st origin => stop_wait c b k.2.1 n free st origin, fun st forced => ?_⟩, stop_braking c b k.2.1⟩
    obtain ⟨state, direction, timer, done⟩ := stop_travel c b k.2.1 n free st forced
    have records : _ ∧ _ := served.1 .driveRecords (by simp)
    have record : (t.drive i).record = (s.drive i).record := by
      cases i
      · exact records.1
      · exact records.2
    have position : (t.drive i).position = (s.drive i).position := congrArg (fun r => r.2.2.2.2.2.1) record
    exact ⟨state, direction, timer, position, done⟩

end

end Sys2Proof.Machine
end

end
